-- ==== Sys2Proof/Word.lean ====
section
/-! DEFINITION. The words of the EB12: bytes, upstream and far addresses, counters, and the numbers of windows,
slots and bus tags (spec/00_scope.md, "Numbers, sizes and addresses" and "Names"). -/

namespace Sys2Proof

/-- One byte, of a frame, a packet or transfer data. -/
abbrev Byte := BitVec 8

/-- An upstream address: 40 bits. -/
abbrev UpAddr := BitVec 40

/-- A far address: 32 bits. -/
abbrev FarAddr := BitVec 32

/-- A counter of the event unit: a 32-bit unsigned quantity (R170). -/
abbrev Counter := BitVec 32

/-- A window number, W0 to W11. -/
abbrev WinId := Fin 12

/-- A slot number, 0 to 31. -/
abbrev SlotId := Fin 32

/-- A bus tag, 0 to 15. -/
abbrev Tag := Fin 16

/-- A set of window event kinds, bit 0 FAULT to bit 5 WAIT (spec/11_formats.md). -/
abbrev WindowKinds := BitVec 6

/-- A set of device event kinds, bit 0 LINK_UP to bit 8 COMMAND_DONE (spec/11_formats.md). -/
abbrev DeviceKinds := BitVec 9

end Sys2Proof
end

