-- ==== Sys2Proof/Machine/Bytes.lean ====
section
/-! DEFINITION. Byte order and the two check codes of spec/11_formats.md: fields most significant byte first, an 8-bit
CRC for the management port and a 16-bit CRC for the far link. -/

namespace Sys2Proof.Machine

/-- The `n` bytes of a field, most significant byte first (spec/11_formats.md). -/
def beBytes : Nat → Nat → List Byte
  | 0, _ => []
  | n + 1, v => BitVec.ofNat 8 (v / 256 ^ n) :: beBytes n v

/-- The value of a field read most significant byte first. -/
def ofBytes (bs : List Byte) : Nat := bs.foldl (fun acc b => acc * 256 + b.toNat) 0

/-- One bit of the 8-bit CRC, polynomial 0x07 (section 11.1). -/
def crc8Bit (c : BitVec 8) : BitVec 8 := if c.msb then (c <<< 1) ^^^ 0x07 else c <<< 1

/-- One byte of the 8-bit CRC. -/
def crc8Byte (c b : BitVec 8) : BitVec 8 :=
  crc8Bit (crc8Bit (crc8Bit (crc8Bit (crc8Bit (crc8Bit (crc8Bit (crc8Bit (c ^^^ b))))))))

/-- The management port's check code: initial value 0x00, no final inversion (section 11.1). -/
def crc8 (bs : List Byte) : BitVec 8 := bs.foldl crc8Byte 0x00

/-- One bit of the 16-bit CRC, polynomial 0x1021 (section 11.1). -/
def crc16Bit (c : BitVec 16) : BitVec 16 := if c.msb then (c <<< 1) ^^^ 0x1021 else c <<< 1

/-- One byte of the 16-bit CRC. -/
def crc16Byte (c : BitVec 16) (b : Byte) : BitVec 16 :=
  crc16Bit (crc16Bit (crc16Bit (crc16Bit (crc16Bit (crc16Bit (crc16Bit (crc16Bit (c ^^^ (b.setWidth 16 <<< 8)))))))))

/-- The far link's check code: initial value 0xFFFF, taken in the same way (section 11.1). -/
def crc16 (bs : List Byte) : BitVec 16 := bs.foldl crc16Byte 0xFFFF

end Sys2Proof.Machine
end

