-- ==== Sys2Proof/Syntax.lean ====
section
/-! DEFINITION. The commands of the EB12: one constructor of `Instr` per row of spec/opcode_table.json, with the row's
operands. Management commands carry their frame's sequence number and the parameter fields of spec/11_formats.md, as
raw as the frame carries them, so that the range checks are the machine's (R174). -/

namespace Sys2Proof

/-- The window definition block of DEFINE, field by field as the frame carries it (spec/11_formats.md). -/
structure DefineParams where
  base         : UpAddr
  size         : BitVec 32
  farBase      : FarAddr
  cls          : Byte
  packetSize   : BitVec 16
  shortPolicy  : Byte
  fillByte     : Byte
  nakInterval  : BitVec 16
  nakLimit     : BitVec 16
  strikeLimit  : Byte
  budget       : BitVec 16
  deriving DecidableEq, Repr

/-- The six parameters of SET-LINK (R132): mode code, cycle length in µs, keep-alive interval in ms, response limit in
µs, recovery limit in ms, acceptance wait limit in µs. -/
structure LinkParams where
  mode          : Byte
  cycleLength   : BitVec 16
  keepAlive     : Byte
  responseLimit : Byte
  recoveryLimit : BitVec 16
  waitLimit     : BitVec 16
  deriving DecidableEq, Repr

/-- What a bus request asks: a READ of a byte count, or a WRITE of its bytes in address order. The byte count of a
WRITE is the number of its bytes (log 28). -/
inductive BusOp where
  | read  (count : Nat)
  | write (data : List Byte)
  deriving DecidableEq, Repr

/-- A request on the system bus: the address of its first byte, what it asks, and its tag. -/
structure BusRequest where
  addr : UpAddr
  op   : BusOp
  tag  : Tag
  deriving DecidableEq, Repr

/-- The detail of a frame error (R156). -/
inductive FrameDetail where
  | check
  | length
  | code
  deriving DecidableEq, Repr

/-- The commands: one constructor per row of spec/opcode_table.json. -/
inductive Instr where
  -- the reset input
  | pinReset
  -- management commands
  | getStatus     (seq : Byte)
  | define        (seq window : Byte) (params : DefineParams)
  | undefine      (seq window : Byte)
  | layout        (seq : Byte) (counts : Vector Byte 12)
  | openWindow    (seq window : Byte)
  | hold          (seq window : Byte)
  | release       (seq window : Byte)
  | fence         (seq window : Byte)
  | unfence       (seq window : Byte)
  | close         (seq window : Byte)
  | flush         (seq window : Byte)
  | readWindow    (seq window : Byte)
  | readFault     (seq window : Byte)
  | readCounters  (seq selector : Byte)
  | clearCounters (seq selector : Byte)
  | attach        (seq : Byte)
  | detach        (seq : Byte)
  | setLink       (seq : Byte) (params : LinkParams)
  | setMasks      (seq windowMask : Byte) (deviceMask : BitVec 16)
  | readEvents    (seq : Byte)
  | ackEvents     (seq target : Byte) (kinds : BitVec 16)
  | abort         (seq : Byte)
  | resetBlockWindows (seq target : Byte)
  | resetBlockLink    (seq target : Byte)
  | resetBlockAll     (seq target : Byte)
  -- other events of the management port
  | frameError     (seq code : Byte) (detail : FrameDetail)
  | frameDiscarded
  -- the bus ports
  | requestPresented   (req : BusRequest)
  | acceptanceAttempt
  | waitLimitExpiry
  | downstreamResponse (tag : Tag) (ok : Bool) (data : List Byte)
  -- packets received from the far module
  | ackReceived    (window : BitVec 4) (bit syncMark : Bool)
  | nakReceived    (window : BitVec 4) (bit : Bool)
  | refuseReceived (window : BitVec 4) (bit : Bool)
  | dataReceived   (window : BitVec 4) (bit : Bool) (data : List Byte)
  | helloReplyReceived (capacity : BitVec 32) (packetLimit : BitVec 16) (fresh : Bool)
  | badCheckPacket
  | otherInboundPacket (typeCode : Byte)
  -- timers of the exchange engine, the transmitter, the arbiter and the link controller
  | responseLimitExpiry (window : WinId)
  | nakIntervalEnd      (window : WinId)
  | transmissionEnd
  | cycleStart
  | keepAliveExpiry
  | probeTimerExpiry
  | attachNoReply
  | recoveryLimitExpiry
  -- the physical layer
  | lossOfSignal
  | signalPresent
  -- transactions of the management port
  | chipSelectFalls
  | resultTransaction (clocked : Nat)
  deriving DecidableEq, Repr

end Sys2Proof
end

