-- ==== Sys2Proof/WellFormed.lean ====
section
/-! DEFINITION. Which terms of `Instr` stand for something the block can be sent. Fields the frame carries raw are
checked by the machine and are not restricted here. -/

namespace Sys2Proof

/-- The command codes of spec/11_formats.md. -/
def commandCodes : List Byte :=
  [0x01, 0x10, 0x11, 0x12, 0x13, 0x14, 0x15, 0x16, 0x17, 0x18, 0x19, 0x1A, 0x1B, 0x20, 0x21, 0x30, 0x31, 0x32,
   0x40, 0x41, 0x42, 0x50, 0x51]

/-- The result opening code: no command frame begins with it (R155). -/
def resultOpeningCode : Byte := 0xA5

/-- The three targets that RESET-BLOCK names (spec/11_formats.md). -/
def resetTargets : List Byte := [1, 2, 3]

/-- The inbound packet types that have a row of their own: HELLO_REPLY, ACK, NAK, REFUSE, DATA. -/
def responseTypes : List Byte := [0x81, 0x90, 0x91, 0x92, 0x93]

/-- A RESET-BLOCK row carries its own target; one whose target names nothing (refused BAD_PARAM, R162) is carried by
the WINDOWS row (log 8). -/
def Instr.resetTargetOk : Instr → Bool
  | .resetBlockWindows _ t => t = 1 || !(resetTargets.contains t)
  | .resetBlockLink _ t => t = 2
  | .resetBlockAll _ t => t = 3
  | _ => true

/-- A frame error carries a code a frame can open with, and detail CODE only for a code that names no command
(R156). -/
def Instr.frameErrorOk : Instr → Bool
  | .frameError _ code detail => code != resultOpeningCode && (detail != .code || !(commandCodes.contains code))
  | _ => true

/-- A DATA packet's 16-bit length field holds its number of data bytes (spec/11_formats.md). -/
def Instr.dataLengthOk : Instr → Bool
  | .dataReceived _ _ data => data.length < 65536
  | _ => true

/-- OTHER_INBOUND_PACKET carries a type that has no row of its own (R82). -/
def Instr.otherTypeOk : Instr → Bool
  | .otherInboundPacket t => !(responseTypes.contains t)
  | _ => true

/-- The command is one the block can be sent. -/
def Instr.wellFormed (i : Instr) : Bool :=
  i.resetTargetOk && i.frameErrorOk && i.dataLengthOk && i.otherTypeOk

end Sys2Proof
end

