-- ==== Sys2Proof/Decode.lean ====
section
/-! DEFINITION. From bytes to rows: a transaction of the management port is judged into its row (R155, R156, R174), and
a received packet of the far link into its row (R81, R82, R176). The opcode table gives no row any bits, so
`decodeTableWord` answers none (log 22). The frames of spec/11_formats.md are also laid out here, for the round trip. -/

namespace Sys2Proof

open Sys2Proof.Machine (beBytes ofBytes crc8 crc16)

/-- The command that a table word spells: the table gives no row any bits (log 22). -/
def decodeTableWord (_nbits _w : Nat) : Option Instr := none

/-- A bit vector of a field's bytes, most significant byte first. -/
def field (n : Nat) (bs : List Byte) (offset size : Nat) : BitVec n :=
  BitVec.ofNat n (ofBytes ((bs.drop offset).take size))

/-- The byte at an offset of the parameters; 0 past their end. -/
def byteAt (bs : List Byte) (offset : Nat) : Byte := bs.getD offset 0

/-- The parameter length that each command code requires; none for a code that names no command
(spec/11_formats.md). -/
def paramLength (code : Byte) : Option Nat :=
  if code = 0x01 || code = 0x30 || code = 0x31 || code = 0x41 || code = 0x50 then some 0
  else if code = 0x10 then some 26
  else if code = 0x12 then some 12
  else if code = 0x32 then some 9
  else if code = 0x40 || code = 0x42 then some 3
  else if commandCodes.contains code then some 1
  else none

/-- The window definition block, decoded by its layout (spec/11_formats.md). -/
def definitionOf (ps : List Byte) : DefineParams :=
  { base := field 40 ps 1 5, size := field 32 ps 6 4, farBase := field 32 ps 10 4, cls := byteAt ps 14,
    packetSize := field 16 ps 15 2, shortPolicy := byteAt ps 17, fillByte := byteAt ps 18,
    nakInterval := field 16 ps 19 2, nakLimit := field 16 ps 21 2, strikeLimit := byteAt ps 23,
    budget := field 16 ps 24 2 }

/-- SET-LINK's parameters, decoded by their layout (spec/11_formats.md). -/
def linkParamsOf (ps : List Byte) : LinkParams :=
  { mode := byteAt ps 0, cycleLength := field 16 ps 1 2, keepAlive := byteAt ps 3, responseLimit := byteAt ps 4,
    recoveryLimit := field 16 ps 5 2, waitLimit := field 16 ps 7 2 }

/-- RESET-BLOCK's row by its target; a target that names nothing goes with the WINDOWS row (log 8). -/
def resetRow (seq target : Byte) : Instr :=
  if target = 2 then .resetBlockLink seq target
  else if target = 3 then .resetBlockAll seq target
  else .resetBlockWindows seq target

/-- The row of a received frame, by its command code, sequence number and parameters (R158). -/
def commandOf (code seq : Byte) (ps : List Byte) : Option Instr :=
  if code = 0x01 then some (.getStatus seq)
  else if code = 0x10 then some (.define seq (byteAt ps 0) (definitionOf ps))
  else if code = 0x11 then some (.undefine seq (byteAt ps 0))
  else if code = 0x12 then some (.layout seq (Vector.ofFn fun i => byteAt ps i.val))
  else if code = 0x13 then some (.openWindow seq (byteAt ps 0))
  else if code = 0x14 then some (.hold seq (byteAt ps 0))
  else if code = 0x15 then some (.release seq (byteAt ps 0))
  else if code = 0x16 then some (.fence seq (byteAt ps 0))
  else if code = 0x17 then some (.unfence seq (byteAt ps 0))
  else if code = 0x18 then some (.close seq (byteAt ps 0))
  else if code = 0x19 then some (.flush seq (byteAt ps 0))
  else if code = 0x1A then some (.readWindow seq (byteAt ps 0))
  else if code = 0x1B then some (.readFault seq (byteAt ps 0))
  else if code = 0x20 then some (.readCounters seq (byteAt ps 0))
  else if code = 0x21 then some (.clearCounters seq (byteAt ps 0))
  else if code = 0x30 then some (.attach seq)
  else if code = 0x31 then some (.detach seq)
  else if code = 0x32 then some (.setLink seq (linkParamsOf ps))
  else if code = 0x40 then some (.setMasks seq (byteAt ps 0) (field 16 ps 1 2))
  else if code = 0x41 then some (.readEvents seq)
  else if code = 0x42 then some (.ackEvents seq (byteAt ps 0) (field 16 ps 1 2))
  else if code = 0x50 then some (.abort seq)
  else if code = 0x51 then some (resetRow seq (byteAt ps 0))
  else none

/-- The judgement of the bytes of a command transaction when chip select rises (R156): discarded while incomplete;
then a wrong check code, bytes after it, an unknown code, a wrong parameter length; otherwise the command. -/
def judgeFrame : List Byte → Instr
  | code :: seq :: n :: rest =>
    if rest.length < n.toNat + 1 then .frameDiscarded
    else
      let ps := rest.take n.toNat
      if crc8 (code :: seq :: n :: ps) ≠ byteAt rest n.toNat then .frameError seq code .check
      else if rest.length ≠ n.toNat + 1 then .frameError seq code .length
      else
        match paramLength code, commandOf code seq ps with
        | some m, some i => if m ≠ n.toNat then .frameError seq code .length else i
        | _, _ => .frameError seq code .code
  | _ => .frameDiscarded

/-- The row of a whole transaction, by the bytes the master sends while chip select is low (R155): no byte at all takes
nothing; the result opening code opens a result transaction, whose later bytes are ignored and clock the record out;
anything else is a command transaction. -/
def rowOfTransaction : List Byte → Instr
  | [] => .frameDiscarded
  | b :: rest => if b = resultOpeningCode then .resultTransaction rest.length else judgeFrame (b :: rest)

/-- The command code of a row that a frame carries (spec/11_formats.md). -/
def Instr.frameCode : Instr → Option Byte
  | .getStatus _ => some 0x01
  | .define .. => some 0x10
  | .undefine .. => some 0x11
  | .layout .. => some 0x12
  | .openWindow .. => some 0x13
  | .hold .. => some 0x14
  | .release .. => some 0x15
  | .fence .. => some 0x16
  | .unfence .. => some 0x17
  | .close .. => some 0x18
  | .flush .. => some 0x19
  | .readWindow .. => some 0x1A
  | .readFault .. => some 0x1B
  | .readCounters .. => some 0x20
  | .clearCounters .. => some 0x21
  | .attach _ => some 0x30
  | .detach _ => some 0x31
  | .setLink .. => some 0x32
  | .setMasks .. => some 0x40
  | .readEvents _ => some 0x41
  | .ackEvents .. => some 0x42
  | .abort _ => some 0x50
  | .resetBlockWindows .. | .resetBlockLink .. | .resetBlockAll .. => some 0x51
  | _ => none

/-- The sequence number of a row that a frame carries; 0 for the others. -/
def Instr.frameSeq : Instr → Byte
  | .getStatus q | .attach q | .detach q | .readEvents q | .abort q => q
  | .define q _ _ => q
  | .undefine q _ | .openWindow q _ | .hold q _ | .release q _ | .fence q _ | .unfence q _ | .close q _ | .flush q _
  | .readWindow q _ | .readFault q _ | .readCounters q _ | .clearCounters q _ => q
  | .layout q _ => q
  | .setLink q _ => q
  | .setMasks q _ _ => q
  | .ackEvents q _ _ => q
  | .resetBlockWindows q _ | .resetBlockLink q _ | .resetBlockAll q _ => q
  | _ => 0

/-- The 25 bytes of the window definition block (spec/11_formats.md). -/
def DefineParams.bytes (d : DefineParams) : List Byte :=
  beBytes 5 d.base.toNat ++ beBytes 4 d.size.toNat ++ beBytes 4 d.farBase.toNat ++ [d.cls]
    ++ beBytes 2 d.packetSize.toNat ++ [d.shortPolicy, d.fillByte] ++ beBytes 2 d.nakInterval.toNat
    ++ beBytes 2 d.nakLimit.toNat ++ [d.strikeLimit] ++ beBytes 2 d.budget.toNat

/-- The nine bytes of SET-LINK's parameters (spec/11_formats.md). -/
def LinkParams.bytes (p : LinkParams) : List Byte :=
  [p.mode] ++ beBytes 2 p.cycleLength.toNat ++ [p.keepAlive, p.responseLimit] ++ beBytes 2 p.recoveryLimit.toNat
    ++ beBytes 2 p.waitLimit.toNat

/-- The parameter bytes of a row that a frame carries (spec/11_formats.md). -/
def Instr.frameParams : Instr → List Byte
  | .define _ w d => w :: d.bytes
  | .undefine _ w | .openWindow _ w | .hold _ w | .release _ w | .fence _ w | .unfence _ w | .close _ w | .flush _ w
  | .readWindow _ w | .readFault _ w | .readCounters _ w | .clearCounters _ w => [w]
  | .layout _ counts => counts.toList
  | .setLink _ p => p.bytes
  | .setMasks _ wm dm => wm :: beBytes 2 dm.toNat
  | .ackEvents _ t ks => t :: beBytes 2 ks.toNat
  | .resetBlockWindows _ t | .resetBlockLink _ t | .resetBlockAll _ t => [t]
  | _ => []

/-- The whole frame of a management command: code, sequence number, parameter length, parameters, check code
(section 11.2); none for a row that no command frame carries. -/
def encodeFrame (i : Instr) : Option (List Byte) :=
  i.frameCode.map fun code =>
    let head := code :: i.frameSeq :: BitVec.ofNat 8 i.frameParams.length :: i.frameParams
    head ++ [crc8 head]

/-- Whether the bytes of a packet, its check code left out, have the length its type requires (R176); a packet of an
unknown type is judged by its check code alone. -/
def packetLengthOk : List Byte → Bool
  | [] => false
  | t :: rest =>
    if t = 0x01 || t = 0x03 then rest.length = 0
    else if t = 0x02 then rest.length = 2
    else if t = 0x10 then 7 ≤ rest.length && rest.length = 7 + (field 16 rest 5 2).toNat
    else if t = 0x11 then rest.length = 7
    else if t = 0x12 || t = 0x90 || t = 0x91 || t = 0x92 then rest.length = 1
    else if t = 0x81 then rest.length = 7
    else if t = 0x93 then 3 ≤ rest.length && rest.length = 3 + (field 16 rest 1 2).toNat
    else true

/-- The row of a good packet, its check code left out (R82). The window is in bits 0 to 3 of the window byte, the
sequence bit in bit 7 and an ACK's SYNC mark in bit 6; the other bits are ignored (R176). -/
def rowOfGoodPacket : List Byte → Instr
  | [] => .badCheckPacket
  | t :: rest =>
    let wb := byteAt rest 0
    let window := wb.setWidth 4
    if t = 0x81 then .helloReplyReceived (field 32 rest 0 4) (field 16 rest 4 2) ((byteAt rest 6).getLsbD 0)
    else if t = 0x90 then .ackReceived window (wb.getLsbD 7) (wb.getLsbD 6)
    else if t = 0x91 then .nakReceived window (wb.getLsbD 7)
    else if t = 0x92 then .refuseReceived window (wb.getLsbD 7)
    else if t = 0x93 then .dataReceived window (wb.getLsbD 7) (rest.drop 3)
    else .otherInboundPacket t

/-- The row of a received packet, by its bytes: a bad-check packet when its 16-bit check code is wrong or its length
does not match its type, and otherwise the row of its type (R81, R82, R176). -/
def rowOfPacket (bytes : List Byte) : Instr :=
  let n := bytes.length - 2
  let body := bytes.take n
  if bytes.length < 3 || crc16 body ≠ field 16 bytes n 2 || !packetLengthOk body then .badCheckPacket
  else rowOfGoodPacket body

end Sys2Proof
end

