-- ==== Sys2Proof/Config.lean ====
section
/-! DEFINITION. What the EB12 fixes: the sizes of its tables and its default parameters; and the one free value, a
payload byte the spec does not state. -/

namespace Sys2Proof.Config

/-- The granule in which base, size and far base are measured: 1 KiB. -/
def granule : Nat := 1024

/-- Bytes of one staging page (R67). -/
def pageBytes : Nat := 256

/-- Pages of staging memory (R67). -/
def totalPages : Nat := 128

/-- The largest page count of one window (R67). -/
def maxPages : Nat := 32

/-- The largest number of local requests outstanding at the downstream port (R32). -/
def maxDownstream : Nat := 16

/-- Response-limit expiries in a row that lose the link (R142). -/
def timeoutRunLimit : Nat := 8

/-- Microseconds between two HELLOs of a probe (R137). -/
def probeInterval : Nat := 1000

/-- Default cycle length, µs (R134). -/
def defaultCycleLength : Nat := 250

/-- Default keep-alive interval, ms (R134). -/
def defaultKeepAlive : Nat := 2

/-- Default response limit, µs (R88). -/
def defaultResponseLimit : Nat := 20

/-- Default recovery limit, ms (R150). -/
def defaultRecoveryLimit : Nat := 50

/-- Default acceptance wait limit, µs (R42). -/
def defaultWaitLimit : Nat := 100

/-- FREE VALUE (log 9): the bytes that READ-WINDOW reports for the exchange's state and strike count when the window
has no exchange. The spec states only that the kind is 0 then. Applied to the count of free values used so far. -/
opaque absentExchangeByte : Nat → Byte

end Sys2Proof.Config
end

