-- ==== Sys2Proof/Machine/State.lean ====
section
/-! DEFINITION. The state of the EB12 as plain data, block by block as spec/00_scope.md divides the part, and the state
right after a pin reset. -/

namespace Sys2Proof.Machine

/-! ### Windows (chapter 1) -/

/-- The eight window states (section 1.4). `opened` is the manual's OPEN. -/
inductive WindowState where
  | unused
  | defined
  | syncing
  | opened
  | held
  | fenced
  | closing
  | halted
  deriving DecidableEq, Repr

/-- A window's class; the budget is present with class PERIODIC (section 1.1). -/
inductive WindowClass where
  | strict
  | posted
  | periodic (budget : Nat)
  deriving DecidableEq, Repr

/-- A window's short policy; the fill byte is present under FILL (section 1.1). -/
inductive ShortPolicy where
  | fill (byte : Byte)
  | error
  deriving DecidableEq, Repr

/-- The definition written by DEFINE (section 1.1): sizes in bytes, NAK interval and limit in µs. -/
structure Definition where
  base        : UpAddr
  size        : Nat
  farBase     : FarAddr
  cls         : WindowClass
  packetSize  : Nat
  shortPolicy : ShortPolicy
  nakInterval : Nat
  nakLimit    : Nat
  strikeLimit : Nat
  deriving DecidableEq, Repr

/-- Why a window halted (R116). -/
inductive FaultCause where
  | refused
  | strikes
  | nakLimit
  | oversize
  | syncFailed
  | moduleReset
  | farRange
  | linkLost
  | aborted
  deriving DecidableEq, Repr

/-- The kinds of strike (section 6.1). -/
inductive StrikeKind where
  | timeout
  | check
  | sequence
  deriving DecidableEq, Repr

/-- The kinds of transfer (R36). -/
inductive TransferKind where
  | postedWrite
  | strictWrite
  | read
  deriving DecidableEq, Repr

/-- The transfer fields of a fault record (R116). -/
structure FaultTransfer where
  kind      : TransferKind
  tag       : Tag
  upAddr    : UpAddr
  farAddr   : FarAddr
  bytesDone : Nat
  deriving DecidableEq, Repr

/-- The fault record of a HALTED window (R116). -/
structure FaultRecord where
  cause     : FaultCause
  strike    : Option StrikeKind
  transfer  : Option FaultTransfer
  discarded : Nat
  deriving DecidableEq, Repr

/-- The nine counters of a window, in the order of the window counter table (section 10.4). -/
structure WindowCounters where
  transfers   : Counter
  bytes       : Counter
  naks        : Counter
  strikes     : Counter
  shortReads  : Counter
  lostWrites  : Counter
  discarded   : Counter
  late        : Counter
  waitExpired : Counter
  deriving DecidableEq, Repr

/-- What an exchange sends: its kind and, for WRITE and READ, far address, length and sequence bit (section 5.2). -/
inductive ExchangeBody where
  | write (far : FarAddr) (len : Nat) (bit : Bool)
  | read  (far : FarAddr) (len : Nat) (bit : Bool)
  | sync
  deriving DecidableEq, Repr

/-- Where an exchange stands (section 5.3). AWAITING carries its response timer, the limit the timer was started with
(R88) and the stamp of its start (R108, log 20); BACKOFF carries the elapsed part of its NAK interval (R97). -/
inductive ExchangeState where
  | ready
  | sending
  | awaiting (elapsed limit stamp : Nat)
  | backoff (elapsed : Nat)
  deriving DecidableEq, Repr

/-- The exchange record (section 5.2). -/
structure Exchange where
  body       : ExchangeBody
  state      : ExchangeState
  strikes    : Nat
  lastStrike : Option StrikeKind
  nakUsed    : Nat
  deriving DecidableEq, Repr

/-- The record of one window (section 1.1), with its place in the exchange engine (section 5.2) and its remaining
budget in the arbiter (R126). -/
structure Window where
  state     : WindowState
  defn      : Option Definition
  pages     : Nat
  queue     : List SlotId
  seqBit    : Bool
  fault     : Option FaultRecord
  pending   : WindowKinds
  counters  : WindowCounters
  exchange  : Option Exchange
  remaining : Option Nat
  deriving DecidableEq, Repr

/-! ### Transfers (chapter 3) -/

/-- The state of a busy slot; FREE is the absence of a transfer (R44). -/
inductive SlotState where
  | queued
  | head
  deriving DecidableEq, Repr

/-- A transfer record (section 3.1). -/
structure Transfer where
  state     : SlotState
  window    : WinId
  kind      : TransferKind
  tag       : Tag
  upAddr    : UpAddr
  farAddr   : FarAddr
  size      : Nat
  bytesDone : Nat
  flushMark : Bool
  cycleMark : Bool
  deriving DecidableEq, Repr

/-! ### The acceptance point (chapter 2) -/

/-- Why the presented request waits (section 2.1). -/
inductive WaitReason where
  | none
  | tag
  | slot
  | staging
  | downstream
  deriving DecidableEq, Repr

/-- The four kinds of ERROR answer that the acceptance point gives (section 2.8). -/
inductive ErrorKind where
  | malformed
  | straddle
  | refused
  | expired
  deriving DecidableEq, Repr

/-- The presented request, with the time it has waited in µs (section 2.1). The expired mark, once present, keeps the
kind of ERROR answer that the request is bound for: it is not judged afresh, and the counter and the event of a malformed
or straddle request belong to the answer (R34, R40, log 12). -/
structure Presented where
  req     : BusRequest
  reason  : WaitReason
  waited  : Nat
  expired : Option ErrorKind
  deriving DecidableEq, Repr

/-- The destination of a tag: NONE, LOCAL or a window (section 2.3). -/
inductive TagDest where
  | none
  | localMem
  | window (w : WinId)
  deriving DecidableEq, Repr

/-- One entry of the tag order table (section 2.3). -/
structure TagEntry where
  dest  : TagDest
  count : Nat
  deriving DecidableEq, Repr

/-- The acceptance point (section 2.1); the wait limit is in µs, 0 for none. -/
structure Acceptance where
  presented  : Option Presented
  tags       : Vector TagEntry 16
  downstream : Nat
  waitLimit  : Nat
  deriving DecidableEq, Repr

/-! ### The exchange engine, the transmit arbiter and the link controller (chapters 5, 7 and 8) -/

/-- What the exchange engine holds beside its records: the response limit in µs (R88), and the MODEL's count of
response timers started (log 20). -/
structure Engine where
  responseLimit : Nat
  timerStarts   : Nat
  deriving DecidableEq, Repr

/-- The link mode (section 7.1). -/
inductive LinkMode where
  | cycled
  | free
  deriving DecidableEq, Repr

/-- A marker waiting for the transmitter (section 7.1). -/
inductive Marker where
  | cycle (count : BitVec 16)
  | idle
  | hello
  deriving DecidableEq, Repr

/-- A packet on the outbound line (section 5.1). -/
inductive Packet where
  | hello
  | cycle (count : BitVec 16)
  | idle
  | write (w : WinId) (bit : Bool) (far : FarAddr) (data : List Byte)
  | read  (w : WinId) (bit : Bool) (far : FarAddr) (len : Nat)
  | sync  (w : WinId)
  deriving DecidableEq, Repr

/-- The running cycle timer: time since the cycle start, and the length the cycle was started with (R124). -/
structure CycleTimer where
  elapsed : Nat
  length  : Nat
  deriving DecidableEq, Repr

/-- The transmit arbiter (section 7.1): cycle length in µs, keep-alive interval in ms, timers in µs, `none` for a
stopped timer and for a FREE transmitter. -/
structure Arbiter where
  mode              : LinkMode
  cycleLength       : Nat
  keepAliveInterval : Nat
  cycleCount        : BitVec 16
  cycleTimer        : Option CycleTimer
  keepAliveTimer    : Option Nat
  marker            : Option Marker
  periodicPtr       : WinId
  generalPtr        : WinId
  transmitter       : Option Packet
  deriving DecidableEq, Repr

/-- The link states (section 8.1). -/
inductive LinkState where
  | detached
  | probing
  | active
  | recovering
  deriving DecidableEq, Repr

/-- The link controller (section 8.1): capacity in 1 KiB units, packet limit in bytes, timers in µs, the recovery limit
in ms. -/
structure Link where
  state         : LinkState
  capacity      : Nat
  packetLimit   : Nat
  signalPresent : Bool
  timeoutRun    : Nat
  probeTimer    : Option Nat
  recoveryTimer : Option Nat
  recoveryLimit : Nat
  deriving DecidableEq, Repr

/-! ### The command unit (chapter 9) -/

/-- The frame receiver (R155); FRAME keeps the bytes of the frame being received. -/
inductive Receiver where
  | idle
  | opening
  | frame (bytes : List Byte)
  | result
  deriving DecidableEq, Repr

/-- The outcomes of a frame (R157). -/
inductive FrameOutcome where
  | none
  | done
  | refused
  | busy
  | pending
  | frameError
  deriving DecidableEq, Repr

/-- The refusal reasons (section 9.4). -/
inductive Reason where
  | badParam
  | windowState
  | overlap
  | linkDown
  | noPages
  | farRange
  | packetSize
  | overCapacity
  | windowsClaiming
  | linkState
  | periodicOpen
  | nothingRunning
  deriving DecidableEq, Repr

/-- The reason field of a result record: absent, a refusal reason or a frame error's detail (R157). -/
inductive ResultReason where
  | absent
  | refusal (r : Reason)
  | detail (d : FrameDetail)
  deriving DecidableEq, Repr

/-- The result record (R157); the payload in the bytes of section 11.3. -/
structure ResultRecord where
  seq     : Byte
  code    : Byte
  outcome : FrameOutcome
  reason  : ResultReason
  payload : List Byte
  deriving DecidableEq, Repr

/-- The states of the long-command record (R160). -/
inductive LongState where
  | none
  | running
  | done
  | failed
  | aborted
  deriving DecidableEq, Repr

/-- The long commands (R160). -/
inductive LongCode where
  | openWindow
  | attach
  | flush
  deriving DecidableEq, Repr

/-- The detail of the long-command record (R160). -/
inductive LongDetail where
  | none
  | cause (c : FaultCause)
  | noReply
  | abort
  | resetWindows
  | resetLink
  | resetAll
  deriving DecidableEq, Repr

/-- The long-command record (R160); no code under NONE. -/
structure LongRecord where
  code   : Option LongCode
  seq    : Byte
  window : Option WinId
  state  : LongState
  detail : LongDetail
  deriving DecidableEq, Repr

/-- The command unit (chapter 9). -/
structure CommandUnit where
  receiver : Receiver
  result   : ResultRecord
  long     : LongRecord
  deriving DecidableEq, Repr

/-! ### The event unit (chapter 10) -/

/-- The seven device counters, in the order of the device counter table (section 10.4). -/
structure DeviceCounters where
  localPassed      : Counter
  straddles        : Counter
  malformed        : Counter
  stray            : Counter
  linkTimeouts     : Counter
  recoveries       : Counter
  localWaitExpired : Counter
  deriving DecidableEq, Repr

/-- The event unit beside the windows' own pending sets and counters: the device pending set, the masks, the device
counters and the ATTN output (chapter 10). -/
structure EventUnit where
  devicePending : DeviceKinds
  windowMask    : WindowKinds
  deviceMask    : DeviceKinds
  counters      : DeviceCounters
  attn          : Bool
  deriving DecidableEq, Repr

/-! ### What leaves the part -/

/-- An answer on the upstream port: its tag, OK or ERROR, and the data of an OK answer to a READ (R37). -/
structure Answer where
  tag  : Tag
  ok   : Bool
  data : List Byte
  deriving DecidableEq, Repr

/-- The MODEL's record of what has left the part, oldest first (log 17): answers on the upstream port, requests
forwarded on the downstream port, packets sent whole on the link, and bytes clocked out by result transactions. -/
structure Outputs where
  answers   : List Answer
  forwarded : List BusRequest
  sent      : List Packet
  clocked   : List Byte
  deriving DecidableEq, Repr

/-! ### The whole part -/

/-- The state of the EB12: the spec's state block by block, then the MODEL's own fields: what has left the part, the
count of free values used (log 9) and the queue of commands not yet taken (log 21). -/
structure State where
  windows  : Vector Window 12
  slots    : Vector (Option Transfer) 32
  staging  : Vector (List Byte) 32
  acc      : Acceptance
  eng      : Engine
  arb      : Arbiter
  link     : Link
  cmd      : CommandUnit
  ev       : EventUnit
  out      : Outputs
  freeUses : Nat
  pending  : List Instr
  deriving DecidableEq, Repr

/-- The reasons for a fault: none. Every command of the table has an effect the spec gives, so nothing raises one
(safe: no run is cut short). -/
inductive Fault where
  deriving DecidableEq, Repr

/-- The reasons for a refusal by the model. -/
inductive Refusal where
  /-- Raised by an arm of `exec` whose command has no meaning yet; no arm does. Safe: the run stops. -/
  | notModelled (mnemonic : String)
  deriving DecidableEq, Repr

/-! ### Reset values -/

/-- All nine window counters at 0 (R173). -/
def WindowCounters.zero : WindowCounters := ⟨0, 0, 0, 0, 0, 0, 0, 0, 0⟩

/-- All seven device counters at 0 (R173). -/
def DeviceCounters.zero : DeviceCounters := ⟨0, 0, 0, 0, 0, 0, 0⟩

/-- A window record after a pin reset (R1). -/
def Window.reset : Window :=
  { state := .unused, defn := none, pages := 0, queue := [], seqBit := false, fault := none, pending := 0,
    counters := .zero, exchange := none, remaining := none }

/-- The acceptance point after a pin reset (R42). -/
def Acceptance.reset : Acceptance :=
  { presented := none, tags := Vector.replicate 16 ⟨.none, 0⟩, downstream := 0,
    waitLimit := Config.defaultWaitLimit }

/-- The transmit arbiter after a pin reset (R134). -/
def Arbiter.reset : Arbiter :=
  { mode := .cycled, cycleLength := Config.defaultCycleLength, keepAliveInterval := Config.defaultKeepAlive,
    cycleCount := 0, cycleTimer := none, keepAliveTimer := none, marker := none, periodicPtr := 11, generalPtr := 11,
    transmitter := none }

/-- The link controller after a pin reset (R150). -/
def Link.reset : Link :=
  { state := .detached, capacity := 0, packetLimit := 0, signalPresent := false, timeoutRun := 0, probeTimer := none,
    recoveryTimer := none, recoveryLimit := Config.defaultRecoveryLimit }

/-- The long-command record NONE (R160). Under NONE its sequence number is 0 and its window is absent, 0xFF in GET-STATUS
(DESIGN CHOICE, log 10: the manual states neither). -/
def LongRecord.reset : LongRecord := { code := none, seq := 0, window := none, state := .none, detail := .none }

/-- The result record after a pin reset (R157, section 11.3). -/
def ResultRecord.reset : ResultRecord := { seq := 0, code := 0, outcome := .none, reason := .absent, payload := [] }

/-- The event unit after a pin reset (R173). -/
def EventUnit.reset : EventUnit :=
  { devicePending := 0, windowMask := 0, deviceMask := 0, counters := .zero, attn := false }

/-- The machine right after a pin reset: every block at the values its chapter states (R1, R42, R66, R80, R88, R104,
R134, R150, R155, R157, R160, R173), and the model's own fields empty. -/
def State.reset : State :=
  { windows := Vector.replicate 12 .reset, slots := Vector.replicate 32 none, staging := Vector.replicate 32 [],
    acc := .reset, eng := { responseLimit := Config.defaultResponseLimit, timerStarts := 0 }, arb := .reset,
    link := .reset, cmd := { receiver := .idle, result := .reset, long := .reset }, ev := .reset,
    out := { answers := [], forwarded := [], sent := [], clocked := [] }, freeUses := 0, pending := [] }

end Sys2Proof.Machine
end

