-- ==== Sys2Proof/Machine/Ops.lean ====
section
/-! DEFINITION. The named operations over windows, slots, staging, tags and the ports, and the passing of time. -/

namespace Sys2Proof.Machine

/-- W0 to W11, in window order. -/
def allWindows : List WinId := [0, 1, 2, 3, 4, 5, 6, 7, 8, 9, 10, 11]

/-- Slots 0 to 31, lowest first. -/
def allSlots : List SlotId :=
  [0, 1, 2, 3, 4, 5, 6, 7, 8, 9, 10, 11, 12, 13, 14, 15, 16, 17, 18, 19, 20, 21, 22, 23, 24, 25, 26, 27, 28, 29, 30,
   31]

/-- Bus tags 0 to 15. -/
def allTags : List Tag := [0, 1, 2, 3, 4, 5, 6, 7, 8, 9, 10, 11, 12, 13, 14, 15]

/-! ### Windows -/

/-- The record of a window. -/
def State.win (s : State) (w : WinId) : Window := s.windows[w]

/-- Writes the record of a window. -/
def State.setWin (s : State) (w : WinId) (x : Window) : State := { s with windows := s.windows.set w x }

/-- Changes the record of a window. -/
def State.modWin (s : State) (w : WinId) (f : Window → Window) : State := s.setWin w (f (s.win w))

/-- Changes every window record at once. -/
def State.mapWins (s : State) (f : WinId → Window → Window) : State :=
  { s with windows := Vector.ofFn fun w => f w (s.win w) }

/-- The states in which a window claims its range (R2). -/
def WindowState.claims : WindowState → Bool
  | .unused | .defined => false
  | .syncing | .opened | .held | .fenced | .closing | .halted => true

/-- The states in which a window may have an exchange (R83): the claiming states but HALTED. -/
def WindowState.live : WindowState → Bool
  | .unused | .defined | .halted => false
  | .syncing | .opened | .held | .fenced | .closing => true

/-- The states in which a window takes requests (R28). -/
def WindowState.takes : WindowState → Bool
  | .opened | .held => true
  | .unused | .defined | .syncing | .fenced | .closing | .halted => false

/-- The states in which a window's queue is carried (R49): OPEN, FENCED and CLOSING. -/
def WindowState.drains : WindowState → Bool
  | .opened | .fenced | .closing => true
  | .unused | .defined | .syncing | .held | .halted => false

/-- The states in which a READY exchange may be sent (R85). -/
def WindowState.mayStart : WindowState → Bool
  | .syncing | .opened | .fenced | .closing => true
  | .unused | .defined | .held | .halted => false

/-- Whether a class is PERIODIC. -/
def WindowClass.isPeriodic : WindowClass → Bool
  | .periodic _ => true
  | .strict | .posted => false

/-- The budget of a class, present with PERIODIC (R126). -/
def WindowClass.budget : WindowClass → Option Nat
  | .periodic b => some b
  | .strict | .posted => none

/-- Whether a window is defined with class PERIODIC. -/
def Window.isPeriodic (x : Window) : Bool :=
  match x.defn with
  | some d => d.cls.isPeriodic
  | none => false

/-- The size of a window's staging area in bytes (R67). -/
def Window.area (x : Window) : Nat := x.pages * Config.pageBytes

/-- Whether a byte address lies in a window's upstream range (section 1.1). -/
def Definition.covers (d : Definition) (a : Nat) : Bool := d.base.toNat ≤ a && a < d.base.toNat + d.size

/-- Whether a claiming window holds the byte at an address (R2). -/
def Window.holds (x : Window) (a : Nat) : Bool :=
  x.state.claims &&
    match x.defn with
    | some d => d.covers a
    | none => false

/-- The claiming window that holds the byte at an address, if any (R2). -/
def State.holder (s : State) (a : Nat) : Option WinId := allWindows.find? fun w => (s.win w).holds a

/-- Far base plus size in 1 KiB units, the quantity compared with the module capacity (R10, R146). -/
def Definition.farEnd (d : Definition) : Nat := (d.farBase.toNat + d.size) / Config.granule

/-- The reset of the window table (R1): every record at its reset value. -/
def State.clearWindows (s : State) : State := { s with windows := Vector.replicate 12 .reset }

/-! ### Slots, queues and staging -/

/-- The transfer in a slot; none when the slot is FREE (R44). -/
def State.slot (s : State) (i : SlotId) : Option Transfer := s.slots[i]

/-- Writes a slot. -/
def State.setSlot (s : State) (i : SlotId) (t : Option Transfer) : State := { s with slots := s.slots.set i t }

/-- Changes the transfer in a busy slot. -/
def State.modSlot (s : State) (i : SlotId) (f : Transfer → Transfer) : State := s.setSlot i ((s.slot i).map f)

/-- The defined content of a slot's reservation, from offset 0 (R67, log 19). -/
def State.reservation (s : State) (i : SlotId) : List Byte := s.staging[i]

/-- Writes the content of a slot's reservation. -/
def State.setReservation (s : State) (i : SlotId) (bs : List Byte) : State :=
  { s with staging := s.staging.set i bs }

/-- Bytes placed into a reservation at an offset: what lies before the offset is kept (R76). -/
def place (content : List Byte) (offset : Nat) (bs : List Byte) : List Byte := content.take offset ++ bs

/-- A slot becomes FREE: its record is discarded and its reservation released (R44, R73). -/
def State.freeSlot (s : State) (i : SlotId) : State := (s.setSlot i none).setReservation i []

/-- Every slot FREE and every reservation released (R66, R80). -/
def State.clearSlots (s : State) : State :=
  { s with slots := Vector.replicate 32 none, staging := Vector.replicate 32 [] }

/-- The lowest-numbered FREE slot, if any (R45). -/
def State.lowestFree (s : State) : Option SlotId := allSlots.find? fun i => (s.slot i).isNone

/-- The number of FREE slots (R65). -/
def State.freeSlots (s : State) : Nat := (allSlots.filter fun i => (s.slot i).isNone).length

/-- The transfers of a queue, in queue order. -/
def State.transfersOf (s : State) (q : List SlotId) : List Transfer := q.filterMap s.slot

/-- A window's reserved bytes: the sum of the sizes of the transfers in its queue (R72). -/
def State.reserved (s : State) (w : WinId) : Nat := ((s.transfersOf (s.win w).queue).map (·.size)).sum

/-- The pages that no window's page count accounts for (R67). -/
def State.unassignedPages (s : State) : Nat :=
  Config.totalPages - (allWindows.map fun w => (s.win w).pages).sum

/-- The head of a window's queue: its slot and its transfer (R47). -/
def State.headOf (s : State) (w : WinId) : Option (SlotId × Transfer) :=
  match (s.win w).queue with
  | [] => none
  | i :: _ => (s.slot i).map fun t => (i, t)

/-! ### Tags and ports -/

/-- An entry of the tag order table. -/
def State.tagEntry (s : State) (t : Tag) : TagEntry := s.acc.tags[t]

/-- Writes an entry of the tag order table. -/
def State.setTag (s : State) (t : Tag) (e : TagEntry) : State :=
  { s with acc := { s.acc with tags := s.acc.tags.set t e } }

/-- A request with this tag becomes outstanding at a destination (R29). -/
def State.tagRises (s : State) (t : Tag) (d : TagDest) : State := s.setTag t ⟨d, (s.tagEntry t).count + 1⟩

/-- The answer to an outstanding request with this tag leaves: the count falls by one, and at 0 the destination becomes
NONE (R29). -/
def State.tagFalls (s : State) (t : Tag) : State :=
  let e := s.tagEntry t
  s.setTag t (if e.count ≤ 1 then ⟨.none, 0⟩ else ⟨e.dest, e.count - 1⟩)

/-- An answer leaves the upstream port (R37). -/
def State.answer (s : State) (a : Answer) : State :=
  { s with out := { s.out with answers := s.out.answers ++ [a] } }

/-- The answer of an outstanding transfer leaves the upstream port (R29, R37). -/
def State.answerTransfer (s : State) (t : Transfer) (ok : Bool) (data : List Byte) : State :=
  (s.answer ⟨t.tag, ok, data⟩).tagFalls t.tag

/-- The presented request is disposed of (R24). -/
def State.dispose (s : State) : State := { s with acc := { s.acc with presented := none } }

/-- The presented request keeps waiting, with this reason (R25). -/
def State.waitFor (s : State) (p : Presented) (r : WaitReason) : State :=
  { s with acc := { s.acc with presented := some { p with reason := r } } }

/-! ### Time (log 1) -/

/-- A timer runs on, no further than its limit. -/
def runTimer (n limit elapsed : Nat) : Nat := max elapsed (min (elapsed + n) limit)

/-- An exchange as time passes: the response timer runs in AWAITING (R88), the NAK interval in BACKOFF (R97), and the
NAK-limit clock with it while the window is not HELD and the link is ACTIVE (R110). -/
def Exchange.elapse (n interval : Nat) (clockRuns : Bool) (x : Exchange) : Exchange :=
  match x.state with
  | .awaiting e l st => { x with state := .awaiting (runTimer n l e) l st }
  | .backoff e =>
    let e' := runTimer n interval e
    { x with state := .backoff e', nakUsed := if clockRuns then min 65535 (x.nakUsed + (e' - e)) else x.nakUsed }
  | .ready | .sending => x

/-- A window as time passes. -/
def Window.elapse (n : Nat) (linkActive : Bool) (x : Window) : Window :=
  match x.exchange, x.defn with
  | some e, some d =>
    { x with exchange := some (e.elapse n d.nakInterval (linkActive && x.state != .held)) }
  | _, _ => x

/-- `n` microseconds pass: every running timer of the part runs on, and nothing else happens (log 1, log 25). -/
def State.elapse (n : Nat) (s : State) : State :=
  let active := s.link.state = .active
  { s.mapWins (fun _ x => x.elapse n active) with
    acc := { s.acc with presented := s.acc.presented.map fun p => { p with waited := p.waited + n } }
    arb := { s.arb with
      cycleTimer := s.arb.cycleTimer.map fun c => { c with elapsed := runTimer n c.length c.elapsed }
      keepAliveTimer := s.arb.keepAliveTimer.map (runTimer n (s.arb.keepAliveInterval * 1000)) }
    link := { s.link with
      probeTimer := s.link.probeTimer.map (runTimer n Config.probeInterval)
      recoveryTimer := s.link.recoveryTimer.map (runTimer n (s.link.recoveryLimit * 1000)) } }

end Sys2Proof.Machine
end

