-- ==== Sys2Proof/Machine/Flags.lean ====
section
/-! DEFINITION. Events, counters and the ATTN line (chapter 10), and the completion of long commands (R160). -/

namespace Sys2Proof.Machine

/-- The window event kinds (section 10.1). -/
inductive WindowKind where
  | fault
  | discard
  | short
  | late
  | closed
  | wait
  deriving DecidableEq, Repr

/-- The device event kinds (section 10.1). -/
inductive DeviceKind where
  | linkUp
  | linkDown
  | recovering
  | recovered
  | modeChanged
  | straddle
  | malformed
  | stray
  | commandDone
  deriving DecidableEq, Repr

/-- A window kind as a bit of a set of kinds (spec/11_formats.md). -/
def WindowKind.bit : WindowKind → WindowKinds
  | .fault => 0x01
  | .discard => 0x02
  | .short => 0x04
  | .late => 0x08
  | .closed => 0x10
  | .wait => 0x20

/-- A device kind as a bit of a set of kinds (spec/11_formats.md). -/
def DeviceKind.bit : DeviceKind → DeviceKinds
  | .linkUp => 0x001
  | .linkDown => 0x002
  | .recovering => 0x004
  | .recovered => 0x008
  | .modeChanged => 0x010
  | .straddle => 0x020
  | .malformed => 0x040
  | .stray => 0x080
  | .commandDone => 0x100

/-- The level that R167 gives ATTN: at least one pending cause is of an unmasked kind. -/
def State.attnLevel (s : State) : Bool :=
  (allWindows.any fun w => (s.win w).pending &&& s.ev.windowMask != 0)
    || (s.ev.devicePending &&& s.ev.deviceMask != 0)

/-- ATTN takes the level of R167. -/
def State.setAttn (s : State) : State := { s with ev := { s.ev with attn := s.attnLevel } }

/-- A kind is raised for a window (R165, R167). -/
def State.raiseWindow (s : State) (w : WinId) (k : WindowKind) : State :=
  (s.modWin w fun x => { x with pending := x.pending ||| k.bit }).setAttn

/-- A kind is raised for the device (R165, R167). -/
def State.raiseDevice (s : State) (k : DeviceKind) : State :=
  State.setAttn { s with ev := { s.ev with devicePending := s.ev.devicePending ||| k.bit } }

/-! ### Counters -/

/-- The largest value of a counter (R170). -/
def counterMax : Nat := 4294967295

/-- A counter grows by an amount and saturates (R170). -/
def grow (c : Counter) (n : Nat) : Counter := BitVec.ofNat 32 (min counterMax (c.toNat + n))

/-- The window counters by name (section 10.4). -/
inductive WindowCounter where
  | transfers
  | bytes
  | naks
  | strikes
  | shortReads
  | lostWrites
  | discarded
  | late
  | waitExpired
  deriving DecidableEq, Repr

/-- The device counters by name (section 10.4). -/
inductive DeviceCounter where
  | localPassed
  | straddles
  | malformed
  | stray
  | linkTimeouts
  | recoveries
  | localWaitExpired
  deriving DecidableEq, Repr

/-- One window counter grows. -/
def WindowCounters.grow (c : WindowCounters) (k : WindowCounter) (n : Nat) : WindowCounters :=
  match k with
  | .transfers => { c with transfers := Machine.grow c.transfers n }
  | .bytes => { c with bytes := Machine.grow c.bytes n }
  | .naks => { c with naks := Machine.grow c.naks n }
  | .strikes => { c with strikes := Machine.grow c.strikes n }
  | .shortReads => { c with shortReads := Machine.grow c.shortReads n }
  | .lostWrites => { c with lostWrites := Machine.grow c.lostWrites n }
  | .discarded => { c with discarded := Machine.grow c.discarded n }
  | .late => { c with late := Machine.grow c.late n }
  | .waitExpired => { c with waitExpired := Machine.grow c.waitExpired n }

/-- One device counter grows. -/
def DeviceCounters.grow (c : DeviceCounters) (k : DeviceCounter) (n : Nat) : DeviceCounters :=
  match k with
  | .localPassed => { c with localPassed := Machine.grow c.localPassed n }
  | .straddles => { c with straddles := Machine.grow c.straddles n }
  | .malformed => { c with malformed := Machine.grow c.malformed n }
  | .stray => { c with stray := Machine.grow c.stray n }
  | .linkTimeouts => { c with linkTimeouts := Machine.grow c.linkTimeouts n }
  | .recoveries => { c with recoveries := Machine.grow c.recoveries n }
  | .localWaitExpired => { c with localWaitExpired := Machine.grow c.localWaitExpired n }

/-- A counter of a window grows in the step of the rule that counts (R170). -/
def State.countWindow (s : State) (w : WinId) (k : WindowCounter) (n : Nat) : State :=
  s.modWin w fun x => { x with counters := x.counters.grow k n }

/-- A counter of the device grows (R170). -/
def State.countDevice (s : State) (k : DeviceCounter) (n : Nat) : State :=
  { s with ev := { s.ev with counters := s.ev.counters.grow k n } }

/-- A stray response, or what is counted as one: STRAY grows and the event STRAY is raised (R102, R109, R138). -/
def State.stray (s : State) : State := (s.countDevice .stray 1).raiseDevice .stray

/-! ### Long commands -/

/-- A running long command leaves RUNNING with a state and a detail, and COMMAND_DONE is raised (R160); nothing
happens when none runs. -/
def State.completeLong (s : State) (st : LongState) (d : LongDetail) : State :=
  if s.cmd.long.state = .running then
    State.raiseDevice { s with cmd := { s.cmd with long := { s.cmd.long with state := st, detail := d } } } .commandDone
  else s

/-- Whether the long-command record is RUNNING for this command. -/
def State.runsLong (s : State) (code : LongCode) : Bool :=
  s.cmd.long.state = .running && s.cmd.long.code = some code

/-- Whether a long command is RUNNING for this window: OPEN or FLUSH (R160). -/
def State.runsFor (s : State) (w : WinId) : Bool :=
  s.cmd.long.state = .running && s.cmd.long.window = some w

/-- The long command of this code, if it is the one running, completes DONE (R12, R62, R139). -/
def State.completeDone (s : State) (code : LongCode) : State :=
  if s.runsLong code then s.completeLong .done .none else s

end Sys2Proof.Machine
end

