-- ==== Sys2Proof/Machine/Transfers.lean ====
section
/-! DEFINITION. Transfers and window queues (chapter 3), their staging (chapter 4), and the failure path (chapter 6). -/

namespace Sys2Proof.Machine

/-! ### Offering packets (section 3.5) -/

/-- The packet of a transfer that begins at offset bytes done, as an exchange record's body (R49, R84): its length is
the smaller of the packet size and what is left, and its bit is the window's. -/
def packetBody (t : Transfer) (packetSize : Nat) (bit : Bool) : ExchangeBody :=
  let far := t.farAddr + BitVec.ofNat 32 t.bytesDone
  let len := min packetSize (t.size - t.bytesDone)
  match t.kind with
  | .postedWrite | .strictWrite => .write far len bit
  | .read => .read far len bit

/-- A new exchange record in READY (R84). -/
def Exchange.new (body : ExchangeBody) : Exchange :=
  { body := body, state := .ready, strikes := 0, lastStrike := none, nakUsed := 0 }

/-- The head's next packet is offered, and its exchange created, when the window is OPEN, FENCED or CLOSING and the
head has no exchange (R49, R51, R83). -/
def State.offer (s : State) (w : WinId) : State :=
  let x := s.win w
  match x.exchange, x.defn, s.headOf w with
  | none, some d, some (_, t) =>
    if x.state.drains then
      s.modWin w fun x => { x with exchange := some (.new (packetBody t d.packetSize x.seqBit)) }
    else s
  | _, _, _ => s

/-! ### The done and short ends (R52 to R57) -/

/-- The next transfer in a queue, if any, becomes head (R47). -/
def State.promote (s : State) (w : WinId) : State :=
  match (s.win w).queue with
  | [] => s
  | i :: _ => s.modSlot i fun t => { t with state := .head }

/-- A CLOSING window whose queue is empty goes to DEFINED and CLOSED is raised (R19). -/
def State.finishClosing (s : State) (w : WinId) : State :=
  let x := s.win w
  if x.state = .closing && x.queue.isEmpty then
    (s.modWin w fun x => { x with state := .defined, exchange := none }).raiseWindow w .closed
  else s

/-- The head ends done or short with the answer given (steps 1 to 7 of R52): the answer of a strict transfer leaves and
its tag falls; the slot and the reservation are freed; the transfer leaves the queue and the next becomes head; the
counters grow (R57); a flush mark completes FLUSH DONE (R62); a CLOSING window with an empty queue goes to DEFINED
(R19); the next packet is offered (R49, R51). -/
def State.endHead (s : State) (w : WinId) (i : SlotId) (t : Transfer) (ok : Bool) (data : List Byte) : State :=
  let s := if t.kind = .postedWrite then s else s.answerTransfer t ok data
  let s := s.freeSlot i
  let s := s.modWin w fun x => { x with queue := x.queue.tail }
  let s := s.promote w
  let s := (s.countWindow w .transfers 1).countWindow w .bytes t.bytesDone
  let s := if t.flushMark then s.completeDone .flush else s
  (s.finishClosing w).offer w

/-- The exchange of a successful packet is removed and the window's sequence bit toggles (R50, R89). -/
def State.settleExchange (s : State) (w : WinId) : State :=
  s.modWin w fun x => { x with exchange := none, seqBit := !x.seqBit }

/-- The head moves forward by a packet whose success is accepted (R50): it ends done when bytes done reaches size
(R52), and otherwise its next packet is offered or held back (R49, R51). A READ's answer carries its reservation in
address order (R77). -/
def State.packetSucceeds (s : State) (w : WinId) (len : Nat) : State :=
  let s := s.settleExchange w
  match s.headOf w with
  | none => s
  | some (i, t) =>
    let t' := { t with bytesDone := t.bytesDone + len }
    let s := s.setSlot i (some t')
    if t'.bytesDone = t'.size then
      s.endHead w i t' true (if t.kind = .read then s.reservation i else [])
    else s.offer w

/-- The bytes of an accepted DATA response are placed in the head's reservation from offset bytes done (R76). -/
def State.placeRead (s : State) (w : WinId) (data : List Byte) : State :=
  match s.headOf w with
  | none => s
  | some (i, t) => s.setReservation i (place (s.reservation i) t.bytesDone data)

/-- The fill byte of a window whose short policy is FILL (R55, R78). -/
def Window.fillByte (x : Window) : Option Byte :=
  match x.defn with
  | some d =>
    match d.shortPolicy with
    | .fill b => some b
    | .error => none
  | none => none

/-- The head READ ends short after the received bytes have been placed (R54): under FILL the rest of the reservation is
filled and the answer is OK, with SHORT raised (R55, R78); under ERROR the answer is ERROR with no data (R56). -/
def State.endShort (s : State) (w : WinId) (received : Nat) : State :=
  let s := s.settleExchange w
  match s.headOf w with
  | none => s
  | some (i, t) =>
    let t' := { t with bytesDone := t.bytesDone + received }
    let s := (s.setSlot i (some t')).countWindow w .shortReads 1
    match (s.win w).fillByte with
    | some b =>
      let s := s.setReservation i (place (s.reservation i) t'.bytesDone (List.replicate (t'.size - t'.bytesDone) b))
      (s.raiseWindow w .short).endHead w i t' true (s.reservation i)
    | none => s.endHead w i t' false []

/-! ### The failure path (section 6.4) -/

/-- A transfer ends by failure: a posted write is counted, a strict transfer is answered ERROR with no data and its tag
falls (R113, R114). -/
def State.failTransfer (s : State) (w : WinId) (counter : WindowCounter) (t : Transfer) : State :=
  if t.kind = .postedWrite then s.countWindow w counter 1 else s.answerTransfer t false []

/-- The transfers of a failing queue end in queue order: the head in LOST_WRITES, those behind it in DISCARDED if
posted (R113, R114). -/
def State.failQueue (s : State) (w : WinId) : List Transfer → State
  | [] => s
  | h :: rest => rest.foldl (fun s t => s.failTransfer w .discarded t) (s.failTransfer w .lostWrites h)

/-- The posted writes discarded behind a failing head (R116). -/
def discardedOf (ts : List Transfer) : Nat := (ts.tail.filter fun t => t.kind = .postedWrite).length

/-- The transfer fields of a fault record, of the head; the far address of the failing packet is the failing
exchange's, or the head's far address plus its bytes done (R116). -/
def faultTransferOf (failFar : Option FarAddr) (ts : List Transfer) : Option FaultTransfer :=
  ts.head?.map fun t =>
    { kind := t.kind, tag := t.tag, upAddr := t.upAddr,
      farAddr := failFar.getD (t.farAddr + BitVec.ofNat 32 t.bytesDone), bytesDone := t.bytesDone }

/-- A window halts through the failure path, in one step (R13, R20, R113 to R116): its transfers end in queue order,
their slots become FREE, its exchange is removed, the fault record is written, FAULT is raised, and DISCARD when a
posted write was discarded; a long command RUNNING for the window completes FAILED with the cause (R13, R63). A
SYNCING window has no queue, so its record has no transfer fields. -/
def State.haltWindow (s : State) (w : WinId) (cause : FaultCause) (strike : Option StrikeKind)
    (failFar : Option FarAddr) : State :=
  let q := (s.win w).queue
  let ts := s.transfersOf q
  let s := s.failQueue w ts
  let s := q.foldl (fun s i => s.freeSlot i) s
  let record : FaultRecord :=
    { cause := cause, strike := strike, transfer := faultTransferOf failFar ts, discarded := discardedOf ts }
  let s := s.modWin w fun x => { x with state := .halted, queue := [], exchange := none, fault := some record }
  let s := s.raiseWindow w .fault
  let s := if discardedOf ts = 0 then s else s.raiseWindow w .discard
  if s.runsFor w then s.completeLong .failed (.cause cause) else s

/-- Every window that may have an exchange halts with one cause, in window order (R147, R149; log 11). -/
def State.haltAllLive (s : State) (cause : FaultCause) : State :=
  allWindows.foldl (fun s w => if (s.win w).state.live then s.haltWindow w cause none none else s) s

/-- The exchange of a window fails with a cause and is handed to the failure path (R98, R99, R107, R111): a SYNC
exchange fails with cause SYNC_FAILED and no strike kind (R13, R116). -/
def State.failExchange (s : State) (w : WinId) (x : Exchange) (cause : FaultCause) (strike : Option StrikeKind) :
    State :=
  match x.body with
  | .sync => s.haltWindow w .syncFailed none none
  | .write far _ _ | .read far _ _ => s.haltWindow w cause strike (some far)

/-! ### Window-table reset (section 1.10) -/

/-- A transfer ends by a window-table reset: a strict one is answered ERROR under tag order, a posted one is discarded
without being counted (R23). -/
def State.dropTransfer (s : State) (t : Transfer) : State :=
  if t.kind = .postedWrite then s else s.answerTransfer t false []

/-- Every transfer of every queue ends, window by window in queue order (R23, R66). -/
def State.dropAllTransfers (s : State) : State :=
  allWindows.foldl (fun s w => (s.transfersOf (s.win w).queue).foldl State.dropTransfer s) s

end Sys2Proof.Machine
end

