-- ==== Sys2Proof/Machine/Arbitration.lean ====
section
/-! DEFINITION. Cycles and the transmit arbiter (chapter 7). -/

namespace Sys2Proof.Machine

/-! ### Choosing the next packet (section 7.2) -/

/-- Whether a window's exchange is eligible to be sent (R85): READY, its window SYNCING, OPEN, FENCED or CLOSING, the
link ACTIVE. -/
def State.eligible (s : State) (w : WinId) : Bool :=
  s.link.state = .active && (s.win w).state.mayStart &&
    match (s.win w).exchange with
    | some x => x.state = .ready
    | none => false

/-- The bytes that sending an exchange spends from a PERIODIC window's budget: its length, and nothing for a SYNC
(R127). -/
def ExchangeBody.cost : ExchangeBody → Nat
  | .write _ len _ | .read _ len _ => len
  | .sync => 0

/-- Whether an exchange of a PERIODIC window fits its remaining budget (R122). -/
def Window.fits (x : Window) : Bool :=
  match x.exchange with
  | some e => e.body = .sync || e.body.cost ≤ x.remaining.getD 0
  | none => false

/-- The windows in the order that follows a pointer, ending at the pointer itself (R122). -/
def searchOrder (ptr : WinId) : List WinId := allWindows.map fun k => ptr + 1 + k

/-- The PERIODIC window that step 2 of R122 finds. -/
def State.periodicCandidate (s : State) : Option WinId :=
  (searchOrder s.arb.periodicPtr).find? fun w => (s.win w).isPeriodic && s.eligible w && (s.win w).fits

/-- The STRICT or POSTED window that step 3 of R122 finds. -/
def State.generalCandidate (s : State) : Option WinId :=
  (searchOrder s.arb.generalPtr).find? fun w => !(s.win w).isPeriodic && s.eligible w

/-- The packet of an exchange (R85); a WRITE's data is read from its reservation from offset bytes done (R75). -/
def State.formPacket (s : State) (w : WinId) (body : ExchangeBody) : Packet :=
  match body with
  | .sync => .sync w
  | .read far len bit => .read w bit far len
  | .write far len bit =>
    match s.headOf w with
    | some (i, t) => .write w bit far (((s.reservation i).drop t.bytesDone).take len)
    | none => .write w bit far []

/-- A chosen exchange goes from READY to SENDING, its packet is formed, its length is spent from the remaining budget
of a PERIODIC window, and the pointer of its class is set to its window (R85, R122, R127). -/
def State.sendExchange (s : State) (w : WinId) : State :=
  match (s.win w).exchange with
  | none => s
  | some e =>
    let packet := s.formPacket w e.body
    let periodic := (s.win w).isPeriodic
    let s := s.modWin w fun x =>
      { x with exchange := some { e with state := .sending }
               remaining := if periodic then x.remaining.map (· - e.body.cost) else x.remaining }
    { s with arb := { s.arb with
        transmitter := some packet
        periodicPtr := if periodic then w else s.arb.periodicPtr
        generalPtr := if periodic then s.arb.generalPtr else w } }

/-- The packet of a marker. -/
def Marker.packet : Marker → Packet
  | .cycle n => .cycle n
  | .idle => .idle
  | .hello => .hello

/-- The arbiter makes a choice (R121, R122): nothing while the transmitter is SENDING; otherwise the pending marker,
then a PERIODIC exchange that fits, then a STRICT or POSTED exchange. -/
def State.choose (s : State) : State :=
  match s.arb.transmitter with
  | some _ => s
  | none =>
    match s.arb.marker with
    | some m => { s with arb := { s.arb with marker := none, transmitter := some m.packet } }
    | none =>
      match s.periodicCandidate with
      | some w => s.sendExchange w
      | none =>
        match s.generalCandidate with
        | some w => s.sendExchange w
        | none => s

/-! ### Cycle starts (sections 7.3 to 7.5) -/

/-- A PERIODIC window whose head carries the head-at-cycle-start mark is late (R129). -/
def State.isLate (s : State) (w : WinId) : Bool :=
  (s.win w).isPeriodic &&
    match s.headOf w with
    | some (_, t) => t.cycleMark
    | none => false

/-- The head of a PERIODIC window receives the head-at-cycle-start mark (R129). -/
def State.markHead (s : State) (w : WinId) : State :=
  if (s.win w).isPeriodic then
    match s.headOf w with
    | some (i, t) => s.setSlot i (some { t with cycleMark := true })
    | none => s
  else s

/-- Every head of a PERIODIC window receives the mark (step 2 of R129). -/
def State.markHeads (s : State) : State := allWindows.foldl State.markHead s

/-- Late detection (R129): each late window counts LATE and raises it; then every head of a PERIODIC window is
marked. -/
def State.lateDetection (s : State) : State :=
  let s := allWindows.foldl
    (fun s' w => if s.isLate w then (s'.countWindow w .late 1).raiseWindow w .late else s') s
  s.markHeads

/-- Every defined PERIODIC window has its remaining budget set to its budget (R125). -/
def Window.refill (x : Window) : Window :=
  match x.defn.bind (·.cls.budget) with
  | some b => { x with remaining := some b }
  | none => x

/-- A cycle start, in one step (R125): the count grows, a CYCLE marker with the new count is pending, budgets are
refilled, late detection runs, and the cycle timer starts with the cycle length in force. -/
def State.startCycle (s : State) : State :=
  let count := s.arb.cycleCount + 1
  let s := { s with arb := { s.arb with
    cycleCount := count, marker := some (.cycle count), cycleTimer := some ⟨0, s.arb.cycleLength⟩ } }
  (s.mapWins fun _ x => x.refill).lateDetection

/-- What entering ACTIVE starts: a cycle in CYCLED mode (R124), the keep-alive timer in FREE mode (R130). -/
def State.startTraffic (s : State) : State :=
  match s.arb.mode with
  | .cycled => s.startCycle
  | .free => { s with arb := { s.arb with keepAliveTimer := some 0 } }

/-- The heads that a step with a cycle start has made since are marked with the others, in CYCLED mode (R129, R145). -/
def State.markNewHeads (s : State) : State :=
  match s.arb.mode with
  | .cycled => s.markHeads
  | .free => s

/-- The cycle timer and the keep-alive timer stop and a pending marker is dropped, as the link leaves its state
(R123). -/
def State.quietArbiter (s : State) : State :=
  { s with arb := { s.arb with cycleTimer := none, keepAliveTimer := none, marker := none } }

/-- A HELLO falls due (R137): it becomes the pending marker, and one already pending stays; the probe timer starts
again. -/
def State.helloDue (s : State) : State :=
  { s with arb := { s.arb with marker := some .hello }, link := { s.link with probeTimer := some 0 } }

/-! ### Mode changes (section 7.7) -/

/-- A pending IDLE marker is dropped. -/
def dropIdle : Option Marker → Option Marker
  | some .idle => none
  | m => m

/-- A pending CYCLE marker is dropped. -/
def dropCycle : Option Marker → Option Marker
  | some (.cycle _) => none
  | m => m

/-- The mode changes from FREE to CYCLED (R131, R132): on an ACTIVE link the keep-alive timer stops, a pending IDLE is
dropped and a cycle starts at once; otherwise the mode is recorded. -/
def State.toCycled (s : State) : State :=
  let s := { s with arb := { s.arb with mode := .cycled } }
  if s.link.state = .active then
    State.startCycle { s with arb := { s.arb with keepAliveTimer := none, marker := dropIdle s.arb.marker } }
  else s

/-- The mode changes from CYCLED to FREE (R132): the cycle timer stops, a pending CYCLE is dropped, and on an ACTIVE
link the keep-alive timer starts from 0. -/
def State.toFree (s : State) : State :=
  { s with arb := { s.arb with
      mode := .free, cycleTimer := none, marker := dropCycle s.arb.marker
      keepAliveTimer := if s.link.state = .active then some 0 else s.arb.keepAliveTimer } }

/-- The keep-alive timer reaches its interval: an IDLE marker becomes pending and the timer stops (R130). -/
def State.idleDue (s : State) : State :=
  { s with arb := { s.arb with marker := some .idle, keepAliveTimer := none } }

end Sys2Proof.Machine
end

