-- ==== Sys2Proof/Machine/Acceptance.lean ====
section
/-! DEFINITION. The acceptance point (chapter 2): classification, tag order, the resources a request needs, taking,
forwarding and the wait limit. -/

namespace Sys2Proof.Machine

/-! ### Classification (section 2.2) -/

/-- The byte count of a request, as carried on the bus. -/
def BusOp.count : BusOp → Nat
  | .read n => n
  | .write data => data.length

/-- The classes of handling of R27; a far request's further treatment is its window's state (R28). -/
inductive Handling where
  | malformed
  | straddle
  | far (w : WinId)
  | localMem
  deriving DecidableEq, Repr

/-- Whether a request is malformed (R26): byte count 0 or above 256, or its bytes cross a 4 KiB boundary. -/
def malformedRequest (r : BusRequest) : Bool :=
  let n := BusOp.count r.op
  n = 0 || n > 256 || r.addr.toNat / 4096 != (r.addr.toNat + n - 1) / 4096

/-- The class of handling of a request, by the window table as it stands (R26, R27). -/
def State.classify (s : State) (r : BusRequest) : Handling :=
  if malformedRequest r then .malformed
  else
    match s.holder r.addr.toNat, s.holder (r.addr.toNat + BusOp.count r.op - 1) with
    | none, none => .localMem
    | some v, some w => if v = w then .far w else .straddle
    | _, _ => .straddle

/-! ### Judging a request (sections 2.3 and 2.4) -/

/-- What an attempt finds for a request: an ERROR answer of a kind, a taking into a slot, a forwarding, or a wait. -/
inductive Verdict where
  | error (k : ErrorKind)
  | take (w : WinId) (slot : SlotId)
  | forward
  | wait (r : WaitReason)
  deriving DecidableEq, Repr

/-- An answer of the acceptance point's own is given when the tag's destination is NONE, and waits with reason TAG
otherwise (R30). -/
def State.errorVerdict (s : State) (t : Tag) (k : ErrorKind) : Verdict :=
  if (s.tagEntry t).dest = .none then .error k else .wait .tag

/-- The kind of transfer a request becomes in a window of a class (R36). -/
def transferKind (c : WindowClass) : BusOp → TransferKind
  | .read _ => .read
  | .write _ =>
    match c with
    | .strict => .strictWrite
    | .posted | .periodic _ => .postedWrite

/-- The kind of transfer a request becomes in a window. -/
def Window.kindFor (x : Window) (op : BusOp) : TransferKind :=
  match x.defn with
  | some d => transferKind d.cls op
  | none => transferKind .strict op

/-- Whether the tag permits a far request: its destination is NONE, or for a request that becomes outstanding the same
window (R29, R30). -/
def State.tagPermitsFar (s : State) (r : BusRequest) (w : WinId) : Bool :=
  let dest := (s.tagEntry r.tag).dest
  dest = .none || ((s.win w).kindFor r.op != .postedWrite && dest = .window w)

/-- Judges a far request for a window that takes requests: tag, slot and staging, in that order (R31). -/
def State.judgeFar (s : State) (r : BusRequest) (w : WinId) : Verdict :=
  if !s.tagPermitsFar r w then .wait .tag
  else
    match s.lowestFree with
    | none => .wait .slot
    | some i => if s.reserved w + BusOp.count r.op ≤ (s.win w).area then .take w i else .wait .staging

/-- Judges a local request: tag, then downstream (R29, R32). -/
def State.judgeLocal (s : State) (r : BusRequest) : Verdict :=
  let dest := (s.tagEntry r.tag).dest
  if dest != .none && dest != .localMem then .wait .tag
  else if s.acc.downstream < Config.maxDownstream then .forward
  else .wait .downstream

/-- Judges a request afresh against the window table, the tag order table and the resources as they stand (R25 to
R32). -/
def State.judge (s : State) (r : BusRequest) : Verdict :=
  match s.classify r with
  | .malformed => s.errorVerdict r.tag .malformed
  | .straddle => s.errorVerdict r.tag .straddle
  | .localMem => s.judgeLocal r
  | .far w => if (s.win w).state.takes then s.judgeFar r w else s.errorVerdict r.tag .refused

/-! ### Disposing of a request (sections 2.6 to 2.8) -/

/-- The transfer record written at taking (R36, R45). -/
def Window.newTransfer (x : Window) (w : WinId) (r : BusRequest) : Transfer :=
  { state := if x.queue.isEmpty then .head else .queued
    window := w
    kind := x.kindFor r.op
    tag := r.tag
    upAddr := r.addr
    farAddr :=
      match x.defn with
      | some d => d.farBase + (r.addr - d.base).setWidth 32
      | none => 0
    size := BusOp.count r.op
    bytesDone := 0
    flushMark := false
    cycleMark := false }

/-- The bytes copied into the reservation at taking: a WRITE's data; nothing for a READ (R75, R76). -/
def BusOp.copied : BusOp → List Byte
  | .read _ => []
  | .write data => data

/-- A far request is taken into a slot, in one step (R36, R45 to R47): its record and its reservation are written, it
joins the queue at the tail, a posted write is answered OK and any other becomes outstanding; the packet of a new head
is offered (R49), and the arbiter makes a choice (R121). -/
def State.take (s : State) (r : BusRequest) (w : WinId) (i : SlotId) : State :=
  let t := (s.win w).newTransfer w r
  let s := (s.setSlot i (some t)).setReservation i (BusOp.copied r.op)
  let s := s.modWin w fun x => { x with queue := x.queue ++ [i] }
  let s := if t.kind = .postedWrite then s.answer ⟨r.tag, true, []⟩ else s.tagRises r.tag (.window w)
  (s.dispose.offer w).choose

/-- A local request is forwarded unchanged (R38). -/
def State.forward (s : State) (r : BusRequest) : State :=
  let s := (s.tagRises r.tag .localMem).countDevice .localPassed 1
  State.dispose { s with
    acc := { s.acc with downstream := s.acc.downstream + 1 }
    out := { s.out with forwarded := s.out.forwarded ++ [r] } }

/-- An ERROR answer of the acceptance point: with the tag, no data, and the tag order table unchanged (R40). -/
def State.errorAnswer (s : State) (t : Tag) : State := (s.answer ⟨t, false, []⟩).dispose

/-- The counter and the event that belong to an ERROR answer, by its kind (R26, R27, section 2.8); those of an expiry come
at the expiry (R40). -/
def State.note (s : State) : ErrorKind → State
  | .malformed => (s.countDevice .malformed 1).raiseDevice .malformed
  | .straddle => (s.countDevice .straddles 1).raiseDevice .straddle
  | .refused | .expired => s

/-- What a verdict does to the presented request. -/
def State.apply (s : State) (p : Presented) : Verdict → State
  | .error k => (s.note k).errorAnswer p.req.tag
  | .take w i => s.take p.req w i
  | .forward => s.forward p.req
  | .wait r => s.waitFor p r

/-- An attempt on a request that carries the expired mark: it is not judged afresh, but answered ERROR once its tag's
destination is NONE, with the counter and the event of the kind fixed at its expiry, and waits with reason TAG until then
(R25, R30, R34, R40). -/
def State.attemptExpired (s : State) (p : Presented) (k : ErrorKind) : State :=
  if (s.tagEntry p.req.tag).dest = .none then (s.note k).errorAnswer p.req.tag else s.waitFor p .tag

/-- The acceptance point makes an attempt on the presented request, if there is one (R25). -/
def State.attempt (s : State) : State :=
  match s.acc.presented with
  | none => s
  | some p =>
    match p.expired with
    | some k => s.attemptExpired p k
    | none => s.apply p (s.judge p.req)

/-! ### The wait limit (section 2.5) -/

/-- What the expiry of the wait limit counts and raises (R34): a local request that still waits counts in
LOCAL_WAIT_EXPIRED; a far one of an OPEN or HELD window that still waits counts in WAIT_EXPIRED and raises WAIT; one
bound for an ERROR answer counts nothing. -/
def State.countExpiry (s : State) (r : BusRequest) : State :=
  match s.judge r with
  | .wait _ =>
    match s.classify r with
    | .localMem => s.countDevice .localWaitExpired 1
    | .far w =>
      if (s.win w).state.takes then (s.countWindow w .waitExpired 1).raiseWindow w .wait else s
    | .malformed | .straddle => s
  | .error _ | .take _ _ | .forward => s

/-- The kind of ERROR answer that a request whose wait limit expires is bound for, by the windows as they stand (R34): a
malformed or straddle request and one refused by window state keep their kind (log 12). -/
def State.errorKind (s : State) (r : BusRequest) : ErrorKind :=
  match s.classify r with
  | .malformed => .malformed
  | .straddle => .straddle
  | .far w => if (s.win w).state.takes then .expired else .refused
  | .localMem => .expired

/-- The acceptance wait limit expires for the presented request (R34): it is judged as it stands and counted, receives
the expired mark, and is answered ERROR under R30. -/
def State.expireWait (s : State) (p : Presented) : State :=
  let k := s.errorKind p.req
  let s := s.countExpiry p.req
  let p := { p with expired := some k }
  State.attemptExpired { s with acc := { s.acc with presented := some p } } p k

/-- Whether a step has changed the state or the queue of any window: a queue changes when a slot and its staging are
freed and a tag falls (R25). -/
def State.windowsMoved (old new : State) : Bool :=
  allWindows.any fun w =>
    (new.win w).state != (old.win w).state || (new.win w).queue != (old.win w).queue

/-- The attempt that a step's effects on the windows cause, if any (R25). -/
def State.attemptSince (new old : State) : State := if State.windowsMoved old new then new.attempt else new

/-- What ends a step that frees something a waiting request may need: the acceptance point's attempt (R25), then the
arbiter's choice (R121) (log 3). -/
def State.settle (s : State) : State := s.attempt.choose

end Sys2Proof.Machine
end

