-- ==== Sys2Proof/Machine/BusEvents.lean ====
section
/-! DEFINITION. The events of the two bus ports (chapter 2). -/

namespace Sys2Proof.Machine

/-- The upstream port presents a request and the acceptance point makes its first attempt (R24, R25). While a request
is held none can be presented, and nothing happens (R33, log 5). -/
def execRequestPresented (req : BusRequest) (s : State) : Host.Outcome State Fault Refusal :=
  match s.acc.presented with
  | some _ => .next s
  | none =>
    .next (State.attempt
      { s with acc := { s.acc with presented := some { req := req, reason := .none, waited := 0, expired := none } } })

/-- The waiting request is judged afresh (R25). -/
def execAcceptanceAttempt (s : State) : Host.Outcome State Fault Refusal := .next s.attempt

/-- The acceptance wait limit expires for the presented request (R34): the rest of its time passes (log 1), then the
expiry. Nothing happens without a presented request, with the limit at 0, or once it has expired (log 2). -/
def execWaitLimitExpiry (s : State) : Host.Outcome State Fault Refusal :=
  match s.acc.presented with
  | none => .next s
  | some p =>
    if p.expired.isSome || s.acc.waitLimit = 0 then .next s
    else
      let n := s.acc.waitLimit - p.waited
      .next ((s.elapse n).expireWait { p with waited := p.waited + n })

/-- A response of local memory is passed back unchanged, its counts falling; one that belongs to no forwarded request
is discarded (R39). A response belongs to a forwarded request when its tag is outstanding at LOCAL: the manual gives the
part nothing else to tell it by. So a response that was in flight at a reset, and that arrived once its tag is LOCAL again
for a new request, would be passed back as that request's answer; that the downstream port, which is reset with the part,
delivers none of them is assumed (R42, DESIGN CHOICE, log 26). -/
def execDownstreamResponse (tag : Tag) (ok : Bool) (data : List Byte) (s : State) :
    Host.Outcome State Fault Refusal :=
  if (s.tagEntry tag).dest = .localMem ∧ s.acc.downstream ≠ 0 then
    let s := (s.answer ⟨tag, ok, data⟩).tagFalls tag
    .next (State.attempt { s with acc := { s.acc with downstream := s.acc.downstream - 1 } })
  else .next s

end Sys2Proof.Machine
end

