-- ==== Sys2Proof/Machine/Exchanges.lean ====
section
/-! DEFINITION. The exchange engine's matching of responses (chapter 5), strikes and the NAK limit (chapter 6), and the
link controller's part in losing, recovering and giving up the link (chapter 8). -/

namespace Sys2Proof.Machine

/-! ### Link states (chapter 8) -/

/-- The link enters DETACHED: its timers stop, the timeout run, capacity and packet limit are 0, the arbiter's timers
stop and a pending marker is dropped (R123, R140, R141, R147, R149). -/
def State.toDetached (s : State) : State :=
  State.quietArbiter { s with link := { s.link with
    state := .detached, capacity := 0, packetLimit := 0, timeoutRun := 0, probeTimer := none, recoveryTimer := none } }

/-- The link enters ACTIVE with the values of an accepted reply: the probe and recovery timers stop, the timeout run is
0 and a pending HELLO is dropped (R123, R138, R139, R145). -/
def State.toActive (s : State) (capacity packetLimit : Nat) : State :=
  State.quietArbiter { s with link := { s.link with
    state := .active, capacity := capacity, packetLimit := packetLimit, timeoutRun := 0, probeTimer := none,
    recoveryTimer := none } }

/-- An exchange as the link enters RECOVERING: SENDING and AWAITING are rewound to READY, BACKOFF stays (R144). -/
def Exchange.rewind (x : Exchange) : Exchange :=
  match x.state with
  | .sending | .awaiting _ _ _ => { x with state := .ready }
  | .ready | .backoff _ => x

/-- The link is lost while ACTIVE, in one step (R144). -/
def State.enterRecovering (s : State) : State :=
  let s := { s with link := { s.link with state := .recovering, timeoutRun := 0, recoveryTimer := some 0 } }
  let s := (s.raiseDevice .recovering).countDevice .recoveries 1
  let s := s.mapWins fun _ x => { x with exchange := x.exchange.map Exchange.rewind }
  s.quietArbiter.helloDue

/-- Recovery is given up (R147): the link enters DETACHED, LINK_DOWN is raised, and every window that may have an
exchange halts with cause LINK_LOST. -/
def State.giveUpRecovery (s : State) : State := (s.toDetached.raiseDevice .linkDown).haltAllLive .linkLost

/-- Whether a window no longer fits the module (R146). -/
def State.outOfRange (s : State) (w : WinId) : Bool :=
  match (s.win w).defn with
  | some d => d.farEnd > s.link.capacity || d.packetSize > s.link.packetLimit
  | none => false

/-- The states that a fresh module halts: OPEN, HELD, FENCED, CLOSING, but not SYNCING (R146). -/
def WindowState.carriesQueue (x : WindowState) : Bool := x.live && x != .syncing

/-- The windows are checked against an accepted reply during recovery (R146): first the fresh flag, then the far range
and the packet size. -/
def State.recoveryCheck (s : State) (fresh : Bool) : State :=
  let s := if fresh then
      allWindows.foldl (fun s w =>
        if (s.win w).state.carriesQueue then s.haltWindow w .moduleReset none none else s) s
    else s
  allWindows.foldl (fun s w =>
    if (s.win w).state.live && s.outOfRange w then s.haltWindow w .farRange none none else s) s

/-- Every good packet ends the timeout run, in any link state (R82, R142). -/
def State.goodPacket (s : State) : State := { s with link := { s.link with timeoutRun := 0 } }

/-! ### Strikes (sections 6.1 and 6.2) -/

/-- An AWAITING exchange suffers a strike (R106): its count grows, its last strike kind is set and STRIKES grows; below
the strike limit it returns to READY, and at the limit it fails (R107). -/
def State.strike (s : State) (w : WinId) (k : StrikeKind) : State :=
  match (s.win w).exchange, (s.win w).defn with
  | some x, some d =>
    let x' := { x with state := .ready, strikes := x.strikes + 1, lastStrike := some k }
    let s := s.countWindow w .strikes 1
    let s := s.modWin w fun y => { y with exchange := some x' }
    if x'.strikes < d.strikeLimit then s else s.failExchange w x' .strikes (some k)
  | _, _ => s

/-- Whether an exchange is AWAITING. -/
def Exchange.isAwaiting (x : Exchange) : Bool :=
  match x.state with
  | .awaiting _ _ _ => true
  | .ready | .sending | .backoff _ => false

/-- The stamp of an AWAITING exchange's response timer. -/
def Window.awaitStamp (x : Window) : Option Nat :=
  match x.exchange with
  | some e =>
    match e.state with
    | .awaiting _ _ st => some st
    | .ready | .sending | .backoff _ => none
  | none => none

/-- Of two windows the one whose exchange has been AWAITING longer. -/
def State.older (s : State) (best : Option WinId) (w : WinId) : Option WinId :=
  match (s.win w).awaitStamp with
  | none => best
  | some b =>
    match best.bind fun v => (s.win v).awaitStamp with
    | none => some w
    | some a => if b < a then some w else best

/-- The window whose exchange has been AWAITING longest, if any exchange is AWAITING (R108). -/
def State.longestAwaiting (s : State) : Option WinId := allWindows.foldl s.older none

/-! ### Matching a response (section 5.6) -/

/-- The types of a response (R82), an ACK with its SYNC mark and a DATA with its bytes. -/
inductive Response where
  | ack (syncMark : Bool)
  | nak
  | refuse
  | data (bytes : List Byte)
  deriving DecidableEq, Repr

/-- Whether a response's type fits an exchange's kind (step 3 of R94). -/
def Response.fits : Response → ExchangeBody → Bool
  | .ack mark, .write .. => !mark
  | .ack mark, .sync => mark
  | .ack _, .read .. => false
  | .nak, _ => true
  | .refuse, _ => true
  | .data _, .read .. => true
  | .data _, .write .. => false
  | .data _, .sync => false

/-- Whether a response's sequence bit agrees with the exchange's; a SYNC exchange's is not compared (step 4 of R94,
R100). -/
def ExchangeBody.bitAgrees : ExchangeBody → Bool → Bool
  | .write _ _ b, bit => b == bit
  | .read _ _ b, bit => b == bit
  | .sync, _ => true

/-- Where R94 leaves a response: stray, a sequence mismatch, or settling the exchange of a window. -/
inductive Match where
  | stray
  | mismatch (w : WinId)
  | settles (w : WinId) (x : Exchange)
  deriving DecidableEq, Repr

/-- A window number from the 4-bit field of a window byte; none above 11. -/
def windowOfField (f : BitVec 4) : Option WinId := if h : f.toNat < 12 then some ⟨f.toNat, h⟩ else none

/-- Matches a good response, in the order of R94; outside ACTIVE every response is stray (R82, R135). -/
def State.matchResponse (s : State) (f : BitVec 4) (bit : Bool) (r : Response) : Match :=
  match windowOfField f with
  | none => .stray
  | some w =>
    match (s.win w).exchange with
    | none => .stray
    | some x =>
      match x.state with
      | .awaiting _ _ _ =>
        if s.link.state != .active || !r.fits x.body then .stray
        else if x.body.bitAgrees bit then .settles w x
        else .mismatch w
      | .ready | .sending | .backoff _ => .stray

/-! ### Acting on a settling response (sections 5.7 to 5.9) -/

/-- A SYNC exchange is acknowledged (R12, R100): the window goes from SYNCING to OPEN with sequence bit 0, and OPEN
completes DONE. -/
def State.syncAcknowledged (s : State) (w : WinId) : State :=
  let s := s.modWin w fun x => { x with state := .opened, exchange := none, seqBit := false }
  if s.cmd.long.window = some w then s.completeDone .openWindow else s

/-- An ACK settles a WRITE or SYNC exchange (R95, R100). -/
def State.takeAck (s : State) (w : WinId) (x : Exchange) : State :=
  match x.body with
  | .write _ len _ => s.packetSucceeds w len
  | .sync => s.syncAcknowledged w
  | .read .. => s

/-- A NAK settles an exchange (R96, R111): NAKS grows and the strike count returns to 0; when the NAK time used plus the
NAK interval would pass a non-zero NAK limit the exchange fails, and otherwise it enters BACKOFF. -/
def State.takeNak (s : State) (w : WinId) (x : Exchange) : State :=
  match (s.win w).defn with
  | none => s
  | some d =>
    let x' := { x with state := .backoff 0, strikes := 0 }
    let s := s.countWindow w .naks 1
    let s := s.modWin w fun y => { y with exchange := some x' }
    if d.nakLimit ≠ 0 ∧ x.nakUsed + d.nakInterval > d.nakLimit then s.failExchange w x' .nakLimit none else s

/-- A REFUSE settles an exchange (R98, R100). -/
def State.takeRefuse (s : State) (w : WinId) (x : Exchange) : State := s.failExchange w x .refused none

/-- A DATA settles a READ exchange and is judged by its length against the length asked (R99). -/
def State.takeData (s : State) (w : WinId) (x : Exchange) (data : List Byte) : State :=
  match x.body with
  | .read _ len _ =>
    if data.length = len then (s.placeRead w data).packetSucceeds w len
    else if data.length < len then (s.placeRead w data).endShort w data.length
    else s.failExchange w x .oversize none
  | .write .. | .sync => s

/-- What a settling response does, by its type. -/
def State.takeResponse (s : State) (w : WinId) (x : Exchange) : Response → State
  | .ack _ => s.takeAck w x
  | .nak => s.takeNak w x
  | .refuse => s.takeRefuse w x
  | .data bytes => s.takeData w x bytes

/-- A good response is received (R82, R94, R101, R102): the timeout run ends; a stray response is counted, a sequence
mismatch is a SEQUENCE strike, and a settling response is acted on; then the attempt and the choice its effects
cause (R25, R121). -/
def State.receive (s : State) (f : BitVec 4) (bit : Bool) (r : Response) : State :=
  let s := s.goodPacket
  match s.matchResponse f bit r with
  | .stray => s.stray
  | .mismatch w => ((s.strike w .sequence).attemptSince s).choose
  | .settles w x =>
    let s' := (s.takeResponse w x r).attemptSince s
    match r with
    | .ack _ | .data _ => s'.choose
    | .nak | .refuse => s'

end Sys2Proof.Machine
end

