-- ==== Sys2Proof/Machine/Formats.lean ====
section
/-! DEFINITION. The byte layouts of spec/11_formats.md: the result record, the payloads of the reading commands, and
the packets the EB12 sends. -/

namespace Sys2Proof.Machine

/-! ### Codes (section 11.3) -/

/-- Window state codes. -/
def WindowState.code : WindowState → Byte
  | .unused => 0
  | .defined => 1
  | .syncing => 2
  | .opened => 3
  | .held => 4
  | .fenced => 5
  | .closing => 6
  | .halted => 7

/-- Fault cause codes. -/
def FaultCause.code : FaultCause → Byte
  | .refused => 1
  | .strikes => 2
  | .nakLimit => 3
  | .oversize => 4
  | .syncFailed => 5
  | .moduleReset => 6
  | .farRange => 7
  | .linkLost => 8
  | .aborted => 9

/-- Long-command detail codes. -/
def LongDetail.code : LongDetail → Byte
  | .none => 0
  | .cause c => c.code
  | .noReply => 0x10
  | .abort => 0x11
  | .resetWindows => 0x12
  | .resetLink => 0x13
  | .resetAll => 0x14

/-- Long-command state codes. -/
def LongState.code : LongState → Byte
  | .none => 0
  | .running => 1
  | .done => 2
  | .failed => 3
  | .aborted => 4

/-- The command code of a long command; 0 under NONE (DESIGN CHOICE, log 10). -/
def longCodeByte : Option LongCode → Byte
  | some .openWindow => 0x13
  | some .attach => 0x30
  | some .flush => 0x19
  | none => 0

/-- Wait reason codes. -/
def WaitReason.code : WaitReason → Byte
  | .none => 0
  | .tag => 1
  | .slot => 2
  | .staging => 3
  | .downstream => 4

/-- A window number byte; 0xFF when absent. -/
def windowByte : Option WinId → Byte
  | some w => BitVec.ofNat 8 w.val
  | none => 0xFF

/-- Tag destination codes. -/
def TagDest.code : TagDest → Byte
  | .none => 0xFF
  | .localMem => 0x0C
  | .window w => BitVec.ofNat 8 w.val

/-- Link state codes. -/
def LinkState.code : LinkState → Byte
  | .detached => 0
  | .probing => 1
  | .active => 2
  | .recovering => 3

/-- Link mode codes. -/
def LinkMode.code : LinkMode → Byte
  | .cycled => 0
  | .free => 1

/-- Exchange kind codes. -/
def ExchangeBody.code : ExchangeBody → Byte
  | .write .. => 1
  | .read .. => 2
  | .sync => 3

/-- Exchange state codes. -/
def ExchangeState.code : ExchangeState → Byte
  | .ready => 0
  | .sending => 1
  | .awaiting .. => 2
  | .backoff _ => 3

/-- Strike kind codes; 0 absent. -/
def strikeByte : Option StrikeKind → Byte
  | some .timeout => 1
  | some .check => 2
  | some .sequence => 3
  | none => 0

/-- Slot kind codes. -/
def TransferKind.code : TransferKind → Byte
  | .postedWrite => 1
  | .strictWrite => 2
  | .read => 3

/-- Class codes. -/
def WindowClass.code : WindowClass → Byte
  | .strict => 0
  | .posted => 1
  | .periodic _ => 2

/-- Frame outcome codes. -/
def FrameOutcome.code : FrameOutcome → Byte
  | .none => 0
  | .done => 1
  | .refused => 2
  | .busy => 3
  | .pending => 4
  | .frameError => 5

/-- Refusal reason codes. -/
def Reason.code : Reason → Byte
  | .badParam => 1
  | .windowState => 2
  | .overlap => 3
  | .linkDown => 4
  | .noPages => 5
  | .farRange => 6
  | .packetSize => 7
  | .overCapacity => 8
  | .windowsClaiming => 9
  | .linkState => 10
  | .periodicOpen => 11
  | .nothingRunning => 12

/-- The reason byte of a result record: 0 absent, a refusal reason, or a frame-error detail. -/
def ResultReason.code : ResultReason → Byte
  | .absent => 0
  | .refusal r => r.code
  | .detail .check => 0x20
  | .detail .length => 0x21
  | .detail .code => 0x22

/-- A truth value as a byte. -/
def boolByte (b : Bool) : Byte := if b then 1 else 0

/-! ### The result record (R157, R175) -/

/-- The record's bytes: its check code covers every record byte before it. -/
def ResultRecord.bytes (r : ResultRecord) : List Byte :=
  let body := [r.seq, r.code, r.outcome.code, r.reason.code] ++ beBytes 2 r.payload.length ++ r.payload
  body ++ [crc8 body]

/-- The idle pattern the port drives (section 11.2). -/
def idlePattern : Byte := 0xFF

/-- What a result transaction clocks out: the record from offset 0, then the idle pattern (R157). -/
def ResultRecord.clockOut (r : ResultRecord) (n : Nat) : List Byte :=
  r.bytes.take n ++ List.replicate (n - r.bytes.length) idlePattern

/-! ### READ-WINDOW (R22) -/

/-- The window definition block of a definition. -/
def Definition.block (d : Definition) : List Byte :=
  beBytes 5 d.base.toNat ++ beBytes 4 d.size ++ beBytes 4 d.farBase.toNat ++ [d.cls.code] ++ beBytes 2 d.packetSize
    ++ (match d.shortPolicy with
        | .fill b => [0, b]
        | .error => [1, 0])
    ++ beBytes 2 d.nakInterval ++ beBytes 2 d.nakLimit ++ [BitVec.ofNat 8 d.strikeLimit]
    ++ beBytes 2 (d.cls.budget.getD 0)

/-- The block of a window: all 0 in UNUSED. -/
def Window.block (x : Window) : List Byte :=
  match x.defn with
  | some d => d.block
  | none => List.replicate 25 0

/-- The head slot of a queue; 0xFF when it is empty. -/
def headByte : List SlotId → Byte
  | i :: _ => BitVec.ofNat 8 i.val
  | [] => 0xFF

/-- The three exchange bytes: kind, state and strike count; with no exchange the kind is 0 and the other two are free
values (log 9). -/
def Window.exchangeBytes (x : Window) (freeUses : Nat) : List Byte :=
  match x.exchange with
  | some e => [e.body.code, e.state.code, BitVec.ofNat 8 e.strikes]
  | none => [0, Config.absentExchangeByte (2 * freeUses), Config.absentExchangeByte (2 * freeUses + 1)]

/-- READ-WINDOW's payload of 37 bytes. -/
def State.windowPayload (s : State) (w : WinId) : List Byte :=
  let x := s.win w
  [BitVec.ofNat 8 w.val, x.state.code] ++ x.block ++ [BitVec.ofNat 8 x.pages] ++ beBytes 2 (s.reserved w)
    ++ [BitVec.ofNat 8 x.queue.length, headByte x.queue, boolByte x.seqBit] ++ x.exchangeBytes s.freeUses
    ++ [boolByte x.fault.isSome]

/-! ### READ-FAULT (R117) -/

/-- READ-FAULT's payload of 17 bytes. -/
def faultPayload : Option FaultRecord → List Byte
  | none => List.replicate 4 0 ++ [0xFF] ++ List.replicate 12 0
  | some r =>
    [1, r.cause.code, strikeByte r.strike]
      ++ (match r.transfer with
          | some t =>
            [t.kind.code, BitVec.ofNat 8 t.tag.val] ++ beBytes 5 t.upAddr.toNat ++ beBytes 4 t.farAddr.toNat
              ++ beBytes 2 t.bytesDone
          | none => [0, 0xFF] ++ List.replicate 11 0)
      ++ [BitVec.ofNat 8 r.discarded]

/-! ### Counters and events (R168, R171) -/

/-- The nine window counters, 4 bytes each. -/
def WindowCounters.payload (c : WindowCounters) : List Byte :=
  [c.transfers, c.bytes, c.naks, c.strikes, c.shortReads, c.lostWrites, c.discarded, c.late, c.waitExpired].flatMap
    fun v => beBytes 4 v.toNat

/-- The seven device counters, 4 bytes each. -/
def DeviceCounters.payload (c : DeviceCounters) : List Byte :=
  [c.localPassed, c.straddles, c.malformed, c.stray, c.linkTimeouts, c.recoveries, c.localWaitExpired].flatMap
    fun v => beBytes 4 v.toNat

/-- READ-EVENTS' payload of 17 bytes. -/
def State.eventsPayload (s : State) : List Byte :=
  (allWindows.map fun w => (s.win w).pending.setWidth 8) ++ beBytes 2 s.ev.devicePending.toNat
    ++ [s.ev.windowMask.setWidth 8] ++ beBytes 2 s.ev.deviceMask.toNat

/-! ### GET-STATUS (R164) -/

/-- Offsets 0 to 4: the long-command record; under NONE its code and sequence number are 0 and its window 0xFF (DESIGN
CHOICE, log 10). -/
def LongRecord.payload (l : LongRecord) : List Byte :=
  [longCodeByte l.code, l.seq, windowByte l.window, l.state.code, l.detail.code]

/-- The window of a request's current class; absent for a local, malformed or straddle request (R41). -/
def State.windowOfClass (s : State) (r : BusRequest) : Option WinId :=
  match s.classify r with
  | .far w => some w
  | .malformed | .straddle | .localMem => none

/-- Offsets 55 to 60: the presented request; all 0 when there is none. -/
def State.presentedPayload (s : State) : List Byte :=
  match s.acc.presented with
  | none => List.replicate 6 0
  | some p =>
    [if p.expired.isSome then 3 else 1, BitVec.ofNat 8 p.req.tag.val, p.reason.code, windowByte (s.windowOfClass p.req)]
      ++ beBytes 2 (min 65535 p.waited)

/-- Offsets 126 to 138: the link controller. -/
def Link.payload (l : Link) : List Byte :=
  [l.state.code, boolByte (!l.signalPresent)] ++ beBytes 4 l.capacity ++ beBytes 2 l.packetLimit
    ++ [BitVec.ofNat 8 l.timeoutRun] ++ beBytes 2 l.recoveryLimit
    ++ (if l.state = .probing || l.state = .recovering then beBytes 2 (l.recoveryTimer.getD 0 / 1000)
        else [0xFF, 0xFF])

/-- GET-STATUS's payload of 141 bytes. -/
def State.statusPayload (s : State) : List Byte :=
  s.cmd.long.payload
    ++ (allWindows.flatMap fun w => [(s.win w).state.code, BitVec.ofNat 8 (s.win w).pages] ++ beBytes 2 (s.reserved w))
    ++ [BitVec.ofNat 8 s.unassignedPages, BitVec.ofNat 8 s.freeSlots]
    ++ s.presentedPayload
    ++ [BitVec.ofNat 8 s.acc.downstream] ++ beBytes 2 s.acc.waitLimit
    ++ (allTags.flatMap fun t => [(s.tagEntry t).dest.code, BitVec.ofNat 8 (s.tagEntry t).count])
    ++ [s.arb.mode.code] ++ beBytes 2 s.arb.cycleLength ++ [BitVec.ofNat 8 s.arb.keepAliveInterval]
    ++ beBytes 2 s.arb.cycleCount.toNat
    ++ (allWindows.flatMap fun w => beBytes 2 ((s.win w).remaining.getD 0xFFFF))
    ++ s.link.payload
    ++ [BitVec.ofNat 8 s.eng.responseLimit, boolByte s.ev.attn]

/-! ### Packets sent (section 11.4) -/

/-- The window byte of a request packet: the window in bits 0 to 3, the sequence bit in bit 7. -/
def packetWindowByte (w : WinId) (bit : Bool) : Byte := BitVec.ofNat 8 (w.val + if bit then 128 else 0)

/-- A packet's bytes before its check code. -/
def Packet.body : Packet → List Byte
  | .hello => [0x01]
  | .cycle n => 0x02 :: beBytes 2 n.toNat
  | .idle => [0x03]
  | .write w b far data => [0x10, packetWindowByte w b] ++ beBytes 4 far.toNat ++ beBytes 2 data.length ++ data
  | .read w b far len => [0x11, packetWindowByte w b] ++ beBytes 4 far.toNat ++ beBytes 2 len
  | .sync w => [0x12, packetWindowByte w false]

/-- A packet's bytes on the line, with the check code that R81 requires, high byte first. -/
def Packet.bytes (p : Packet) : List Byte := p.body ++ beBytes 2 (crc16 p.body).toNat

end Sys2Proof.Machine
end

