-- ==== Sys2Proof/Machine/Operands.lean ====
section
/-! DEFINITION. The operands of management commands, decoded from the fields their frames carry, with the range checks
of their owning rules (R4, R69, R132, R166, R169, R171, R174). -/

namespace Sys2Proof.Machine

/-- A window number field; none above 11 (R174). -/
def windowOf (b : Byte) : Option WinId := if h : b.toNat < 12 then some ⟨b.toNat, h⟩ else none

/-- The target of READ-COUNTERS, CLEAR-COUNTERS and ACK-EVENTS: one window or the device (R169, R171). -/
inductive Target where
  | window (w : WinId)
  | device
  deriving DecidableEq, Repr

/-- A selector or target field: 0 to 11 a window, 0xFF the device, any other value out of range (R174). -/
def targetOf (b : Byte) : Option Target := if b = 0xFF then some .device else (windowOf b).map .window

/-! ### DEFINE (R4) -/

/-- A class field with its budget field (R4): no budget for STRICT and POSTED; for PERIODIC 32 to 4096 and not less than
the packet size. -/
def classOf (code : Byte) (budget packetSize : Nat) : Option WindowClass :=
  if code = 0 then (if budget = 0 then some .strict else none)
  else if code = 1 then (if budget = 0 then some .posted else none)
  else if code = 2 then
    (if 32 ≤ budget ∧ budget ≤ 4096 ∧ packetSize ≤ budget then some (.periodic budget) else none)
  else none

/-- A short policy field; under ERROR the fill byte is not recorded (R4). -/
def shortPolicyOf (code fill : Byte) : Option ShortPolicy :=
  if code = 0 then some (.fill fill) else if code = 1 then some .error else none

/-- The four packet sizes (section 1.1). -/
def packetSizeOk (n : Nat) : Bool := n = 32 || n = 64 || n = 128 || n = 256

/-- The range checks of R4 on base, size and far base. -/
def rangesOk (p : DefineParams) : Bool :=
  p.base.toNat % 1024 = 0 && p.base.toNat + p.size.toNat ≤ 2 ^ 40 &&
    p.size.toNat ≠ 0 && p.size.toNat % 1024 = 0 && p.size.toNat ≤ 2 ^ 30 &&
    p.farBase.toNat % 1024 = 0 && p.farBase.toNat + p.size.toNat ≤ 2 ^ 32

/-- The range checks of R4 on packet size, NAK interval and strike limit. -/
def settingsOk (p : DefineParams) : Bool :=
  packetSizeOk p.packetSize.toNat && 1 ≤ p.nakInterval.toNat && p.nakInterval.toNat ≤ 1023 &&
    1 ≤ p.strikeLimit.toNat && p.strikeLimit.toNat ≤ 7

/-- The definition that DEFINE's parameters give; none when R4 refuses them BAD_PARAM. -/
def definitionFrom (p : DefineParams) : Option Definition :=
  match classOf p.cls p.budget.toNat p.packetSize.toNat, shortPolicyOf p.shortPolicy p.fillByte with
  | some cls, some short =>
    if rangesOk p && settingsOk p then
      some { base := p.base, size := p.size.toNat, farBase := p.farBase, cls := cls,
             packetSize := p.packetSize.toNat, shortPolicy := short, nakInterval := p.nakInterval.toNat,
             nakLimit := p.nakLimit.toNat, strikeLimit := p.strikeLimit.toNat }
    else none
  | _, _ => none

/-- Whether two upstream ranges share an address (R5). -/
def Definition.overlaps (a b : Definition) : Bool :=
  max a.base.toNat b.base.toNat < min (a.base.toNat + a.size) (b.base.toNat + b.size)

/-- Whether a new definition of a window meets the range of another window that is not UNUSED (R5). -/
def State.overlapsOther (s : State) (w : WinId) (d : Definition) : Bool :=
  allWindows.any fun v => v != w && (s.win v).state != .unused &&
    match (s.win v).defn with
    | some e => d.overlaps e
    | none => false

/-! ### SET-LINK (R132) -/

/-- The link parameters in force after a SET-LINK. -/
structure LinkSettings where
  mode          : LinkMode
  cycleLength   : Nat
  keepAlive     : Nat
  responseLimit : Nat
  recoveryLimit : Nat
  waitLimit     : Nat
  deriving DecidableEq, Repr

/-- A mode field (spec/11_formats.md). -/
def modeOf (code : Byte) : Option LinkMode := if code = 0 then some .cycled else if code = 1 then some .free else none

/-- SET-LINK's parameters; none when one of them is out of range (check 1 of R132, R88, R148, R35). -/
def linkSettingsFrom (p : LinkParams) : Option LinkSettings :=
  match modeOf p.mode with
  | none => none
  | some m =>
    if 100 ≤ p.cycleLength.toNat ∧ p.cycleLength.toNat ≤ 2000 ∧ 1 ≤ p.keepAlive.toNat ∧ p.keepAlive.toNat ≤ 15 ∧
        2 ≤ p.responseLimit.toNat ∧ 1 ≤ p.recoveryLimit.toNat ∧ p.recoveryLimit.toNat ≤ 1000 then
      some { mode := m, cycleLength := p.cycleLength.toNat, keepAlive := p.keepAlive.toNat,
             responseLimit := p.responseLimit.toNat, recoveryLimit := p.recoveryLimit.toNat,
             waitLimit := p.waitLimit.toNat }
    else none

/-! ### Sets of kinds (R166, R169, R174) -/

/-- A window kind set field; none with a bit set above bit 5. -/
def windowKindsOf (v : Nat) : Option WindowKinds := if v < 64 then some (BitVec.ofNat 6 v) else none

/-- A device kind set field; none with a bit set above bit 8. -/
def deviceKindsOf (v : Nat) : Option DeviceKinds := if v < 512 then some (BitVec.ofNat 9 v) else none

/-! ### LAYOUT (R69) -/

/-- The twelve page counts as numbers. -/
def pageCounts (counts : Vector Byte 12) : List Nat := allWindows.map fun w => counts[w].toNat

/-- Each of the twelve counts is from 0 to 32 (check 1 of R69). -/
def countsInRange (counts : Vector Byte 12) : Bool := (pageCounts counts).all fun n => n ≤ Config.maxPages

/-- Every window is UNUSED or DEFINED (check 2 of R69): no window claims its range. -/
def State.noneClaims (s : State) : Bool := allWindows.all fun w => !(s.win w).state.claims

end Sys2Proof.Machine
end

