-- ==== Sys2Proof/Machine/Port.lean ====
section
/-! DEFINITION. The command unit (chapter 9): the frame receiver, the result record, the BUSY rule and the judging of a
received frame. -/

namespace Sys2Proof.Machine

/-! ### The frame receiver (R155) -/

/-- Chip select falls. -/
def Receiver.fall : Receiver → Receiver
  | .idle => .opening
  | .opening => .opening
  | .frame bs => .frame bs
  | .result => .result

/-- A byte is received: the opening byte decides the kind of transaction. -/
def Receiver.byte (b : Byte) : Receiver → Receiver
  | .idle => .idle
  | .opening => if b = resultOpeningCode then .result else .frame [b]
  | .frame bs => .frame (bs ++ [b])
  | .result => .result

/-- Chip select rises. -/
def Receiver.rise : Receiver → Receiver
  | .idle | .opening | .frame _ | .result => .idle

/-- The bytes of the frame being received. -/
def Receiver.received : Receiver → List Byte
  | .frame bs => bs
  | .idle | .opening | .result => []

/-- What the port drives on its output line while no record byte is clocked: the idle pattern in OPENING and FRAME,
nothing while not selected (R155). -/
def Receiver.drives : Receiver → Option Byte
  | .opening | .frame _ => some idlePattern
  | .idle | .result => none

/-- The receiver is IDLE after the rise of chip select that ends a transaction (R155). -/
def State.endTransaction (s : State) : State :=
  { s with cmd := { s.cmd with receiver := s.cmd.receiver.rise } }

/-! ### The result record (R157) -/

/-- The whole record is replaced. -/
def State.setResult (s : State) (r : ResultRecord) : State := { s with cmd := { s.cmd with result := r } }

/-- The record of a DONE frame, with its payload. -/
def ResultRecord.doneWith (seq code : Byte) (payload : List Byte) : ResultRecord := ⟨seq, code, .done, .absent, payload⟩

/-- The record of a REFUSED frame. -/
def ResultRecord.refusedFor (seq code : Byte) (r : Reason) : ResultRecord := ⟨seq, code, .refused, .refusal r, []⟩

/-- The record of a BUSY frame (R159). -/
def ResultRecord.busyFor (seq code : Byte) : ResultRecord := ⟨seq, code, .busy, .absent, []⟩

/-- The record of a frame that starts a long command. -/
def ResultRecord.pendingFor (seq code : Byte) : ResultRecord := ⟨seq, code, .pending, .absent, []⟩

/-- The record of a frame error (R156). -/
def ResultRecord.errorFor (seq code : Byte) (d : FrameDetail) : ResultRecord := ⟨seq, code, .frameError, .detail d, []⟩

/-! ### Judging a received frame (R158, R159) -/

/-- What a command's own rule makes of it: refused with a reason and no change, done with a new state and a payload,
or pending with a new state. -/
inductive Judged where
  | refuse (r : Reason)
  | done (s : State) (payload : List Byte)
  | pending (s : State)
  deriving DecidableEq, Repr

/-- The result record takes the outcome of a judged command; a refused one changes nothing else (R157). -/
def State.conclude (s : State) (seq code : Byte) : Judged → State
  | .refuse r => s.setResult (.refusedFor seq code r)
  | .done s' payload => s'.setResult (.doneWith seq code payload)
  | .pending s' => s'.setResult (.pendingFor seq code)

/-- A received frame of GET-STATUS, ABORT or RESET-BLOCK: judged whether or not a long command runs (R159). -/
def State.command (s : State) (seq code : Byte) (judge : State → Judged) : State :=
  let s := s.endTransaction
  s.conclude seq code (judge s)

/-- A received frame of any other command: answered BUSY while a long command is RUNNING, and judged by its own rule
otherwise (R158, R159). -/
def State.commandUnlessBusy (s : State) (seq code : Byte) (judge : State → Judged) : State :=
  if s.cmd.long.state = .running then s.endTransaction.setResult (.busyFor seq code) else s.command seq code judge

/-- Judges a command whose first parameter is a window number, refused BAD_PARAM above 11. -/
def onWindow (b : Byte) (judge : WinId → Judged) : Judged :=
  match windowOf b with
  | none => .refuse .badParam
  | some w => judge w

/-- The long-command record is set to RUNNING in the step in which a long command is taken (R160). -/
def State.startLong (s : State) (code : LongCode) (seq : Byte) (w : Option WinId) : State :=
  { s with cmd := { s.cmd with
      long := { code := some code, seq := seq, window := w, state := .running, detail := .none } } }

end Sys2Proof.Machine
end

