-- ==== Sys2Proof/Machine/ControlCommands.lean ====
section
/-! DEFINITION. GET-STATUS, ABORT, RESET-BLOCK and the pin reset (chapter 9 and the reset sections). -/

namespace Sys2Proof.Machine

/-- GET-STATUS's own rule (R164): it changes no state. -/
def judgeGetStatus (s : State) : Judged := .done s s.statusPayload

/-! ### ABORT (R161) -/

/-- The flush mark is removed from the transfers of a window (R64). -/
def State.unmarkFlush (s : State) (w : WinId) : State :=
  (s.win w).queue.foldl (fun s i => s.modSlot i fun t => { t with flushMark := false }) s

/-- The link leaves PROBING for DETACHED as ATTACH is ended (R140, R161, R162). -/
def State.endProbe (s : State) : State := if s.link.state = .probing then s.toDetached else s

/-- The effect of ABORT on the owner of the running command (R161). -/
def State.abortOwner (s : State) : State :=
  match s.cmd.long.code, s.cmd.long.window with
  | some .openWindow, some w => if (s.win w).state = .syncing then s.haltWindow w .aborted none none else s
  | some .attach, _ => s.endProbe
  | some .flush, some w => s.unmarkFlush w
  | _, _ => s

/-- ABORT's own rule (R161). -/
def judgeAbort (s : State) : Judged :=
  if s.cmd.long.state ≠ .running then .refuse .nothingRunning
  else .done (((s.completeLong .aborted .abort).abortOwner).attemptSince s) []

/-! ### RESET-BLOCK (R162, R163) -/

/-- The window-table reset (R23, R162): a running command ends ABORTED, an aborted ATTACH takes the link out of
PROBING, every transfer ends, and every window, slot and reservation is cleared; then an attempt (R43). -/
def State.resetWindows (s : State) : State :=
  let s' := s.completeLong .aborted .resetWindows
  let s' := if s.runsLong .attach then s'.endProbe else s'
  s'.dropAllTransfers.clearWindows.clearSlots.setAttn.attemptSince s

/-- The link block reset (R149). -/
def State.resetLink (s : State) : State :=
  let s' := ((s.completeLong .aborted .resetLink).haltAllLive .linkLost).toDetached
  let s' := if s.link.state = .detached then s' else s'.raiseDevice .linkDown
  State.attemptSince { s' with arb := { s'.arb with cycleCount := 0 } } s

/-- The long-command record after a reset with target ALL: ABORTED when one was running, NONE otherwise (R163). -/
def LongRecord.afterResetAll (l : LongRecord) : LongRecord :=
  if l.state = .running then { l with state := .aborted, detail := .resetAll } else .reset

/-- The reset of every block (R163): as a pin reset, but for the frame receiver, the result record, the long-command
record and the signal condition; the model's own fields stay. -/
def State.resetAll (s : State) : State :=
  { State.reset with
    cmd := { s.cmd with long := s.cmd.long.afterResetAll }
    link := { Link.reset with signalPresent := s.link.signalPresent }
    out := s.out, freeUses := s.freeUses, pending := s.pending }

/-- RESET-BLOCK's own rule (R162): a target that is not the row's is refused BAD_PARAM (log 8). -/
def judgeReset (own target : Byte) (effect : State → State) (s : State) : Judged :=
  if target = own then .done (effect s) [] else .refuse .badParam

/-! ### Meanings -/

/-- The reset input (R1, R42, R66, R80, R104, R134, R150, R155, R157, R160, R173): every block in its pin-reset
condition; the model's own fields stay. -/
def execPinReset (s : State) : Host.Outcome State Fault Refusal :=
  .next { State.reset with out := s.out, freeUses := s.freeUses, pending := s.pending }

/-- GET-STATUS (R164). -/
def execGetStatus (seq : Byte) (s : State) : Host.Outcome State Fault Refusal :=
  .next (s.command seq 0x01 judgeGetStatus)

/-- ABORT (R161). -/
def execAbort (seq : Byte) (s : State) : Host.Outcome State Fault Refusal :=
  .next (s.command seq 0x50 judgeAbort)

/-- RESET-BLOCK with target WINDOWS (R23, R162). -/
def execResetBlockWindows (seq target : Byte) (s : State) : Host.Outcome State Fault Refusal :=
  .next (s.command seq 0x51 (judgeReset 1 target State.resetWindows))

/-- RESET-BLOCK with target LINK (R149, R162). -/
def execResetBlockLink (seq target : Byte) (s : State) : Host.Outcome State Fault Refusal :=
  .next (s.command seq 0x51 (judgeReset 2 target State.resetLink))

/-- RESET-BLOCK with target ALL (R163). -/
def execResetBlockAll (seq target : Byte) (s : State) : Host.Outcome State Fault Refusal :=
  .next (s.command seq 0x51 (judgeReset 3 target State.resetAll))

end Sys2Proof.Machine
end

