-- ==== Sys2Proof/Machine/EventCommands.lean ====
section
/-! DEFINITION. The commands of the event unit (chapter 10). -/

namespace Sys2Proof.Machine

/-- Judges a command whose first parameter is a window or the device (R169, R171). -/
def onTarget (b : Byte) (judge : Target → Judged) : Judged :=
  match targetOf b with
  | none => .refuse .badParam
  | some t => judge t

/-- The payload of READ-COUNTERS for a target (R171). -/
def State.countersPayload (s : State) : Target → List Byte
  | .window w => (s.win w).counters.payload
  | .device => s.ev.counters.payload

/-- Every counter of a target becomes 0 (R172). -/
def State.clearCounters (s : State) : Target → State
  | .window w => s.modWin w fun x => { x with counters := .zero }
  | .device => { s with ev := { s.ev with counters := .zero } }

/-- READ-COUNTERS' own rule (R171). -/
def judgeReadCounters (b : Byte) (s : State) : Judged := onTarget b fun t => .done s (s.countersPayload t)

/-- CLEAR-COUNTERS' own rule (R172). -/
def judgeClearCounters (b : Byte) (s : State) : Judged := onTarget b fun t => .done (s.clearCounters t) []

/-- SET-MASKS' own rule (R166). -/
def judgeSetMasks (wm : Byte) (dm : BitVec 16) (s : State) : Judged :=
  match windowKindsOf wm.toNat, deviceKindsOf dm.toNat with
  | some w, some d => .done (State.setAttn { s with ev := { s.ev with windowMask := w, deviceMask := d } }) []
  | _, _ => .refuse .badParam

/-- READ-EVENTS' own rule (R168). -/
def judgeReadEvents (s : State) : Judged := .done s s.eventsPayload

/-- Kinds are removed from a window's pending set, and ATTN takes its level (R169). -/
def State.ackWindow (s : State) (w : WinId) (ks : WindowKinds) : State :=
  (s.modWin w fun x => { x with pending := x.pending &&& ~~~ks }).setAttn

/-- Kinds are removed from the device pending set, and ATTN takes its level (R169). -/
def State.ackDevice (s : State) (ks : DeviceKinds) : State :=
  State.setAttn { s with ev := { s.ev with devicePending := s.ev.devicePending &&& ~~~ks } }

/-- ACK-EVENTS' own rule (R169, R174). -/
def judgeAckEvents (b : Byte) (kinds : BitVec 16) (s : State) : Judged :=
  onTarget b fun t =>
    match t with
    | .window w =>
      match windowKindsOf kinds.toNat with
      | some ks => .done (s.ackWindow w ks) []
      | none => .refuse .badParam
    | .device =>
      match deviceKindsOf kinds.toNat with
      | some ks => .done (s.ackDevice ks) []
      | none => .refuse .badParam

/-! ### Meanings -/

/-- READ-COUNTERS (R171). -/
def execReadCounters (seq selector : Byte) (s : State) : Host.Outcome State Fault Refusal :=
  .next (s.commandUnlessBusy seq 0x20 (judgeReadCounters selector))

/-- CLEAR-COUNTERS (R172). -/
def execClearCounters (seq selector : Byte) (s : State) : Host.Outcome State Fault Refusal :=
  .next (s.commandUnlessBusy seq 0x21 (judgeClearCounters selector))

/-- SET-MASKS (R166). -/
def execSetMasks (seq windowMask : Byte) (deviceMask : BitVec 16) (s : State) : Host.Outcome State Fault Refusal :=
  .next (s.commandUnlessBusy seq 0x40 (judgeSetMasks windowMask deviceMask))

/-- READ-EVENTS (R168). -/
def execReadEvents (seq : Byte) (s : State) : Host.Outcome State Fault Refusal :=
  .next (s.commandUnlessBusy seq 0x41 judgeReadEvents)

/-- ACK-EVENTS (R169). -/
def execAckEvents (seq target : Byte) (kinds : BitVec 16) (s : State) : Host.Outcome State Fault Refusal :=
  .next (s.commandUnlessBusy seq 0x42 (judgeAckEvents target kinds))

end Sys2Proof.Machine
end

