-- ==== Sys2Proof/Machine/LinkCommands.lean ====
section
/-! DEFINITION. The link commands ATTACH and DETACH (chapter 8) and SET-LINK (chapter 7, section 9.4). -/

namespace Sys2Proof.Machine

/-- What ATTACH does at taking (R136, R137): the link enters PROBING, the recovery timer starts and a HELLO falls
due. -/
def State.takeAttach (s : State) : State :=
  State.helloDue { s with link := { s.link with state := .probing, recoveryTimer := some 0 } }

/-- ATTACH's own rule (R136). -/
def judgeAttach (seq : Byte) (s : State) : Judged :=
  if s.link.state ≠ .detached then .refuse .linkState
  else .pending ((s.takeAttach.startLong .attach seq none).choose)

/-- DETACH's own rule (R141). -/
def judgeDetach (s : State) : Judged :=
  if s.link.state ≠ .active ∧ s.link.state ≠ .recovering then .refuse .linkState
  else if !s.noneClaims then .refuse .windowsClaiming
  else .done (s.toDetached.raiseDevice .linkDown) []

/-! ### SET-LINK (R132) -/

/-- Whether a PERIODIC window is SYNCING, OPEN, HELD, FENCED or CLOSING (check 2 of R132). -/
def State.periodicLive (s : State) : Bool := allWindows.any fun w => (s.win w).isPeriodic && (s.win w).state.live

/-- The six parameters in their places, before their effects. -/
def State.writeSettings (s : State) (p : LinkSettings) : State :=
  { s with
    arb := { s.arb with cycleLength := p.cycleLength, keepAliveInterval := p.keepAlive }
    eng := { s.eng with responseLimit := p.responseLimit }
    link := { s.link with recoveryLimit := p.recoveryLimit }
    acc := { s.acc with waitLimit := p.waitLimit } }

/-- The effect of the mode carried (R132): none when it is the mode in force. A cycle start is followed by the
arbiter's choice (R125). -/
def State.setMode (s : State) (m : LinkMode) : State :=
  if m = s.arb.mode then s
  else
    match m with
    | .cycled => if s.link.state = .active then s.toCycled.choose else s.toCycled
    | .free => s.toFree

/-- A changed keep-alive interval applies to the running timer at once (R130): an IDLE that falls due is
followed by the arbiter's choice (R121). -/
def State.keepAliveChanged (s : State) (old : Nat) : State :=
  if s.arb.keepAliveInterval = old then s
  else
    match s.arb.keepAliveTimer with
    | some t => if s.arb.keepAliveInterval * 1000 ≤ t then s.idleDue.choose else s
    | none => s

/-- A changed recovery limit applies to a running recovery at once, with expiry if it has passed (R148). -/
def State.recoveryLimitChanged (s : State) (old : Nat) : State :=
  if s.link.recoveryLimit = old ∨ s.link.state ≠ .recovering then s
  else
    match s.link.recoveryTimer with
    | some t => if s.link.recoveryLimit * 1000 ≤ t then s.giveUpRecovery.attemptSince s else s
    | none => s

/-- A changed acceptance wait limit applies to the presented request, measured from its presentation, and makes an
attempt (R25, R35). -/
def State.waitLimitChanged (s : State) (old : Nat) : State :=
  if s.acc.waitLimit = old then s
  else
    match s.acc.presented with
    | none => s
    | some p =>
      if p.expired.isNone && s.acc.waitLimit != 0 && s.acc.waitLimit ≤ p.waited then s.expireWait p else s.attempt

/-- All six parameters take effect together (R132; log 15). -/
def State.applySettings (s : State) (p : LinkSettings) : State :=
  let s' := (s.writeSettings p).setMode p.mode
  let s' := s'.keepAliveChanged s.arb.keepAliveInterval
  let s' := s'.recoveryLimitChanged s.link.recoveryLimit
  s'.waitLimitChanged s.acc.waitLimit

/-- SET-LINK's own rule (R132). -/
def judgeSetLink (params : LinkParams) (s : State) : Judged :=
  match linkSettingsFrom params with
  | none => .refuse .badParam
  | some p =>
    if p.mode = .free ∧ s.periodicLive = true then .refuse .periodicOpen else .done (s.applySettings p) []

/-! ### Meanings -/

/-- ATTACH (R136). -/
def execAttach (seq : Byte) (s : State) : Host.Outcome State Fault Refusal :=
  .next (s.commandUnlessBusy seq 0x30 (judgeAttach seq))

/-- DETACH (R141). -/
def execDetach (seq : Byte) (s : State) : Host.Outcome State Fault Refusal :=
  .next (s.commandUnlessBusy seq 0x31 judgeDetach)

/-- SET-LINK (R132). -/
def execSetLink (seq : Byte) (params : LinkParams) (s : State) : Host.Outcome State Fault Refusal :=
  .next (s.commandUnlessBusy seq 0x32 (judgeSetLink params))

end Sys2Proof.Machine
end

