-- ==== Sys2Proof/Machine/LinkEvents.lean ====
section
/-! DEFINITION. Packets received from the far module (chapters 5, 6 and 8) and the reports of the physical layer. -/

namespace Sys2Proof.Machine

/-- A good ACK (R94, R95, R100). -/
def execAckReceived (window : BitVec 4) (bit syncMark : Bool) (s : State) : Host.Outcome State Fault Refusal :=
  .next (s.receive window bit (.ack syncMark))

/-- A good NAK (R94, R96, R111). -/
def execNakReceived (window : BitVec 4) (bit : Bool) (s : State) : Host.Outcome State Fault Refusal :=
  .next (s.receive window bit .nak)

/-- A good REFUSE (R94, R98, R100). -/
def execRefuseReceived (window : BitVec 4) (bit : Bool) (s : State) : Host.Outcome State Fault Refusal :=
  .next (s.receive window bit .refuse)

/-- A good DATA (R94, R99). -/
def execDataReceived (window : BitVec 4) (bit : Bool) (data : List Byte) (s : State) :
    Host.Outcome State Fault Refusal :=
  .next (s.receive window bit (.data data))

/-- Whether a HELLO_REPLY's fields are in range (R138). -/
def replyInRange (capacity packetLimit : Nat) : Bool :=
  1 ≤ capacity && capacity ≤ 4194304 && 32 ≤ packetLimit && packetLimit ≤ 256

/-- A HELLO_REPLY accepted while PROBING (R139). -/
def State.attached (s : State) (capacity packetLimit : Nat) : State :=
  let s := (s.toActive capacity packetLimit).raiseDevice .linkUp
  ((s.completeDone .attach).startTraffic).choose

/-- A HELLO_REPLY accepted while RECOVERING (R145, R146). The cycle start finds the windows as the whole step leaves them
(R145): a request that the step's own attempt takes as the head of an empty PERIODIC queue is a head at that cycle start,
so the heads are marked once more after the attempt, which adds to queues only at their tails and so makes nothing late.
While the attempt is made the CYCLE marker is pending, so no exchange is sent ahead of it (R122). -/
def State.recovered (s : State) (capacity packetLimit : Nat) (fresh : Bool) : State :=
  let s' := (s.toActive capacity packetLimit).raiseDevice .recovered
  (((s'.recoveryCheck fresh).startTraffic).attemptSince s).markNewHeads.choose

/-- A good HELLO_REPLY (R138): accepted while PROBING or RECOVERING with its fields in range, and stray otherwise. -/
def execHelloReplyReceived (capacity : BitVec 32) (packetLimit : BitVec 16) (fresh : Bool) (s : State) :
    Host.Outcome State Fault Refusal :=
  let s := s.goodPacket
  if replyInRange capacity.toNat packetLimit.toNat then
    match s.link.state with
    | .probing => .next (s.attached capacity.toNat packetLimit.toNat)
    | .recovering => .next (s.recovered capacity.toNat packetLimit.toNat fresh)
    | .detached | .active => .next s.stray
  else .next s.stray

/-- A bad-check packet (R81, R108, R109): a CHECK strike of the exchange that has been AWAITING longest, or counted as
STRAY when none is AWAITING. -/
def execBadCheckPacket (s : State) : Host.Outcome State Fault Refusal :=
  match s.longestAwaiting with
  | some w => .next ((s.strike w .check).attemptSince s).choose
  | none => .next s.stray

/-- A good inbound packet of an outbound or unknown type is a stray response (R82, R102). -/
def execOtherInboundPacket (_typeCode : Byte) (s : State) : Host.Outcome State Fault Refusal :=
  .next s.goodPacket.stray

/-- LOSS_OF_SIGNAL (R143): the condition is set, and an ACTIVE link is lost. -/
def execLossOfSignal (s : State) : Host.Outcome State Fault Refusal :=
  let s := { s with link := { s.link with signalPresent := false } }
  if s.link.state = .active then .next s.enterRecovering.choose else .next s

/-- SIGNAL_PRESENT (R143): the condition is set. -/
def execSignalPresent (s : State) : Host.Outcome State Fault Refusal :=
  .next { s with link := { s.link with signalPresent := true } }

end Sys2Proof.Machine
end

