-- ==== Sys2Proof/Machine/PortEvents.lean ====
section
/-! DEFINITION. The events of the management port that are no command: chip select falling, a frame error, a discarded
frame, a result transaction (R155 to R157). -/

namespace Sys2Proof.Machine

/-- A frame error replaces the result record and has no effect on any block (R156). -/
def execFrameError (seq code : Byte) (detail : FrameDetail) (s : State) : Host.Outcome State Fault Refusal :=
  .next (s.endTransaction.setResult (.errorFor seq code detail))

/-- A frame still incomplete when chip select rises is discarded (R156). -/
def execFrameDiscarded (s : State) : Host.Outcome State Fault Refusal := .next s.endTransaction

/-- Chip select falls (R155). -/
def execChipSelectFalls (s : State) : Host.Outcome State Fault Refusal :=
  .next { s with cmd := { s.cmd with receiver := s.cmd.receiver.fall } }

/-- A result transaction, from its opening byte to the rise of chip select: the record is clocked out as it stands, and
nothing else changes (R155, R157). -/
def execResultTransaction (clocked : Nat) (s : State) : Host.Outcome State Fault Refusal :=
  let s := s.endTransaction
  .next { s with out := { s.out with clocked := s.out.clocked ++ s.cmd.result.clockOut clocked } }

end Sys2Proof.Machine
end

