-- ==== Sys2Proof/Machine/TimerEvents.lean ====
section
/-! DEFINITION. The timers of the exchange engine, the arbiter and the link controller, and the end of a transmission.
An expiry lets the rest of its own timer's time pass (log 1); with its timer stopped nothing happens (log 2). -/

namespace Sys2Proof.Machine

/-- The link controller counts a response-limit expiry; the eighth in a row loses the link (R142). -/
def State.countTimeout (s : State) : State :=
  if s.link.state = .active then
    let s := { s with link := { s.link with timeoutRun := s.link.timeoutRun + 1 } }
    if Config.timeoutRunLimit ≤ s.link.timeoutRun then s.enterRecovering else s
  else s

/-- The response limit of an AWAITING exchange expires (R87, R106, R107, R142): LINK_TIMEOUTS grows, the exchange
suffers a TIMEOUT strike, and the timeout run grows. -/
def execResponseLimitExpiry (window : WinId) (s : State) : Host.Outcome State Fault Refusal :=
  match (s.win window).exchange with
  | none => .next s
  | some x =>
    match x.state with
    | .awaiting e l _ =>
      let s := (s.elapse (l - e)).countDevice .linkTimeouts 1
      .next (((s.strike window .timeout).countTimeout).attemptSince s).choose
    | .ready | .sending | .backoff _ => .next s

/-- The rest of a window's NAK interval. -/
def Window.intervalLeft (x : Window) (elapsed : Nat) : Nat :=
  match x.defn with
  | some d => d.nakInterval - elapsed
  | none => 0

/-- The NAK interval of a BACKOFF exchange ends, and it goes to READY (R97). -/
def execNakIntervalEnd (window : WinId) (s : State) : Host.Outcome State Fault Refusal :=
  match (s.win window).exchange with
  | none => .next s
  | some x =>
    match x.state with
    | .backoff e =>
      let s := s.elapse ((s.win window).intervalLeft e)
      .next (s.modWin window fun y =>
        { y with exchange := y.exchange.map fun x => { x with state := .ready } }).choose
    | .ready | .sending | .awaiting .. => .next s

/-- The window whose exchange a packet is sent for. -/
def Packet.window : Packet → Option WinId
  | .write w .. | .read w .. | .sync w => some w
  | .hello | .cycle _ | .idle => none

/-- The exchange whose packet's transmission has ended enters AWAITING, and its response timer starts with the limit in
force (R86, R88); an exchange that is no longer SENDING stays as it is. -/
def State.startAwaiting (s : State) (w : WinId) : State :=
  match (s.win w).exchange with
  | some x =>
    if x.state = .sending then
      let st := s.eng.timerStarts
      let s := s.modWin w fun y =>
        { y with exchange := some { x with state := .awaiting 0 s.eng.responseLimit st } }
      { s with eng := { s.eng with timerStarts := st + 1 } }
    else s
  | none => s

/-- A transmission ends (R86, R121, R130): the packet has been sent whole, its exchange enters AWAITING, the keep-alive
timer of a FREE link starts from 0, and the arbiter makes its next choice. -/
def execTransmissionEnd (s : State) : Host.Outcome State Fault Refusal :=
  match s.arb.transmitter with
  | none => .next s
  | some p =>
    let keep := if s.link.state = .active ∧ s.arb.mode = .free then some 0 else s.arb.keepAliveTimer
    let s := { s with
      arb := { s.arb with transmitter := none, keepAliveTimer := keep }
      out := { s.out with sent := s.out.sent ++ [p] } }
    match p.window with
    | some w => .next (s.startAwaiting w).choose
    | none => .next s.choose

/-- The cycle timer reaches the cycle length: a cycle starts (R124, R125). -/
def execCycleStart (s : State) : Host.Outcome State Fault Refusal :=
  match s.arb.cycleTimer with
  | none => .next s
  | some c => .next ((s.elapse (c.length - c.elapsed)).startCycle).choose

/-- The keep-alive timer reaches its interval: an IDLE marker falls due (R130). -/
def execKeepAliveExpiry (s : State) : Host.Outcome State Fault Refusal :=
  match s.arb.keepAliveTimer with
  | none => .next s
  | some t => .next ((s.elapse (s.arb.keepAliveInterval * 1000 - t)).idleDue).choose

/-- Whether the recovery timer has reached the recovery limit. -/
def Link.recoveryDue (l : Link) : Bool :=
  match l.recoveryTimer with
  | some t => l.recoveryLimit * 1000 ≤ t
  | none => false

/-- The probe timer reaches 1 ms: a HELLO falls due, unless the recovery limit is reached at the same instant (R137,
log 16). -/
def execProbeTimerExpiry (s : State) : Host.Outcome State Fault Refusal :=
  match s.link.probeTimer with
  | none => .next s
  | some t =>
    let s := s.elapse (Config.probeInterval - t)
    if s.link.recoveryDue then .next s else .next s.helloDue.choose

/-- The recovery timer reaches the limit while PROBING: ATTACH fails with NO_REPLY (R140). -/
def execAttachNoReply (s : State) : Host.Outcome State Fault Refusal :=
  match s.link.state, s.link.recoveryTimer with
  | .probing, some t =>
    let s := s.elapse (s.link.recoveryLimit * 1000 - t)
    let s := s.toDetached
    .next (if s.runsLong .attach then s.completeLong .failed .noReply else s)
  | _, _ => .next s

/-- The recovery limit passes while RECOVERING: recovery is given up (R147). -/
def execRecoveryLimitExpiry (s : State) : Host.Outcome State Fault Refusal :=
  match s.link.state, s.link.recoveryTimer with
  | .recovering, some t => .next (((s.elapse (s.link.recoveryLimit * 1000 - t)).giveUpRecovery).attemptSince s)
  | _, _ => .next s

end Sys2Proof.Machine
end

