-- ==== Sys2Proof/Machine/WindowCommands.lean ====
section
/-! DEFINITION. The window commands (chapter 1), FLUSH (chapter 3), LAYOUT (chapter 4) and READ-FAULT (chapter 6). -/

namespace Sys2Proof.Machine

/-- The remaining budget that a new definition sets: the budget with class PERIODIC, none otherwise (R126). -/
def Definition.freshBudget (d : Definition) : Option Nat := d.cls.budget

/-- DEFINE's own rule (R4 to R6): range, window state, overlap, in that order. -/
def judgeDefine (b : Byte) (p : DefineParams) (s : State) : Judged :=
  onWindow b fun w =>
    match definitionFrom p with
    | none => .refuse .badParam
    | some d =>
      let st := (s.win w).state
      if st ≠ .unused ∧ st ≠ .defined then .refuse .windowState
      else if s.overlapsOther w d then .refuse .overlap
      else
        let s' := s.modWin w fun x => { x with state := .defined, defn := some d, remaining := d.freshBudget }
        .done (if st = .unused then s'.attempt else s') []

/-- UNDEFINE's own rule (R7). -/
def judgeUndefine (b : Byte) (s : State) : Judged :=
  onWindow b fun w =>
    if (s.win w).state ≠ .defined then .refuse .windowState
    else .done (s.modWin w fun x => { x with state := .unused, defn := none, remaining := none }).attempt []

/-- LAYOUT's own rule (R69, R70). -/
def judgeLayout (counts : Vector Byte 12) (s : State) : Judged :=
  if !countsInRange counts then .refuse .badParam
  else if !s.noneClaims then .refuse .windowsClaiming
  else if (pageCounts counts).sum > Config.totalPages then .refuse .overCapacity
  else .done (s.mapWins fun w x => { x with pages := counts[w].toNat }) []

/-- The reason that refuses OPEN of a window, if any check of R10 fails, in its order. -/
def State.openRefusal (s : State) (w : WinId) : Option Reason :=
  let x := s.win w
  match x.defn with
  | none => some .windowState
  | some d =>
    if x.state ≠ .defined ∧ x.state ≠ .halted then some .windowState
    else if s.link.state ≠ .active then some .linkDown
    else if x.pages = 0 then some .noPages
    else if d.farEnd > s.link.capacity then some .farRange
    else if d.packetSize > s.link.packetLimit then some .packetSize
    else none

/-- What OPEN does at taking (R11, R131): the fault record is discarded, the window enters SYNCING with a READY SYNC
exchange, and for a PERIODIC window on a FREE link the mode becomes CYCLED with MODE_CHANGED. -/
def State.takeOpen (s : State) (w : WinId) : State :=
  let s := s.modWin w fun x => { x with state := .syncing, fault := none, exchange := some (.new .sync) }
  if (s.win w).isPeriodic && s.arb.mode = .free then s.toCycled.raiseDevice .modeChanged else s

/-- OPEN's own rule (R10, R11). -/
def judgeOpen (seq b : Byte) (s : State) : Judged :=
  onWindow b fun w =>
    match s.openRefusal w with
    | some r => .refuse r
    | none => .pending (((s.takeOpen w).startLong .openWindow seq (some w)).settle)

/-- A window takes a new state, and nothing else of it changes. -/
def State.enter (s : State) (w : WinId) (st : WindowState) : State := s.modWin w fun x => { x with state := st }

/-- What follows a change of window state out of HELD: the head's next packet is offered (R51), and the attempt and the
choice are made; out of any other state only the attempt (R25, R49, R121). -/
def State.liftHold (s : State) (w : WinId) (wasHeld : Bool) : State :=
  if wasHeld then (s.offer w).settle else s.attempt

/-- HOLD's own rule (R14). -/
def judgeHold (b : Byte) (s : State) : Judged :=
  onWindow b fun w =>
    if (s.win w).state ≠ .opened then .refuse .windowState else .done (s.enter w .held).attempt []

/-- RELEASE's own rule (R15, R51). -/
def judgeRelease (b : Byte) (s : State) : Judged :=
  onWindow b fun w =>
    if (s.win w).state ≠ .held then .refuse .windowState else .done ((s.enter w .opened).liftHold w true) []

/-- FENCE's own rule (R16, R51). -/
def judgeFence (b : Byte) (s : State) : Judged :=
  onWindow b fun w =>
    let st := (s.win w).state
    if st ≠ .opened ∧ st ≠ .held then .refuse .windowState
    else .done ((s.enter w .fenced).liftHold w (st = .held)) []

/-- UNFENCE's own rule (R17). -/
def judgeUnfence (b : Byte) (s : State) : Judged :=
  onWindow b fun w =>
    if (s.win w).state ≠ .fenced then .refuse .windowState else .done (s.enter w .opened).attempt []

/-- A window enters DEFINED and CLOSED is raised; its fault record is discarded (R18, R21). -/
def State.closeNow (s : State) (w : WinId) : State :=
  (s.modWin w fun x => { x with state := .defined, fault := none, exchange := none }).raiseWindow w .closed

/-- CLOSE's own rule (R18, R51). -/
def judgeClose (b : Byte) (s : State) : Judged :=
  onWindow b fun w =>
    let x := s.win w
    match x.state with
    | .opened | .held | .fenced =>
      if x.queue.isEmpty then .done (s.closeNow w).attempt []
      else .done ((s.enter w .closing).liftHold w (x.state = .held)) []
    | .halted => .done (s.closeNow w).attempt []
    | .unused | .defined | .syncing | .closing => .refuse .windowState

/-- The states in which FLUSH is taken (R60). -/
def WindowState.flushable : WindowState → Bool
  | .opened | .held | .fenced | .closing => true
  | .unused | .defined | .syncing | .halted => false

/-- FLUSH's own rule (R60, R61): done at once on an empty queue; otherwise the newest transfer is marked and the long
command runs. -/
def judgeFlush (seq b : Byte) (s : State) : Judged :=
  onWindow b fun w =>
    let x := s.win w
    if !x.state.flushable then .refuse .windowState
    else
      match x.queue.getLast? with
      | none => .done s []
      | some i => .pending ((s.modSlot i fun t => { t with flushMark := true }).startLong .flush seq (some w))

/-- READ-WINDOW's own rule (R22); with no exchange the payload uses a free value (log 9). -/
def judgeReadWindow (b : Byte) (s : State) : Judged :=
  onWindow b fun w =>
    .done (if (s.win w).exchange.isNone then { s with freeUses := s.freeUses + 1 } else s) (s.windowPayload w)

/-- READ-FAULT's own rule (R117): the record of a HALTED window, and no record for any other state. -/
def judgeReadFault (b : Byte) (s : State) : Judged :=
  onWindow b fun w =>
    .done s (faultPayload (if (s.win w).state = .halted then (s.win w).fault else none))

/-! ### Meanings -/

/-- DEFINE (R4 to R6). -/
def execDefine (seq window : Byte) (params : DefineParams) (s : State) : Host.Outcome State Fault Refusal :=
  .next (s.commandUnlessBusy seq 0x10 (judgeDefine window params))

/-- UNDEFINE (R7). -/
def execUndefine (seq window : Byte) (s : State) : Host.Outcome State Fault Refusal :=
  .next (s.commandUnlessBusy seq 0x11 (judgeUndefine window))

/-- LAYOUT (R69, R70). -/
def execLayout (seq : Byte) (counts : Vector Byte 12) (s : State) : Host.Outcome State Fault Refusal :=
  .next (s.commandUnlessBusy seq 0x12 (judgeLayout counts))

/-- OPEN (R10, R11). -/
def execOpen (seq window : Byte) (s : State) : Host.Outcome State Fault Refusal :=
  .next (s.commandUnlessBusy seq 0x13 (judgeOpen seq window))

/-- HOLD (R14). -/
def execHold (seq window : Byte) (s : State) : Host.Outcome State Fault Refusal :=
  .next (s.commandUnlessBusy seq 0x14 (judgeHold window))

/-- RELEASE (R15). -/
def execRelease (seq window : Byte) (s : State) : Host.Outcome State Fault Refusal :=
  .next (s.commandUnlessBusy seq 0x15 (judgeRelease window))

/-- FENCE (R16). -/
def execFence (seq window : Byte) (s : State) : Host.Outcome State Fault Refusal :=
  .next (s.commandUnlessBusy seq 0x16 (judgeFence window))

/-- UNFENCE (R17). -/
def execUnfence (seq window : Byte) (s : State) : Host.Outcome State Fault Refusal :=
  .next (s.commandUnlessBusy seq 0x17 (judgeUnfence window))

/-- CLOSE (R18). -/
def execClose (seq window : Byte) (s : State) : Host.Outcome State Fault Refusal :=
  .next (s.commandUnlessBusy seq 0x18 (judgeClose window))

/-- FLUSH (R60, R61). -/
def execFlush (seq window : Byte) (s : State) : Host.Outcome State Fault Refusal :=
  .next (s.commandUnlessBusy seq 0x19 (judgeFlush seq window))

/-- READ-WINDOW (R22). -/
def execReadWindow (seq window : Byte) (s : State) : Host.Outcome State Fault Refusal :=
  .next (s.commandUnlessBusy seq 0x1A (judgeReadWindow window))

/-- READ-FAULT (R117). -/
def execReadFault (seq window : Byte) (s : State) : Host.Outcome State Fault Refusal :=
  .next (s.commandUnlessBusy seq 0x1B (judgeReadFault window))

end Sys2Proof.Machine
end

