-- ==== Sys2Proof/Machine/Dispatch.lean ====
section
/-! DEFINITION. The meaning of each command: one arm per row of spec/opcode_table.json. -/

namespace Sys2Proof.Machine

def exec (i : Instr) (s : State) : Host.Outcome State Fault Refusal :=
  match i with
  | .pinReset => Sys2Proof.Machine.execPinReset s
  | .getStatus seq => Sys2Proof.Machine.execGetStatus seq s
  | .define seq window params => Sys2Proof.Machine.execDefine seq window params s
  | .undefine seq window => Sys2Proof.Machine.execUndefine seq window s
  | .layout seq counts => Sys2Proof.Machine.execLayout seq counts s
  | .openWindow seq window => Sys2Proof.Machine.execOpen seq window s
  | .hold seq window => Sys2Proof.Machine.execHold seq window s
  | .release seq window => Sys2Proof.Machine.execRelease seq window s
  | .fence seq window => Sys2Proof.Machine.execFence seq window s
  | .unfence seq window => Sys2Proof.Machine.execUnfence seq window s
  | .close seq window => Sys2Proof.Machine.execClose seq window s
  | .flush seq window => Sys2Proof.Machine.execFlush seq window s
  | .readWindow seq window => Sys2Proof.Machine.execReadWindow seq window s
  | .readFault seq window => Sys2Proof.Machine.execReadFault seq window s
  | .readCounters seq selector => Sys2Proof.Machine.execReadCounters seq selector s
  | .clearCounters seq selector => Sys2Proof.Machine.execClearCounters seq selector s
  | .attach seq => Sys2Proof.Machine.execAttach seq s
  | .detach seq => Sys2Proof.Machine.execDetach seq s
  | .setLink seq params => Sys2Proof.Machine.execSetLink seq params s
  | .setMasks seq windowMask deviceMask => Sys2Proof.Machine.execSetMasks seq windowMask deviceMask s
  | .readEvents seq => Sys2Proof.Machine.execReadEvents seq s
  | .ackEvents seq target kinds => Sys2Proof.Machine.execAckEvents seq target kinds s
  | .abort seq => Sys2Proof.Machine.execAbort seq s
  | .resetBlockWindows seq target => Sys2Proof.Machine.execResetBlockWindows seq target s
  | .resetBlockLink seq target => Sys2Proof.Machine.execResetBlockLink seq target s
  | .resetBlockAll seq target => Sys2Proof.Machine.execResetBlockAll seq target s
  | .frameError seq code detail => Sys2Proof.Machine.execFrameError seq code detail s
  | .frameDiscarded => Sys2Proof.Machine.execFrameDiscarded s
  | .requestPresented req => Sys2Proof.Machine.execRequestPresented req s
  | .acceptanceAttempt => Sys2Proof.Machine.execAcceptanceAttempt s
  | .waitLimitExpiry => Sys2Proof.Machine.execWaitLimitExpiry s
  | .downstreamResponse tag ok data => Sys2Proof.Machine.execDownstreamResponse tag ok data s
  | .ackReceived window bit syncMark => Sys2Proof.Machine.execAckReceived window bit syncMark s
  | .nakReceived window bit => Sys2Proof.Machine.execNakReceived window bit s
  | .refuseReceived window bit => Sys2Proof.Machine.execRefuseReceived window bit s
  | .dataReceived window bit data => Sys2Proof.Machine.execDataReceived window bit data s
  | .helloReplyReceived capacity packetLimit fresh => Sys2Proof.Machine.execHelloReplyReceived capacity packetLimit fresh s
  | .badCheckPacket => Sys2Proof.Machine.execBadCheckPacket s
  | .otherInboundPacket typeCode => Sys2Proof.Machine.execOtherInboundPacket typeCode s
  | .responseLimitExpiry window => Sys2Proof.Machine.execResponseLimitExpiry window s
  | .nakIntervalEnd window => Sys2Proof.Machine.execNakIntervalEnd window s
  | .transmissionEnd => Sys2Proof.Machine.execTransmissionEnd s
  | .cycleStart => Sys2Proof.Machine.execCycleStart s
  | .keepAliveExpiry => Sys2Proof.Machine.execKeepAliveExpiry s
  | .probeTimerExpiry => Sys2Proof.Machine.execProbeTimerExpiry s
  | .attachNoReply => Sys2Proof.Machine.execAttachNoReply s
  | .recoveryLimitExpiry => Sys2Proof.Machine.execRecoveryLimitExpiry s
  | .lossOfSignal => Sys2Proof.Machine.execLossOfSignal s
  | .signalPresent => Sys2Proof.Machine.execSignalPresent s
  | .chipSelectFalls => Sys2Proof.Machine.execChipSelectFalls s
  | .resultTransaction clocked => Sys2Proof.Machine.execResultTransaction clocked s

end Sys2Proof.Machine
end

