-- ==== Sys2Proof/Machine/FarModule.lean ====
section
/-! DEFINITION. The far module's duties (R90 to R93, R152 to R154) as a relation between its state, a packet that reaches
it, its answer and its next state. The module is outside the EB12 and no part of `State` (log 18). Where the manual leaves
it a choice (NAK or REFUSE of a new packet, NAK of a repeat, a short DATA, an ACK's bit on a SYNC), the relation allows every
choice; where the manual is silent, what the relation allows is the model's choice (log 27, log 31). -/

namespace Sys2Proof.Machine

/-- What the module knows of its own sequence state (R153): kept; lost and not yet reported; lost and reported fresh. -/
inductive Freshness where
  | kept
  | lost
  | reported
  deriving DecidableEq, Repr

/-- A far module: its expected bits (R90), its memory from far address 0, its packet limit and its freshness. -/
structure FarModule where
  expected    : Vector Bool 12
  memory      : List Byte
  packetLimit : Nat
  freshness   : Freshness
  deriving DecidableEq, Repr

/-- An answer of the module. -/
inductive Reply where
  | helloReply (capacity packetLimit : Nat) (fresh : Bool)
  | ack (w : WinId) (bit syncMark : Bool)
  | nak (w : WinId) (bit : Bool)
  | refuse (w : WinId) (bit : Bool)
  | data (w : WinId) (bit : Bool) (bytes : List Byte)
  deriving DecidableEq, Repr

/-- The window field of an answer. -/
def windowField (w : WinId) : BitVec 4 := BitVec.ofNat 4 w.val

/-- The row of the opcode table that an answer becomes when it reaches the EB12 good (R82). -/
def Reply.row : Reply → Instr
  | .helloReply c l f => .helloReplyReceived (BitVec.ofNat 32 c) (BitVec.ofNat 16 l) f
  | .ack w b m => .ackReceived (windowField w) b m
  | .nak w b => .nakReceived (windowField w) b
  | .refuse w b => .refuseReceived (windowField w) b
  | .data w b bytes => .dataReceived (windowField w) b bytes

/-- The module's memory size in 1 KiB units (R152); of a size between two units the whole units are counted (DESIGN CHOICE,
log 31). -/
def FarModule.capacity (m : FarModule) : Nat := m.memory.length / Config.granule

/-- The expected bit of a window number. -/
def FarModule.bit (m : FarModule) (w : WinId) : Bool := m.expected[w]

/-- The bytes of a range of the module's memory, as many as it holds. -/
def FarModule.read (m : FarModule) (far : FarAddr) (len : Nat) : List Byte := (m.memory.drop far.toNat).take len

/-- Bytes written at a far address. -/
def FarModule.write (m : FarModule) (far : FarAddr) (data : List Byte) : FarModule :=
  { m with memory := m.memory.take far.toNat ++ data ++ m.memory.drop (far.toNat + data.length) }

/-- The expected bit of a window set. -/
def FarModule.setBit (m : FarModule) (w : WinId) (b : Bool) : FarModule := { m with expected := m.expected.set w b }

/-- A SYNC carried out (R90): the expected bit becomes 0; after a reported loss the fresh flag clears (R153). -/
def FarModule.sync (m : FarModule) (w : WinId) : FarModule :=
  { m.setBit w false with freshness := if m.freshness = .reported then .kept else m.freshness }

/-- Whether the module may answer WRITE and READ packets (R153). -/
def FarModule.serves (m : FarModule) : Bool := m.freshness != .lost

/-- The module loses its sequence state (R153): any expected bits and any memory contents may result, and the loss has not
been reported. That its memory size and packet limit stay through the loss is the model's choice (DESIGN CHOICE, log 27: R153
says nothing of them); they may change by `regauges` at any time. -/
def FarModule.loses (m n : FarModule) : Prop :=
  n.freshness = .lost ∧ n.memory.length = m.memory.length ∧ n.packetLimit = m.packetLimit

/-- The module's memory size or packet limit becomes another, so that its reply to a later HELLO gives other values (R152,
section 12.4); what it knows of its sequence state stays, and its bytes may be any. When this may happen the manual does not
say, and the model allows it between any two packets (DESIGN CHOICE, log 27). -/
def FarModule.regauges (m n : FarModule) : Prop := n.expected = m.expected ∧ n.freshness = m.freshness

/-- How the module answers a packet that reaches it: `Answers good m p r n` says that in state `m` it may answer packet
`p` with `r` and be in state `n`. The link has no state here, so a loss of the link keeps every expected bit (R154).
Whether a repeat may be answered REFUSE, and which bit a NAK or REFUSE of a SYNC carries, the manual does not say: the
relation allows each (DESIGN CHOICE, log 31). -/
inductive Answers : Bool → FarModule → Packet → Option Reply → FarModule → Prop where
  /-- A packet with a bad check is discarded unanswered (R93, R152). -/
  | bad (m : FarModule) (p : Packet) : Answers false m p none m
  /-- CYCLE markers are not answered (R93). -/
  | cycle (m : FarModule) (n : BitVec 16) : Answers true m (.cycle n) none m
  /-- IDLE markers are not answered (R93). -/
  | idle (m : FarModule) : Answers true m .idle none m
  /-- A HELLO is answered by one HELLO_REPLY, with the fresh flag of R153 (R152). -/
  | hello (m : FarModule) :
    Answers true m .hello (some (.helloReply m.capacity m.packetLimit (m.freshness != .kept)))
      { m with freshness := if m.freshness = .lost then .reported else m.freshness }
  /-- A SYNC is carried out and acknowledged with the SYNC mark and any sequence bit (R90). -/
  | syncDone (m : FarModule) (w : WinId) (any : Bool) : Answers true m (.sync w) (some (.ack w any true)) (m.sync w)
  /-- A SYNC is not taken now, and its expected bit stays (R90); any sequence bit in the NAK (DESIGN CHOICE, log 31). -/
  | syncNak (m : FarModule) (w : WinId) (any : Bool) : Answers true m (.sync w) (some (.nak w any)) m
  /-- A SYNC is never taken, and its expected bit stays (R90); any sequence bit in the REFUSE (DESIGN CHOICE, log 31). -/
  | syncRefuse (m : FarModule) (w : WinId) (any : Bool) : Answers true m (.sync w) (some (.refuse w any)) m
  /-- A new WRITE is carried out whole and acknowledged, and the expected bit toggles (R91). -/
  | writeNew (m : FarModule) (w : WinId) (bit : Bool) (far : FarAddr) (data : List Byte)
      (hs : m.serves = true) (hb : bit = m.bit w) (hf : far.toNat + data.length ≤ m.memory.length) :
    Answers true m (.write w bit far data) (some (.ack w bit false)) ((m.write far data).setBit w (!bit))
  /-- A repeated WRITE is acknowledged and writes nothing (R91). -/
  | writeRepeat (m : FarModule) (w : WinId) (bit : Bool) (far : FarAddr) (data : List Byte)
      (hs : m.serves = true) (hb : bit ≠ m.bit w) :
    Answers true m (.write w bit far data) (some (.ack w bit false)) m
  /-- A WRITE that cannot be carried out now, and a repeat, which may be answered NAK too (R91). -/
  | writeNak (m : FarModule) (w : WinId) (bit : Bool) (far : FarAddr) (data : List Byte) (hs : m.serves = true) :
    Answers true m (.write w bit far data) (some (.nak w bit)) m
  /-- A WRITE that will never be carried out is answered REFUSE, and nothing is written (R91). A WRITE with either bit is
  allowed here: R91 gives a repeat an ACK, lets it be answered NAK and says nothing of REFUSE (DESIGN CHOICE, log 31). -/
  | writeRefuse (m : FarModule) (w : WinId) (bit : Bool) (far : FarAddr) (data : List Byte) (hs : m.serves = true) :
    Answers true m (.write w bit far data) (some (.refuse w bit)) m
  /-- A new READ is answered with the asked bytes, or with fewer when the range runs past the module's memory, and the
  expected bit toggles (R92). -/
  | readNew (m : FarModule) (w : WinId) (bit : Bool) (far : FarAddr) (len k : Nat)
      (hs : m.serves = true) (hb : bit = m.bit w) (hk : far.toNat + len ≤ m.memory.length → len ≤ k) :
    Answers true m (.read w bit far len) (some (.data w bit ((m.read far len).take k))) (m.setBit w (!bit))
  /-- A repeated READ is answered by reading the range again, and the expected bit stays (R92). -/
  | readRepeat (m : FarModule) (w : WinId) (bit : Bool) (far : FarAddr) (len k : Nat)
      (hs : m.serves = true) (hb : bit ≠ m.bit w) (hk : far.toNat + len ≤ m.memory.length → len ≤ k) :
    Answers true m (.read w bit far len) (some (.data w bit ((m.read far len).take k))) m
  /-- A READ that cannot be carried out now, and a repeat, as for a WRITE (R91, R92). -/
  | readNak (m : FarModule) (w : WinId) (bit : Bool) (far : FarAddr) (len : Nat) (hs : m.serves = true) :
    Answers true m (.read w bit far len) (some (.nak w bit)) m
  /-- A READ that will never be carried out, as for a WRITE (R92); with either bit (DESIGN CHOICE, log 31). -/
  | readRefuse (m : FarModule) (w : WinId) (bit : Bool) (far : FarAddr) (len : Nat) (hs : m.serves = true) :
    Answers true m (.read w bit far len) (some (.refuse w bit)) m
  /-- After a loss of its sequence state the module answers no WRITE or READ until it has sent a fresh reply (R153). -/
  | writeSilent (m : FarModule) (w : WinId) (bit : Bool) (far : FarAddr) (data : List Byte)
      (hs : m.serves = false) : Answers true m (.write w bit far data) none m
  | readSilent (m : FarModule) (w : WinId) (bit : Bool) (far : FarAddr) (len : Nat)
      (hs : m.serves = false) : Answers true m (.read w bit far len) none m

end Sys2Proof.Machine
end

