-- ==== Sys2Proof/Safety.lean ====
section
/-! DEFINITION. The laws of the whole part that the manual states in prose, as predicates of a state: what a safe run
keeps. Each cites the rule it formalises. -/

namespace Sys2Proof.Safety

open Sys2Proof.Machine

/-- R167: ATTN is asserted exactly when at least one pending cause is of an unmasked kind. -/
abbrev AttnLaw (s : State) : Prop := s.ev.attn = s.attnLevel

/-- R21: a window has a fault record exactly when it is HALTED. -/
abbrev FaultLaw (s : State) : Prop := ∀ w : WinId, (s.win w).fault.isSome = ((s.win w).state == .halted)

/-- Section 1.1: a window's definition is present in every state but UNUSED. -/
abbrev DefinedLaw (s : State) : Prop := ∀ w : WinId, (s.win w).defn.isSome = ((s.win w).state != .unused)

/-- The states in which R8 keeps a window's queue empty: UNUSED, DEFINED, SYNCING and HALTED. -/
def queueless : WindowState → Bool
  | .unused | .defined | .syncing | .halted => true
  | .opened | .held | .fenced | .closing => false

/-- R8: the queue of a window in state UNUSED, DEFINED, SYNCING or HALTED is empty. -/
abbrev QueueLaw (s : State) : Prop := ∀ w : WinId, queueless (s.win w).state = true → (s.win w).queue = []

/-- Whether an address lies in the upstream range of a window whose state is other than UNUSED (R3). -/
def reserves (x : Window) (a : Nat) : Bool :=
  x.state != .unused &&
    match x.defn with
    | some d => d.covers a
    | none => false

/-- R3: no upstream address lies in the upstream ranges of two windows whose state is other than UNUSED. -/
def OverlapLaw (s : State) : Prop :=
  ∀ (a : Nat) (v w : WinId), reserves (s.win v) a = true → reserves (s.win w) a = true → v = w

/-- R68 and section 1.1: every page count is at most 32, and their sum is at most 128. -/
abbrev PagesLaw (s : State) : Prop :=
  (∀ w : WinId, (s.win w).pages ≤ Config.maxPages) ∧
    (allWindows.map fun w => (s.win w).pages).sum ≤ Config.totalPages

/-- R135: whenever any window is in SYNCING, OPEN, HELD, FENCED or CLOSING, the link is ACTIVE or RECOVERING. -/
abbrev LiveLinkLaw (s : State) : Prop :=
  ∀ w : WinId, (s.win w).state.live = true → s.link.state = .active ∨ s.link.state = .recovering

/-- What R83 allows a window's exchange to be: none outside SYNCING, OPEN, HELD, FENCED and CLOSING; a SYNC exactly for
a SYNCING window; a WRITE or READ only with a transfer in the queue. -/
def exchangeFits (x : Window) : Bool :=
  match x.exchange with
  | none => true
  | some e => x.state.live && ((e.body == .sync) == (x.state == .syncing)) && (e.body == .sync || !x.queue.isEmpty)

/-- R83: the exchange records that exist are those the rule allows. -/
abbrev ExchangeLaw (s : State) : Prop := ∀ w : WinId, exchangeFits (s.win w) = true

/-- R126 and R128: a window holds a remaining budget exactly when it is defined with class PERIODIC, and it is never
above the window's budget. -/
def budgetFits (x : Window) : Bool :=
  match x.defn.bind (·.cls.budget), x.remaining with
  | some b, some r => r ≤ b
  | none, none => true
  | _, _ => false

/-- R126 and R128 for every window. -/
abbrev BudgetLaw (s : State) : Prop := ∀ w : WinId, budgetFits (s.win w) = true

/-- R128: in FREE mode no PERIODIC window is SYNCING, OPEN, HELD, FENCED or CLOSING. -/
abbrev ModeLaw (s : State) : Prop := s.arb.mode = .free → s.periodicLive = false

/-- R121: the transmitter sends one packet at a time: an exchange that is SENDING is the one whose packet it sends. -/
abbrev SendingLaw (s : State) : Prop :=
  ∀ w : WinId, (s.win w).exchange.map (·.state) = some .sending → s.arb.transmitter.bind (·.window) = some w

/-- R136, R137: the link is PROBING exactly while ATTACH is RUNNING. -/
abbrev ProbeLaw (s : State) : Prop := (s.link.state == .probing) = s.runsLong .attach

/-- R11 to R13: a window is SYNCING exactly while OPEN is RUNNING for it. -/
abbrev SyncLaw (s : State) : Prop :=
  ∀ w : WinId, ((s.win w).state == .syncing) = (s.runsLong .openWindow && s.cmd.long.window == some w)

/-- R44 to R47: a queue's slots are busy with transfers of its window, the first of them HEAD and the others
QUEUED. -/
def queueHolds (s : State) (w : WinId) : Bool :=
  let q := (s.win w).queue
  q.all fun i =>
    match s.slot i with
    | some t => t.window == w && ((t.state == .head) == (q.head? == some i))
    | none => false

/-- R44: every busy slot appears exactly once in exactly one window queue, the first of a queue HEAD, the others
QUEUED. -/
abbrev SlotLaw (s : State) : Prop :=
  (∀ w : WinId, (s.win w).queue.Nodup ∧ queueHolds s w = true) ∧
    ∀ i : SlotId, ∀ w : WinId, (s.slot i).map (·.window) = some w → i ∈ (s.win w).queue

/-- R72: the reserved bytes of every window are at most its area. -/
abbrev ReserveLaw (s : State) : Prop := ∀ w : WinId, s.reserved w ≤ (s.win w).area

/-- The slots, the queues and the staging reservations together: R8, R44 and R72. -/
def TransferLaw (s : State) : Prop := QueueLaw s ∧ SlotLaw s ∧ ReserveLaw s

/-- The outstanding transfers of a window with a tag: the STRICT_WRITEs and READs of its queue (section 2.3). -/
def outstanding (s : State) (w : WinId) (t : Tag) : Nat :=
  ((s.transfersOf (s.win w).queue).filter fun x => x.kind != .postedWrite && x.tag == t).length

/-- What the tag order table says of one tag (R29): with destination NONE the count is 0 and nothing is outstanding; with
a window, the count is the window's outstanding transfers of the tag; with LOCAL the count is not 0; and the tag is
outstanding nowhere else. -/
def tagFits (s : State) (t : Tag) : Bool :=
  let e := s.tagEntry t
  match e.dest with
  | .none => e.count == 0 && allWindows.all fun w => outstanding s w t == 0
  | .localMem => e.count != 0 && allWindows.all fun w => outstanding s w t == 0
  | .window v =>
    e.count != 0 && e.count == outstanding s v t && allWindows.all fun w => w == v || outstanding s w t == 0

/-- The outstanding count of a tag that is outstanding at local memory. -/
def localCount (e : TagEntry) : Nat := if e.dest = .localMem then e.count else 0

/-- R29 and R32: every tag is outstanding at one destination at most, with its count, and the downstream outstanding
count is the number of local requests outstanding. -/
def TagLaw (s : State) : Prop :=
  (∀ t : Tag, tagFits s t = true) ∧ (allTags.map fun t => localCount (s.tagEntry t)).sum = s.acc.downstream

/-- R32: at most 16 local requests are outstanding. -/
abbrev DownstreamLaw (s : State) : Prop := s.acc.downstream ≤ Config.maxDownstream

/-- The ranges that R88, R132, R148 and section 9.4 give the parameters of SET-LINK. -/
abbrev SettingsLaw (s : State) : Prop :=
  (100 ≤ s.arb.cycleLength ∧ s.arb.cycleLength ≤ 2000) ∧
    (1 ≤ s.arb.keepAliveInterval ∧ s.arb.keepAliveInterval ≤ 15) ∧
    (2 ≤ s.eng.responseLimit ∧ s.eng.responseLimit ≤ 255) ∧
    (1 ≤ s.link.recoveryLimit ∧ s.link.recoveryLimit ≤ 1000) ∧ s.acc.waitLimit ≤ 65535

/-- Section 8.1: the timeout run stays below 8, since the eighth expiry loses the link and sets it to 0. -/
abbrev TimeoutRunLaw (s : State) : Prop := s.link.timeoutRun < Config.timeoutRunLimit

/-- R111: no exchange of a window with a NAK limit accrues more NAK time than the limit. In BACKOFF what is left of the
interval fits as well. -/
def nakFits (x : Window) : Bool :=
  match x.exchange, x.defn with
  | some e, some d =>
    d.nakLimit == 0 ||
      match e.state with
      | .backoff n => n ≤ d.nakInterval && e.nakUsed + (d.nakInterval - n) ≤ d.nakLimit
      | .ready | .sending | .awaiting .. => e.nakUsed ≤ d.nakLimit
  | _, _ => true

/-- R111 for every window. -/
abbrev NakLaw (s : State) : Prop := ∀ w : WinId, nakFits (s.win w) = true

/-- Whether a window's exchange could be sent now (R85, R122): the link ACTIVE, the window SYNCING, OPEN, FENCED or
CLOSING, the exchange READY, and in a PERIODIC window a SYNC or no longer than the remaining budget. -/
def isCandidate (s : State) (w : WinId) : Bool :=
  let x := s.win w
  s.link.state == .active && [.syncing, .opened, .fenced, .closing].contains x.state &&
    match x.exchange with
    | none => false
    | some e =>
      e.state == .ready &&
        (!x.isPeriodic ||
          match e.body with
          | .sync => true
          | .write _ len _ | .read _ len _ => len ≤ x.remaining.getD 0)

/-- R121: while the transmitter is FREE no marker is pending and no exchange is a candidate. -/
abbrev IdleLaw (s : State) : Prop :=
  s.arb.transmitter = none → s.arb.marker = none ∧ ∀ w : WinId, isCandidate s w = false

/-- R25: between steps the presented request waits with the reason that an attempt would record, and for nothing that it
could have, so an attempt changes nothing. -/
abbrev SettledLaw (s : State) : Prop := s.attempt = s

/-- What R49, R84 and R105 say of a window's WRITE or READ exchange: it carries the packet of the head that begins at
offset bytes done, which is less than the head's size, with the window's sequence bit. -/
def headFits (s : State) (w : WinId) : Bool :=
  match (s.win w).exchange with
  | none => true
  | some e =>
    e.body == .sync ||
      match s.headOf w, (s.win w).defn with
      | some (_, t), some d => t.bytesDone < t.size && e.body == packetBody t d.packetSize (s.win w).seqBit
      | _, _ => false

/-- What R36, R47, R50 and R54 keep of a transfer that has not ended: its size is from 1 to 256, its bytes done are less
than its size, and 0 while it is QUEUED. -/
def progressFits (t : Transfer) : Bool :=
  1 ≤ t.size && t.size ≤ 256 && t.bytesDone < t.size && (t.state == .head || t.bytesDone == 0)

/-- R36, R47, R49, R50, R84 and R105 for every window and every busy slot. -/
def HeadLaw (s : State) : Prop :=
  (∀ w : WinId, headFits s w = true) ∧ ∀ i : SlotId, (s.slot i).all progressFits = true

/-- R123: the markers that may be pending in a link state and mode. -/
def markerFits (l : LinkState) (m : LinkMode) : Option Marker → Bool
  | none => true
  | some (.cycle _) => l == .active && m == .cycled
  | some .idle => l == .active && m == .free
  | some .hello => l == .probing || l == .recovering

/-- R123, R124, R130, R137, R140 and R147: which timers run in which link state and mode, and which marker may be
pending. -/
def TimerLaw (s : State) : Prop :=
  s.arb.cycleTimer.isSome = (s.link.state == .active && s.arb.mode == .cycled) ∧
    (s.arb.keepAliveTimer.isSome = true → s.link.state = .active ∧ s.arb.mode = .free) ∧
    s.link.probeTimer.isSome = (s.link.state == .probing || s.link.state == .recovering) ∧
    s.link.recoveryTimer.isSome = (s.link.state == .probing || s.link.state == .recovering) ∧
    markerFits s.link.state s.arb.mode s.arb.marker = true

/-- The bounds of section 8.1 and of R32, R68, R88, R132, R142 and R148: the ranges of the link parameters, the timeout run
below 8, at most 16 local requests outstanding, and the page counts. -/
def BoundsLaw (s : State) : Prop := SettingsLaw s ∧ TimeoutRunLaw s ∧ DownstreamLaw s ∧ PagesLaw s

/-- A law that every step keeps, from any state in which it holds. -/
def Kept (law : State → Prop) : Prop :=
  ∀ s t : State, law s → step s = .next t → law t

/-! ### Terms of the statements -/

/-- The number of a window as a frame carries it. -/
abbrev numberOf (w : WinId) : Byte := BitVec.ofNat 8 w.val

/-- No long command is RUNNING, so that the BUSY rule leaves a frame to its own rule (R159). -/
abbrev Ready (s : State) : Prop := s.cmd.long.state ≠ .running

/-- What the judging of a frame leaves of the command unit (R155, R157): the receiver IDLE and the record replaced
whole; everything else is as in `s`. -/
def answered (s : State) (r : ResultRecord) : State := { s with cmd := { s.cmd with receiver := .idle, result := r } }

/-- The part as a good packet leaves it before it is handled: the timeout run is 0 (R82, R142). -/
def heard (s : State) : State := { s with link := { s.link with timeoutRun := 0 } }

/-- A window in another state, nothing else of it changed. -/
def withState (s : State) (w : WinId) (st : WindowState) : State := s.setWin w { s.win w with state := st }

/-- The window's exchange is AWAITING and this response settles it: the link is ACTIVE, the type fits the kind, and the
bit agrees for a WRITE or READ (R94). -/
def Settles (s : State) (w : WinId) (x : Exchange) (bit : Bool) (r : Response) : Prop :=
  s.link.state = .active ∧ (s.win w).exchange = some x ∧ x.isAwaiting = true ∧ r.fits x.body = true ∧
    x.body.bitAgrees bit = true

/-- What an attempt, and the choice it may cause, leave as they are: of every window all but its queue, its exchange and
its remaining budget, and of its queue what is there already; every busy slot and its reservation; the engine, the link
and the command unit; the masks; what has been sent and clocked out; and of the arbiter all but the marker, the pointers
and the transmitter. -/
def AttemptKeeps (s t : State) : Prop :=
  (∀ w : WinId, t.win w =
      { s.win w with queue := (t.win w).queue, exchange := (t.win w).exchange, remaining := (t.win w).remaining } ∧
    (s.win w).queue <+: (t.win w).queue) ∧
  (∀ i : SlotId, (s.slot i).isSome = true → t.slot i = s.slot i ∧ t.reservation i = s.reservation i) ∧
  t.eng = s.eng ∧ t.link = s.link ∧ t.cmd = s.cmd ∧
  t.ev.windowMask = s.ev.windowMask ∧ t.ev.deviceMask = s.ev.deviceMask ∧
  t.out.sent = s.out.sent ∧ t.out.clocked = s.out.clocked ∧ s.out.answers <+: t.out.answers ∧
  t.acc.waitLimit = s.acc.waitLimit ∧
  t.arb = { s.arb with marker := t.arb.marker, periodicPtr := t.arb.periodicPtr, generalPtr := t.arb.generalPtr,
                       transmitter := t.arb.transmitter } ∧
  t.freeUses = s.freeUses ∧ t.pending = s.pending

/-- The window counters after the failure path has ended a queue of these transfers: LOST_WRITES for a posted head,
DISCARDED for the posted writes behind it (R113, R114, R118). -/
def failedCounters (c : WindowCounters) (ts : List Transfer) : WindowCounters :=
  let lost := if ts.head?.map (·.kind) = some .postedWrite then c.grow .lostWrites 1 else c
  lost.grow .discarded (discardedOf ts)

/-- The record of a window after the failure path (R20, R113 to R116): HALTED, no queue, no exchange, the fault record,
FAULT and where it applies DISCARD pending, the counters grown, everything else as it was. -/
def haltedRecord (s : State) (w : WinId) (cause : FaultCause) (strike : Option StrikeKind) (failFar : Option FarAddr) :
    Window :=
  let x := s.win w
  let ts := s.transfersOf x.queue
  { x with
    state := .halted, queue := [], exchange := none
    fault := some { cause := cause, strike := strike, transfer := faultTransferOf failFar ts,
                    discarded := discardedOf ts }
    counters := failedCounters x.counters ts
    pending := x.pending ||| WindowKind.fault.bit ||| (if discardedOf ts = 0 then 0 else WindowKind.discard.bit) }

/-- The ERROR answers of a failing queue, in queue order: one for each STRICT_WRITE and READ (R113, R114). -/
def errorAnswers (ts : List Transfer) : List Answer :=
  (ts.filter fun t => t.kind != .postedWrite).map fun t => ⟨t.tag, false, []⟩

/-- What a step that ends the queue of one window, and the attempt that follows it, leave: every other window but for
its queue, exchange and remaining budget; every busy slot outside the window's queue; the engine's response limit and
the masks. -/
def OthersKept (s t : State) (w : WinId) : Prop :=
  (∀ v : WinId, v ≠ w → t.win v =
    { s.win v with queue := (t.win v).queue, exchange := (t.win v).exchange, remaining := (t.win v).remaining } ∧
    (s.win v).queue <+: (t.win v).queue) ∧
  (∀ i : SlotId, i ∉ (s.win w).queue → (s.slot i).isSome = true →
    t.slot i = s.slot i ∧ t.reservation i = s.reservation i) ∧
  t.eng = s.eng ∧ t.ev.windowMask = s.ev.windowMask ∧ t.ev.deviceMask = s.ev.deviceMask ∧
  t.acc.waitLimit = s.acc.waitLimit

/-! ### What a rule's step leaves, as a state -/

/-- The number in `n` bytes from an offset, most significant byte first (section 11.1). -/
def fieldAt (bs : List Byte) (offset n : Nat) : Nat :=
  ((bs.drop offset).take n).foldl (fun acc b => acc * 256 + b.toNat) 0

/-- The tag order table after the answers of these transfers have left: for each STRICT_WRITE and READ the count of its tag
falls by one, and at 0 the destination is NONE (R29). -/
def tagsAfter (s : State) (ts : List Transfer) : Vector TagEntry 16 :=
  Vector.ofFn fun g =>
    let e := s.tagEntry g
    let n := (ts.filter fun t => t.kind != .postedWrite && t.tag == g).length
    if n = 0 then e else if e.count ≤ n then ⟨.none, 0⟩ else ⟨e.dest, e.count - n⟩

/-- The part after a head has ended done or short with its last packet's success, before the next packet is offered (steps
1 to 3 and 5 to 7 of R52, R50, R54 to R57): what is answered, what BYTES and SHORT_READS grow by, and the events of the
short end are given. A flush mark completes a running FLUSH (R62), and a CLOSING window whose queue is then empty is
DEFINED with CLOSED raised (R19). -/
def headEnded (s : State) (w : WinId) (i : SlotId) (t : Transfer) (answers : List Answer) (bytes short : Nat)
    (kinds : WindowKinds) : State :=
  let x := s.win w
  let rest := x.queue.tail
  let closes := x.state == .closing && rest.isEmpty
  let flushed := t.flushMark && s.runsLong .flush
  let v := { s with
    windows := s.windows.set w { x with
      state := if closes then .defined else x.state
      queue := rest
      exchange := none
      seqBit := !x.seqBit
      counters := ((x.counters.grow .shortReads short).grow .transfers 1).grow .bytes bytes
      pending := x.pending ||| kinds ||| (if closes then WindowKind.closed.bit else 0) }
    slots := Vector.ofFn fun j =>
      if j = i then none
      else if rest.head? = some j then (s.slot j).map fun next => { next with state := .head }
      else s.slot j
    staging := Vector.ofFn fun j => if j = i then [] else s.reservation j
    acc := { s.acc with tags := tagsAfter s [t] }
    out := { s.out with answers := s.out.answers ++ answers }
    cmd := if flushed then { s.cmd with long := { s.cmd.long with state := .done, detail := .none } } else s.cmd
    ev := { s.ev with
      devicePending := if flushed then s.ev.devicePending ||| DeviceKind.commandDone.bit else s.ev.devicePending } }
  if kinds = 0 ∧ closes = false ∧ flushed = false then v else v.setAttn

/-- The part after several windows have halted together, each with its cause and no strike (R115, R147, R149): their
records, their slots and reservations, the ERROR answers of their queues in window order (log 11), and the OPEN or FLUSH
that runs for one of them FAILED (R13, R63). -/
def haltedTogether (s : State) (cause : WinId → Option FaultCause) : State :=
  let failing := allWindows.filter fun w => (cause w).isSome
  let ts := failing.flatMap fun w => s.transfersOf (s.win w).queue
  let freed := failing.flatMap fun w => (s.win w).queue
  let ended := (failing.find? fun w => s.runsFor w).bind cause
  let t := { s with
    windows := Vector.ofFn fun w =>
      match cause w with
      | some c => haltedRecord s w c none none
      | none => s.win w
    slots := Vector.ofFn fun i => if freed.contains i then none else s.slot i
    staging := Vector.ofFn fun i => if freed.contains i then [] else s.reservation i
    acc := { s.acc with tags := tagsAfter s ts }
    out := { s.out with answers := s.out.answers ++ errorAnswers ts }
    cmd := match ended with
      | some c => { s.cmd with long := { s.cmd.long with state := .failed, detail := .cause c } }
      | none => s.cmd
    ev := { s.ev with
      devicePending :=
        if ended.isSome then s.ev.devicePending ||| DeviceKind.commandDone.bit else s.ev.devicePending } }
  if failing.isEmpty then t else t.setAttn

/-- The part with the link DETACHED: no values of a module, no timers of the link or the arbiter, no marker (R123, R140,
R141, R147, R149). -/
def detached (s : State) : State :=
  { s with
    link := { s.link with state := .detached, capacity := 0, packetLimit := 0, timeoutRun := 0, probeTimer := none,
                          recoveryTimer := none }
    arb := { s.arb with cycleTimer := none, keepAliveTimer := none, marker := none } }

/-- The windows that lose the link, each with cause LINK_LOST: SYNCING, OPEN, HELD, FENCED and CLOSING (R147, R149). -/
def linkLostCause (s : State) (w : WinId) : Option FaultCause :=
  if [.syncing, .opened, .held, .fenced, .closing].contains (s.win w).state then some .linkLost else none

/-- An attempt, where a halt has changed a window (R25). -/
def attemptAfterHalts (s : State) (cause : WinId → Option FaultCause) : State :=
  let t := haltedTogether s cause
  if allWindows.any fun w => (cause w).isSome then t.attempt else t

/-- The part after recovery has been given up (R147). -/
def recoveryGivenUp (s : State) : State := attemptAfterHalts ((detached s).raiseDevice .linkDown) (linkLostCause s)

/-- The part after the loss of an ACTIVE link, before the arbiter's choice (R144). -/
def linkLost (s : State) : State :=
  State.setAttn { s with
    windows := Vector.ofFn fun w => { s.win w with
      exchange := (s.win w).exchange.map fun x => { x with
        state := match x.state with
          | .backoff e => .backoff e
          | .ready | .sending | .awaiting _ _ _ => .ready } }
    link := { s.link with state := .recovering, timeoutRun := 0, probeTimer := some 0, recoveryTimer := some 0 }
    arb := { s.arb with cycleTimer := none, keepAliveTimer := none, marker := some .hello }
    ev := { s.ev with counters := s.ev.counters.grow .recoveries 1
                      devicePending := s.ev.devicePending ||| DeviceKind.recovering.bit } }

/-- Every transfer that is the head of a PERIODIC window carries the head-at-cycle-start mark (step 2 of R129). -/
def headsMarked (s : State) : State :=
  { s with slots := Vector.ofFn fun i =>
      if allWindows.any fun w => (s.win w).isPeriodic && (s.win w).queue.head? == some i then
        (s.slot i).map fun t => { t with cycleMark := true }
      else s.slot i }

/-- The part after a cycle start, before the arbiter's choice (R125, R129). -/
def cycleStarted (s : State) : State :=
  let late := fun w => (s.win w).isPeriodic && (s.headOf w).any fun h => h.2.cycleMark
  let count := s.arb.cycleCount + 1
  let t := headsMarked { s with
    windows := Vector.ofFn fun w =>
      let x := s.win w
      { x with
        remaining := match x.defn.bind (·.cls.budget) with
          | some b => some b
          | none => x.remaining
        counters := if late w then x.counters.grow .late 1 else x.counters
        pending := if late w then x.pending ||| WindowKind.late.bit else x.pending }
    arb := { s.arb with
      cycleCount := count, marker := some (.cycle count), cycleTimer := some ⟨0, s.arb.cycleLength⟩ } }
  if allWindows.any late then t.setAttn else t

/-- A pending marker as a FREE transmitter takes it at once, and as it waits for one that is SENDING (R121, R122). -/
def markerSent (s : State) (m : Marker) : State :=
  match s.arb.transmitter with
  | none => { s with arb := { s.arb with marker := none, transmitter := some m.packet } }
  | some _ => { s with arb := { s.arb with marker := some m } }

/-- What an ERROR answer counts and raises, by its kind (section 2.8). -/
def errorCounted (s : State) : ErrorKind → State
  | .malformed => (s.countDevice .malformed 1).raiseDevice .malformed
  | .straddle => (s.countDevice .straddles 1).raiseDevice .straddle
  | .refused | .expired => s

/-- What an attempt leaves of a request that carries the expired mark (R30, R34, R40): answered ERROR once its tag has
destination NONE, and waiting for its tag until then. -/
def expiredAttempt (s : State) (p : Presented) (k : ErrorKind) : State :=
  if (s.tagEntry p.req.tag).dest = .none then
    let u := errorCounted s k
    State.answer { u with acc := { u.acc with presented := none } } ⟨p.req.tag, false, []⟩
  else { s with acc := { s.acc with presented := some { p with reason := .tag, expired := some k } } }

/-- The kind of ERROR answer that an expired request is bound for, by the windows as they stand at the expiry (R34,
section 2.8; log 12). -/
def expiredKind (s : State) (r : BusRequest) : ErrorKind :=
  match s.classify r with
  | .malformed => .malformed
  | .straddle => .straddle
  | .far w => if (s.win w).state.takes then .expired else .refused
  | .localMem => .expired

end Sys2Proof.Safety
end

