-- ==== Sys2Proof/Certificates/Slice0/Obligations.lean ====
section
/-! DEFINITION. The statements for the provers. OBLIGATIONS.json lists them. -/

section

open Sys2Proof Sys2Proof.Machine Sys2Proof.Safety

/-! ### The step -/

/-- A step takes the command at the front of the queue and runs it with the queue's rest. -/
def Obligations.StepTakesTheFrontCommand : Prop :=
  ∀ (s : State) (c : Instr) (rest : List Instr),
    step { s with pending := c :: rest } = exec c { s with pending := rest }

/-- With no command waiting one microsecond passes (the model's choice, log 1). Every running timer grows by one, up to
its limit: the wait timer, which has none (R24), a response timer (R88), a NAK interval and with it the NAK-limit clock
(R97, R110), the cycle, keep-alive, probe and recovery timers (R124, R130, R137, R148). Everything else is as before: of
a window all but a running timer of its exchange, so an exchange that is READY or SENDING stays, and no exchange comes
or goes. -/
def Obligations.EmptyQueueLetsAMicrosecondPass : Prop :=
  ∀ s : State, s.pending = [] →
    let tick := fun (limit e : Nat) => if e < limit then e + 1 else e
    ∃ t, step s = .next t ∧
      (∀ w : WinId, t.win w = { s.win w with
        exchange := match (s.win w).exchange, (s.win w).defn with
          | some x, some d => some (match x.state with
            | .awaiting e l st => { x with state := .awaiting (tick l e) l st }
            | .backoff e => { x with
                state := .backoff (tick d.nakInterval e)
                nakUsed := if s.link.state = .active ∧ (s.win w).state ≠ .held
                           then min 65535 (x.nakUsed + (tick d.nakInterval e - e)) else x.nakUsed }
            | .ready | .sending => x)
          | x, _ => x }) ∧
      t.slots = s.slots ∧ t.staging = s.staging ∧ t.eng = s.eng ∧ t.cmd = s.cmd ∧ t.ev = s.ev ∧ t.out = s.out ∧
      t.freeUses = s.freeUses ∧ t.pending = s.pending ∧
      t.acc = { s.acc with presented := s.acc.presented.map fun p => { p with waited := p.waited + 1 } } ∧
      t.arb = { s.arb with
        cycleTimer := s.arb.cycleTimer.map fun c => { c with elapsed := tick c.length c.elapsed }
        keepAliveTimer := s.arb.keepAliveTimer.map (tick (s.arb.keepAliveInterval * 1000)) } ∧
      t.link = { s.link with
        probeTimer := s.link.probeTimer.map (tick 1000)
        recoveryTimer := s.link.recoveryTimer.map (tick (s.link.recoveryLimit * 1000)) }

/-- Every command answers a next state from every state, and none touches the commands that wait behind it. That no
command stops is the model's reading of the rules (log 29, DEDUCED; in states for which the manual gives a row nothing to
do, log 2, 5, 23 and 30), and the queue is the model's own (log 21). -/
def Obligations.EveryCommandKeepsTheQueue : Prop :=
  ∀ (s : State) (c : Instr), ∃ t, exec c s = .next t ∧ t.pending = s.pending

/-! ### Reset -/

/-- The state after a reset, as each chapter states it (R1, R42, R66, R80, R88, R134, R150, R155, R157, R160, R173). A
pin reset puts every block in it, and so does RESET-BLOCK with target ALL, but for the signal condition, an ended
command's record and its own DONE (R163). What has left the part, the count of free values and the waiting commands are
the model's own fields and stay (log 9, log 17, log 21); the record fields that the manual gives no value are the model's
choice (log 10, log 20). -/
def Obligations.ResetsLeaveTheResetState : Prop :=
  (∀ w : WinId, State.reset.win w =
    ⟨.unused, none, 0, [], false, none, 0, ⟨0, 0, 0, 0, 0, 0, 0, 0, 0⟩, none, none⟩) ∧
  (∀ i : SlotId, State.reset.slot i = none) ∧ State.reset.unassignedPages = 128 ∧
  (∀ t : Tag, State.reset.tagEntry t = ⟨.none, 0⟩) ∧ State.reset.acc.presented = none ∧
  State.reset.acc.downstream = 0 ∧ State.reset.acc.waitLimit = 100 ∧ State.reset.eng.responseLimit = 20 ∧
  State.reset.arb = ⟨.cycled, 250, 2, 0, none, none, none, 11, 11, none⟩ ∧
  State.reset.link = ⟨.detached, 0, 0, false, 0, none, none, 50⟩ ∧
  State.reset.cmd.receiver = .idle ∧ State.reset.cmd.result = ⟨0, 0, .none, .absent, []⟩ ∧
  State.reset.cmd.long.state = .none ∧ State.reset.ev = ⟨0, 0, 0, ⟨0, 0, 0, 0, 0, 0, 0⟩, false⟩ ∧
  (∀ s : State, exec .pinReset s =
    .next { State.reset with out := s.out, freeUses := s.freeUses, pending := s.pending }) ∧
  (∀ (s : State) (q : Byte), exec (.resetBlockAll q 3) s =
    .next { State.reset with
      cmd := { receiver := .idle, result := ⟨q, 0x51, .done, .absent, []⟩
               long := if s.cmd.long.state = .running
                       then { s.cmd.long with state := .aborted, detail := .resetAll }
                       else State.reset.cmd.long }
      link := { State.reset.link with signalPresent := s.link.signalPresent }
      out := s.out, freeUses := s.freeUses, pending := s.pending })

/-! ### The management port -/

/-- While a long command is RUNNING every frame but GET-STATUS, ABORT and RESET-BLOCK is answered BUSY and has no
effect; those three are never answered BUSY (R159). -/
def Obligations.BusyAnswersEveryOtherFrame : Prop :=
  ∀ (s : State) (c : Instr) (code : Byte), c.frameCode = some code → s.cmd.long.state = .running →
    (code ∉ [0x01, 0x50, 0x51] → exec c s = .next (answered s ⟨c.frameSeq, code, .busy, .absent, []⟩)) ∧
    (code ∈ [0x01, 0x50, 0x51] → ∃ t, exec c s = .next t ∧ t.cmd.result.outcome ≠ .busy)

/-- The frame of every well-formed management command is judged to be that command, with every parameter. That a
RESET-BLOCK with a target that names nothing is the WINDOWS row's is the model's choice (log 8). -/
def Obligations.FrameRoundTrip : Prop :=
  ∀ (c : Instr) (bytes : List Byte), c.wellFormed = true → encodeFrame c = some bytes → rowOfTransaction bytes = c

/-- The judging of a frame by R156, in its order, and the effect of its two failing outcomes. Chip select takes the
receiver from IDLE to OPENING. A result transaction clocks out the record, its check code last, then the idle pattern, and
changes nothing else. And the code values of the record's outcome and reason bytes: outcomes, refusal reasons, frame-error
details, and 0 for an absent reason (R155, R157, R175, section 11.3). -/
def Obligations.TransactionsOfTheManagementPort : Prop :=
  (∀ (code seq check : Byte) (ps extra : List Byte), code ≠ resultOpeningCode → ps.length < 256 →
    let head := code :: seq :: BitVec.ofNat 8 ps.length :: ps
    (∀ k, k ≤ head.length → rowOfTransaction (head.take k) = .frameDiscarded) ∧
    (check ≠ crc8 head → rowOfTransaction (head ++ [check] ++ extra) = .frameError seq code .check) ∧
    (check = crc8 head → extra ≠ [] → rowOfTransaction (head ++ [check] ++ extra) = .frameError seq code .length) ∧
    (check = crc8 head → commandCodes.contains code = false →
      rowOfTransaction (head ++ [check]) = .frameError seq code .code) ∧
    (check = crc8 head → ∀ m, paramLength code = some m → m ≠ ps.length →
      rowOfTransaction (head ++ [check]) = .frameError seq code .length)) ∧
  (∀ (s : State) (seq code : Byte) (d : FrameDetail),
    exec (.frameError seq code d) s = .next (answered s ⟨seq, code, .frameError, .detail d, []⟩)) ∧
  (∀ s : State, exec .frameDiscarded s = .next { s with cmd := { s.cmd with receiver := .idle } }) ∧
  (∀ s : State, s.cmd.receiver = .idle →
    exec .chipSelectFalls s = .next { s with cmd := { s.cmd with receiver := .opening } }) ∧
  (∀ (s : State) (n : Nat),
    let r := s.cmd.result
    let body := [r.seq, r.code, r.outcome.code, r.reason.code, BitVec.ofNat 8 (r.payload.length / 256),
      BitVec.ofNat 8 r.payload.length] ++ r.payload
    exec (.resultTransaction n) s = .next
      { s with cmd := { s.cmd with receiver := .idle }
               out := { s.out with
                 clocked := s.out.clocked ++ (body ++ [crc8 body] ++ List.replicate n 0xFF).take n } }) ∧
  [FrameOutcome.none, .done, .refused, .busy, .pending, .frameError].map (·.code.toNat) = [0, 1, 2, 3, 4, 5] ∧
  [Reason.badParam, .windowState, .overlap, .linkDown, .noPages, .farRange, .packetSize, .overCapacity,
    .windowsClaiming, .linkState, .periodicOpen, .nothingRunning].map (·.code.toNat) =
      [1, 2, 3, 4, 5, 6, 7, 8, 9, 10, 11, 12] ∧
  (∀ r : Reason, (ResultReason.refusal r).code = r.code) ∧
  [ResultReason.absent, .detail .check, .detail .length, .detail .code].map (·.code.toNat) = [0, 0x20, 0x21, 0x22]

/-- The reading commands replace the result record with a DONE and their payload, of the length its table gives, and
change nothing else; GET-STATUS also while a long command runs. With no exchange READ-WINDOW uses a free value (log 9). -/
def Obligations.ReportsChangeNothing : Prop :=
  (∀ (s : State) (q : Byte),
    exec (.getStatus q) s = .next (answered s ⟨q, 0x01, .done, .absent, s.statusPayload⟩) ∧
      s.statusPayload.length = 141 ∧
      (∀ w : WinId, s.statusPayload[5 + 4 * w.val]? = some (s.win w).state.code) ∧
      s.statusPayload[140]? = some (if s.ev.attn then 1 else 0)) ∧
  (∀ (s : State) (q : Byte), Ready s →
    exec (.readEvents q) s = .next (answered s ⟨q, 0x41, .done, .absent, s.eventsPayload⟩) ∧
      s.eventsPayload.length = 17 ∧
    exec (.readCounters q 0xFF) s = .next (answered s ⟨q, 0x20, .done, .absent, s.ev.counters.payload⟩) ∧
      s.ev.counters.payload.length = 28) ∧
  (∀ (s : State) (q : Byte) (w : WinId), Ready s →
    exec (.readCounters q (numberOf w)) s =
        .next (answered s ⟨q, 0x20, .done, .absent, (s.win w).counters.payload⟩) ∧
      (s.win w).counters.payload.length = 36 ∧
    exec (.readFault q (numberOf w)) s =
        .next (answered s ⟨q, 0x1B, .done, .absent,
          faultPayload (if (s.win w).state = .halted then (s.win w).fault else none)⟩) ∧
      (faultPayload (s.win w).fault).length = 17 ∧
    exec (.readWindow q (numberOf w)) s =
        .next (answered
          { s with freeUses := if (s.win w).exchange = none then s.freeUses + 1 else s.freeUses }
          ⟨q, 0x1A, .done, .absent, s.windowPayload w⟩) ∧
      (s.windowPayload w).length = 37 ∧ (s.windowPayload w)[1]? = some (s.win w).state.code)

/-- The layouts of the payloads and the codes in them (section 11.3), field by field: GET-STATUS, READ-WINDOW,
READ-FAULT, READ-EVENTS and READ-COUNTERS. A field of n bytes carries its value modulo 256 to the n, most significant
byte first. Under long-command state NONE the code is 0 and the window absent by the model's choice (log 10); the bytes
of the exchange's state and strike count without an exchange are free values (log 9) and are not stated; the window of
an expired request is classified afresh (log 14). -/
def Obligations.PayloadLayouts : Prop :=
  ∀ (s : State) (w : WinId) (g : Tag),
    let x := s.win w
    let p := s.statusPayload
    let l := s.cmd.long
    let windowOr := fun (v : Option WinId) (absent : Nat) => (v.map (·.val)).getD absent
    let q := s.windowPayload w
    ([WindowState.unused, .defined, .syncing, .opened, .held, .fenced, .closing, .halted].map (·.code.toNat) =
        [0, 1, 2, 3, 4, 5, 6, 7] ∧
      [FaultCause.refused, .strikes, .nakLimit, .oversize, .syncFailed, .moduleReset, .farRange, .linkLost,
        .aborted].map (·.code.toNat) = [1, 2, 3, 4, 5, 6, 7, 8, 9] ∧
      (∀ c : FaultCause, (LongDetail.cause c).code = c.code) ∧
      [LongDetail.none, .noReply, .abort, .resetWindows, .resetLink, .resetAll].map (·.code.toNat) =
        [0, 0x10, 0x11, 0x12, 0x13, 0x14] ∧
      [LongState.none, .running, .done, .failed, .aborted].map (·.code.toNat) = [0, 1, 2, 3, 4] ∧
      [WaitReason.none, .tag, .slot, .staging, .downstream].map (·.code.toNat) = [0, 1, 2, 3, 4] ∧
      [LinkState.detached, .probing, .active, .recovering].map (·.code.toNat) = [0, 1, 2, 3] ∧
      [LinkMode.cycled, .free].map (·.code.toNat) = [0, 1] ∧
      [none, some StrikeKind.timeout, some .check, some .sequence].map (fun k => (strikeByte k).toNat) = [0, 1, 2, 3] ∧
      [TransferKind.postedWrite, .strictWrite, .read].map (·.code.toNat) = [1, 2, 3]) ∧
    -- GET-STATUS
    (fieldAt p 0 1 = (match l.code with
        | some .openWindow => 0x13
        | some .attach => 0x30
        | some .flush => 0x19
        | none => 0) ∧
      fieldAt p 1 1 = l.seq.toNat ∧ fieldAt p 2 1 = windowOr l.window 0xFF ∧
      fieldAt p 3 1 = l.state.code.toNat ∧ fieldAt p 4 1 = l.detail.code.toNat ∧
      fieldAt p (5 + 4 * w.val) 1 = x.state.code.toNat ∧ fieldAt p (6 + 4 * w.val) 1 = x.pages % 256 ∧
      fieldAt p (7 + 4 * w.val) 2 = s.reserved w % 65536 ∧
      fieldAt p 53 1 = s.unassignedPages ∧ fieldAt p 54 1 = s.freeSlots ∧
      (s.acc.presented = none → (p.drop 55).take 6 = List.replicate 6 0) ∧
      (∀ r, s.acc.presented = some r →
        fieldAt p 55 1 = (if r.expired = none then 1 else 3) ∧ fieldAt p 56 1 = r.req.tag.val ∧
        fieldAt p 57 1 = r.reason.code.toNat ∧ fieldAt p 59 2 = min 65535 r.waited ∧
        fieldAt p 58 1 = (match s.classify r.req with
          | .far v => v.val
          | .malformed | .straddle | .localMem => 0xFF)) ∧
      fieldAt p 61 1 = s.acc.downstream % 256 ∧ fieldAt p 62 2 = s.acc.waitLimit % 65536 ∧
      fieldAt p (64 + 2 * g.val) 1 = (match (s.tagEntry g).dest with
        | .window v => v.val
        | .localMem => 0x0C
        | .none => 0xFF) ∧
      fieldAt p (65 + 2 * g.val) 1 = (s.tagEntry g).count % 256 ∧
      fieldAt p 96 1 = s.arb.mode.code.toNat ∧ fieldAt p 97 2 = s.arb.cycleLength % 65536 ∧
      fieldAt p 99 1 = s.arb.keepAliveInterval % 256 ∧ fieldAt p 100 2 = s.arb.cycleCount.toNat ∧
      fieldAt p (102 + 2 * w.val) 2 = x.remaining.getD 0xFFFF % 65536 ∧
      fieldAt p 126 1 = s.link.state.code.toNat ∧ fieldAt p 127 1 = (if s.link.signalPresent then 0 else 1) ∧
      fieldAt p 128 4 = s.link.capacity % 2 ^ 32 ∧ fieldAt p 132 2 = s.link.packetLimit % 65536 ∧
      fieldAt p 134 1 = s.link.timeoutRun % 256 ∧ fieldAt p 135 2 = s.link.recoveryLimit % 65536 ∧
      fieldAt p 137 2 = (if s.link.state = .probing ∨ s.link.state = .recovering
                         then s.link.recoveryTimer.getD 0 / 1000 % 65536 else 0xFFFF) ∧
      fieldAt p 139 1 = s.eng.responseLimit % 256 ∧ fieldAt p 140 1 = (if s.ev.attn then 1 else 0)) ∧
    -- READ-WINDOW
    (fieldAt q 0 1 = w.val ∧ fieldAt q 1 1 = x.state.code.toNat ∧
      (x.defn = none → (q.drop 2).take 25 = List.replicate 25 0) ∧
      (∀ d, x.defn = some d →
        fieldAt q 2 5 = d.base.toNat ∧ fieldAt q 7 4 = d.size % 2 ^ 32 ∧ fieldAt q 11 4 = d.farBase.toNat ∧
        fieldAt q 15 1 = (match d.cls with
          | .strict => 0
          | .posted => 1
          | .periodic _ => 2) ∧
        fieldAt q 16 2 = d.packetSize % 65536 ∧
        fieldAt q 18 2 = (match d.shortPolicy with
          | .fill b => b.toNat
          | .error => 256) ∧
        fieldAt q 20 2 = d.nakInterval % 65536 ∧ fieldAt q 22 2 = d.nakLimit % 65536 ∧
        fieldAt q 24 1 = d.strikeLimit % 256 ∧
        fieldAt q 25 2 = (match d.cls with
          | .periodic b => b % 65536
          | .strict | .posted => 0)) ∧
      fieldAt q 27 1 = x.pages % 256 ∧ fieldAt q 28 2 = s.reserved w % 65536 ∧
      fieldAt q 30 1 = x.queue.length % 256 ∧ fieldAt q 31 1 = (x.queue.head?.map (·.val)).getD 0xFF ∧
      fieldAt q 32 1 = (if x.seqBit then 1 else 0) ∧
      (x.exchange = none → fieldAt q 33 1 = 0) ∧
      (∀ e, x.exchange = some e →
        fieldAt q 33 1 = (match e.body with
          | .write .. => 1
          | .read .. => 2
          | .sync => 3) ∧
        fieldAt q 34 1 = (match e.state with
          | .ready => 0
          | .sending => 1
          | .awaiting .. => 2
          | .backoff _ => 3) ∧
        fieldAt q 35 1 = e.strikes % 256) ∧
      fieldAt q 36 1 = (if x.fault = none then 0 else 1)) ∧
    -- READ-FAULT
    (faultPayload none = [0, 0, 0, 0, 0xFF, 0, 0, 0, 0, 0, 0, 0, 0, 0, 0, 0, 0] ∧
      ∀ r : FaultRecord, let u := faultPayload (some r)
        fieldAt u 0 1 = 1 ∧ fieldAt u 1 1 = r.cause.code.toNat ∧ fieldAt u 2 1 = (strikeByte r.strike).toNat ∧
        fieldAt u 16 1 = r.discarded % 256 ∧
        (r.transfer = none → (u.drop 3).take 13 = [0, 0xFF, 0, 0, 0, 0, 0, 0, 0, 0, 0, 0, 0]) ∧
        (∀ t, r.transfer = some t →
          fieldAt u 3 1 = t.kind.code.toNat ∧ fieldAt u 4 1 = t.tag.val ∧ fieldAt u 5 5 = t.upAddr.toNat ∧
          fieldAt u 10 4 = t.farAddr.toNat ∧ fieldAt u 14 2 = t.bytesDone % 65536)) ∧
    -- READ-EVENTS and READ-COUNTERS
    (fieldAt s.eventsPayload w.val 1 = x.pending.toNat ∧ fieldAt s.eventsPayload 12 2 = s.ev.devicePending.toNat ∧
      fieldAt s.eventsPayload 14 1 = s.ev.windowMask.toNat ∧ fieldAt s.eventsPayload 15 2 = s.ev.deviceMask.toNat ∧
      (let c := x.counters
       [0, 4, 8, 12, 16, 20, 24, 28, 32].map (fun k => fieldAt c.payload k 4) =
         [c.transfers, c.bytes, c.naks, c.strikes, c.shortReads, c.lostWrites, c.discarded, c.late,
          c.waitExpired].map (·.toNat)) ∧
      (let c := s.ev.counters
       [0, 4, 8, 12, 16, 20, 24].map (fun k => fieldAt c.payload k 4) =
         [c.localPassed, c.straddles, c.malformed, c.stray, c.linkTimeouts, c.recoveries,
          c.localWaitExpired].map (·.toNat)))

/-- The packets of the far link, byte by byte (section 11.4): what the EB12 sends, its check code high byte first, and
what it makes of a received packet: a bad-check packet when the check code is wrong or the length does not match the
type, a packet of an unknown type judged by its check code alone, and otherwise the row of its type with its fields, the
bits that R176 ignores left out (R81, R82, R176). -/
def Obligations.LinkPacketFormats : Prop :=
  (∀ p : Packet,
    let n := p.body.length
    p.bytes.take n = p.body ∧ p.bytes.length = n + 2 ∧ fieldAt p.bytes n 2 = (crc16 p.body).toNat ∧
    (match p with
      | .hello => p.body = [0x01]
      | .cycle c => n = 3 ∧ fieldAt p.body 0 1 = 0x02 ∧ fieldAt p.body 1 2 = c.toNat
      | .idle => p.body = [0x03]
      | .write w bit far data =>
        n = 8 + data.length ∧ fieldAt p.body 0 1 = 0x10 ∧ fieldAt p.body 1 1 = w.val + (if bit then 128 else 0) ∧
        fieldAt p.body 2 4 = far.toNat ∧ fieldAt p.body 6 2 = data.length % 65536 ∧ p.body.drop 8 = data
      | .read w bit far len =>
        n = 8 ∧ fieldAt p.body 0 1 = 0x11 ∧ fieldAt p.body 1 1 = w.val + (if bit then 128 else 0) ∧
        fieldAt p.body 2 4 = far.toNat ∧ fieldAt p.body 6 2 = len % 65536
      | .sync w => n = 2 ∧ fieldAt p.body 0 1 = 0x12 ∧ fieldAt p.body 1 1 = w.val)) ∧
  (∀ (t : Byte) (rest : List Byte) (c : BitVec 16),
    let body := t :: rest
    let required : Option Nat :=
      if t = 0x01 ∨ t = 0x03 then some 0
      else if t = 0x02 then some 2
      else if t = 0x10 then some (7 + fieldAt rest 5 2)
      else if t = 0x11 ∨ t = 0x81 then some 7
      else if t ∈ [0x12, 0x90, 0x91, 0x92] then some 1
      else if t = 0x93 then some (3 + fieldAt rest 1 2)
      else none
    let received := body ++ [BitVec.ofNat 8 (c.toNat / 256), BitVec.ofNat 8 c.toNat]
    let window : BitVec 4 := BitVec.ofNat 4 (fieldAt rest 0 1)
    let bit := fun k => (fieldAt rest 0 1).testBit k
    (c ≠ crc16 body → rowOfPacket received = .badCheckPacket) ∧
    (c = crc16 body →
      (∀ n, required = some n → rest.length ≠ n → rowOfPacket received = .badCheckPacket) ∧
      (required = none ∨ required = some rest.length → rowOfPacket received =
        if t = 0x81 then .helloReplyReceived (BitVec.ofNat 32 (fieldAt rest 0 4)) (BitVec.ofNat 16 (fieldAt rest 4 2))
          ((fieldAt rest 6 1).testBit 0)
        else if t = 0x90 then .ackReceived window (bit 7) (bit 6)
        else if t = 0x91 then .nakReceived window (bit 7)
        else if t = 0x92 then .refuseReceived window (bit 7)
        else if t = 0x93 then .dataReceived window (bit 7) (rest.drop 3)
        else .otherInboundPacket t)))

/-! ### Window commands -/

/-- DEFINE is refused BAD_PARAM, and nothing but the command unit changed, exactly when R4 says so; under short policy
ERROR no fill byte is recorded. -/
def Obligations.DefineBadParam : Prop :=
  (∀ (s : State) (q b : Byte) (p : DefineParams), Ready s →
    (exec (.define q b p) s = .next (answered s ⟨q, 0x10, .refused, .refusal .badParam, []⟩) ↔
      (11 < b.toNat ∨
        p.base.toNat % 1024 ≠ 0 ∨ 2 ^ 40 < p.base.toNat + p.size.toNat ∨
        p.size.toNat = 0 ∨ p.size.toNat % 1024 ≠ 0 ∨ 2 ^ 30 < p.size.toNat ∨
        p.farBase.toNat % 1024 ≠ 0 ∨ 2 ^ 32 < p.farBase.toNat + p.size.toNat ∨
        2 < p.cls.toNat ∨ p.packetSize.toNat ∉ [32, 64, 128, 256] ∨ 1 < p.shortPolicy.toNat ∨
        p.nakInterval.toNat = 0 ∨ 1023 < p.nakInterval.toNat ∨
        p.strikeLimit.toNat = 0 ∨ 7 < p.strikeLimit.toNat ∨
        (p.cls.toNat < 2 ∧ p.budget.toNat ≠ 0) ∨
        (p.cls.toNat = 2 ∧
          (p.budget.toNat < 32 ∨ 4096 < p.budget.toNat ∨ p.budget.toNat < p.packetSize.toNat))))) ∧
  (∀ (p : DefineParams) (d : Definition), definitionFrom p = some d → p.shortPolicy = 1 → d.shortPolicy = .error)

/-- A DEFINE that passes R4: refused WINDOW_STATE in a claiming state, then OVERLAP when its range shares an address with
that of another window that is not UNUSED, and otherwise it replaces the definition whole and sets the remaining budget
(R5, R6, R126). That the change out of UNUSED makes an attempt is the model's choice (log 30): R6 gives a definition no
effect on requests. -/
def Obligations.DefineOutcome : Prop :=
  ∀ (s : State) (q : Byte) (w : WinId) (p : DefineParams) (d : Definition), Ready s → definitionFrom p = some d →
    (d.base = p.base ∧ d.size = p.size.toNat ∧ d.farBase = p.farBase ∧ d.packetSize = p.packetSize.toNat ∧
      d.nakInterval = p.nakInterval.toNat ∧ d.nakLimit = p.nakLimit.toNat ∧ d.strikeLimit = p.strikeLimit.toNat ∧
      d.cls = (if p.cls = 0 then .strict else if p.cls = 1 then .posted else .periodic p.budget.toNat) ∧
      d.shortPolicy = (if p.shortPolicy = 0 then .fill p.fillByte else .error)) ∧
    ((s.win w).state.claims = true →
      exec (.define q (numberOf w) p) s =
        .next (answered s ⟨q, 0x10, .refused, .refusal .windowState, []⟩)) ∧
    ((s.win w).state.claims = false →
      ((∃ (v : WinId) (e : Definition) (a : Nat), v ≠ w ∧ (s.win v).state ≠ .unused ∧ (s.win v).defn = some e ∧
          d.covers a = true ∧ e.covers a = true) →
        exec (.define q (numberOf w) p) s = .next (answered s ⟨q, 0x10, .refused, .refusal .overlap, []⟩)) ∧
      ((∀ (v : WinId) (e : Definition) (a : Nat), v ≠ w → (s.win v).state ≠ .unused → (s.win v).defn = some e →
          d.covers a = true → e.covers a = false) →
        let base := answered
          (s.setWin w { s.win w with state := .defined, defn := some d, remaining := d.cls.budget })
          ⟨q, 0x10, .done, .absent, []⟩
        exec (.define q (numberOf w) p) s =
          .next (if (s.win w).state = .unused then base.attempt else base)))

/-- UNDEFINE is refused BAD_PARAM above W11 and WINDOW_STATE outside DEFINED; in DEFINED it removes the definition and
with it the reserved range, keeps the page count, sequence bit, pending causes and counters, and makes an attempt. -/
def Obligations.UndefineOutcome : Prop :=
  ∀ (s : State) (q b : Byte), Ready s →
    (11 < b.toNat → exec (.undefine q b) s = .next (answered s ⟨q, 0x11, .refused, .refusal .badParam, []⟩)) ∧
    (∀ w : WinId, b = numberOf w →
      ((s.win w).state ≠ .defined →
        exec (.undefine q b) s = .next (answered s ⟨q, 0x11, .refused, .refusal .windowState, []⟩)) ∧
      ((s.win w).state = .defined →
        exec (.undefine q b) s = .next (answered
          (s.setWin w { s.win w with state := .unused, defn := none, remaining := none })
          ⟨q, 0x11, .done, .absent, []⟩).attempt ∧
        ∀ t, exec (.undefine q b) s = .next t →
          (t.win w).state = .unused ∧ (t.win w).defn = none ∧ (t.win w).pages = (s.win w).pages ∧
            (t.win w).seqBit = (s.win w).seqBit ∧ (t.win w).pending = (s.win w).pending ∧
            (t.win w).counters = (s.win w).counters))

/-- LAYOUT's three checks in their order, and its effect: the twelve page counts written together, nothing else changed,
no attempt made (R69, R70). -/
def Obligations.LayoutOutcome : Prop :=
  ∀ (s : State) (q : Byte) (counts : Vector Byte 12), Ready s →
    ((∃ w : WinId, 32 < counts[w].toNat) →
      exec (.layout q counts) s = .next (answered s ⟨q, 0x12, .refused, .refusal .badParam, []⟩)) ∧
    ((∀ w : WinId, counts[w].toNat ≤ 32) →
      ((∃ w : WinId, (s.win w).state.claims = true) →
        exec (.layout q counts) s = .next (answered s ⟨q, 0x12, .refused, .refusal .windowsClaiming, []⟩)) ∧
      ((∀ w : WinId, (s.win w).state.claims = false) →
        (128 < (allWindows.map fun w => counts[w].toNat).sum →
          exec (.layout q counts) s = .next (answered s ⟨q, 0x12, .refused, .refusal .overCapacity, []⟩)) ∧
        ((allWindows.map fun w => counts[w].toNat).sum ≤ 128 →
          exec (.layout q counts) s = .next (answered
            { s with windows := Vector.ofFn fun w => { s.windows[w] with pages := counts[w].toNat } }
            ⟨q, 0x12, .done, .absent, []⟩))))

/-- OPEN that passes R10: the record discarded, the window SYNCING with a READY SYNC exchange, the long command RUNNING
and the frame PENDING; for a PERIODIC window in FREE mode the mode becomes CYCLED, a cycle starts and MODE_CHANGED is
raised (R11, R131); what that change of mode leaves is said by ModeChanges. The change of state makes an attempt, and the
new exchange a choice (R25, R121), in this order by the model's choice (log 3). -/
def Obligations.OpenTaken : Prop :=
  ∀ (s : State) (q : Byte) (w : WinId) (d : Definition), Ready s →
    (s.win w).state = .defined ∨ (s.win w).state = .halted → (s.win w).defn = some d → s.link.state = .active →
    1 ≤ (s.win w).pages → (d.farBase.toNat + d.size) / 1024 ≤ s.link.capacity → d.packetSize ≤ s.link.packetLimit →
    let opened := answered
      (s.setWin w { s.win w with state := .syncing, fault := none, exchange := some ⟨.sync, .ready, 0, none, 0⟩ })
      ⟨q, 0x13, .pending, .absent, []⟩
    let base := { opened with
      cmd := { opened.cmd with long := ⟨some .openWindow, q, some w, .running, .none⟩ } }
    exec (.openWindow q (numberOf w)) s =
      .next (if d.cls.isPeriodic = true ∧ s.arb.mode = .free then (base.toCycled.raiseDevice .modeChanged).settle
             else base.settle)

/-- HOLD, RELEASE, FENCE and UNFENCE in the states that take them: the window's state changes, an attempt follows, and
where a hold is lifted the head's next packet is offered and a choice made (R14 to R17, R25, R51), the attempt before the
choice by the model's choice (log 3). -/
def Obligations.HoldReleaseFenceUnfence : Prop :=
  ∀ (s : State) (q : Byte) (w : WinId), Ready s →
    ((s.win w).state = .opened →
      exec (.hold q (numberOf w)) s =
        .next (answered (withState s w .held) ⟨q, 0x14, .done, .absent, []⟩).attempt) ∧
    ((s.win w).state = .held →
      exec (.release q (numberOf w)) s =
        .next ((answered (withState s w .opened) ⟨q, 0x15, .done, .absent, []⟩).offer w).settle) ∧
    ((s.win w).state = .opened →
      exec (.fence q (numberOf w)) s =
        .next (answered (withState s w .fenced) ⟨q, 0x16, .done, .absent, []⟩).attempt) ∧
    ((s.win w).state = .held →
      exec (.fence q (numberOf w)) s =
        .next ((answered (withState s w .fenced) ⟨q, 0x16, .done, .absent, []⟩).offer w).settle) ∧
    ((s.win w).state = .fenced →
      exec (.unfence q (numberOf w)) s =
        .next (answered (withState s w .opened) ⟨q, 0x17, .done, .absent, []⟩).attempt)

/-- CLOSE: an OPEN, HELD or FENCED window goes to CLOSING with a queue, a hold lifted, and to DEFINED with CLOSED
without one; a HALTED window loses its fault record and goes to DEFINED with CLOSED (R18). FLUSH of an empty queue is
DONE at once; of any other it marks the newest transfer, and the long command runs (R60, R61). That the attempt of a
lifted hold stands before the choice is the model's choice (log 3). -/
def Obligations.CloseAndFlush : Prop :=
  (∀ (s : State) (q : Byte) (w : WinId), Ready s →
    let x := s.win w
    let closed := answered
      ((s.setWin w { x with state := .defined, fault := none, exchange := none }).raiseWindow w .closed)
      ⟨q, 0x18, .done, .absent, []⟩
    let closing := answered (withState s w .closing) ⟨q, 0x18, .done, .absent, []⟩
    (x.state = .halted → exec (.close q (numberOf w)) s = .next closed.attempt) ∧
    (x.state = .opened ∨ x.state = .held ∨ x.state = .fenced → x.queue = [] →
      exec (.close q (numberOf w)) s = .next closed.attempt) ∧
    (x.state = .opened ∨ x.state = .fenced → x.queue ≠ [] →
      exec (.close q (numberOf w)) s = .next closing.attempt) ∧
    (x.state = .held → x.queue ≠ [] → exec (.close q (numberOf w)) s = .next (closing.offer w).settle)) ∧
  (∀ (s : State) (q : Byte) (w : WinId), Ready s → (s.win w).state ∈ [.opened, .held, .fenced, .closing] →
    ((s.win w).queue = [] →
      exec (.flush q (numberOf w)) s = .next (answered s ⟨q, 0x19, .done, .absent, []⟩)) ∧
    (∀ (i : SlotId) (t : Transfer), (s.win w).queue.getLast? = some i → s.slot i = some t →
      let base := answered (s.setSlot i (some { t with flushMark := true })) ⟨q, 0x19, .pending, .absent, []⟩
      exec (.flush q (numberOf w)) s = .next { base with
        cmd := { base.cmd with long := ⟨some .flush, q, some w, .running, .none⟩ } }))

/-- The refusals of the window commands: BAD_PARAM above W11 (R174), WINDOW_STATE in the states each rule names (R10,
R14 to R18, R60), and the four further checks of OPEN in their order (R10). A refused frame changes nothing but the
command unit. -/
def Obligations.WindowCommandRefusals : Prop :=
  (∀ (s : State) (q b : Byte), Ready s → 11 < b.toNat →
    exec (.openWindow q b) s = .next (answered s ⟨q, 0x13, .refused, .refusal .badParam, []⟩) ∧
    exec (.hold q b) s = .next (answered s ⟨q, 0x14, .refused, .refusal .badParam, []⟩) ∧
    exec (.release q b) s = .next (answered s ⟨q, 0x15, .refused, .refusal .badParam, []⟩) ∧
    exec (.fence q b) s = .next (answered s ⟨q, 0x16, .refused, .refusal .badParam, []⟩) ∧
    exec (.unfence q b) s = .next (answered s ⟨q, 0x17, .refused, .refusal .badParam, []⟩) ∧
    exec (.close q b) s = .next (answered s ⟨q, 0x18, .refused, .refusal .badParam, []⟩) ∧
    exec (.flush q b) s = .next (answered s ⟨q, 0x19, .refused, .refusal .badParam, []⟩) ∧
    exec (.readWindow q b) s = .next (answered s ⟨q, 0x1A, .refused, .refusal .badParam, []⟩) ∧
    exec (.readFault q b) s = .next (answered s ⟨q, 0x1B, .refused, .refusal .badParam, []⟩)) ∧
  (∀ (s : State) (q : Byte) (w : WinId), Ready s →
    ((s.win w).state ∉ [.defined, .halted] → exec (.openWindow q (numberOf w)) s =
      .next (answered s ⟨q, 0x13, .refused, .refusal .windowState, []⟩)) ∧
    ((s.win w).state ∉ [.opened] → exec (.hold q (numberOf w)) s =
      .next (answered s ⟨q, 0x14, .refused, .refusal .windowState, []⟩)) ∧
    ((s.win w).state ∉ [.held] → exec (.release q (numberOf w)) s =
      .next (answered s ⟨q, 0x15, .refused, .refusal .windowState, []⟩)) ∧
    ((s.win w).state ∉ [.opened, .held] → exec (.fence q (numberOf w)) s =
      .next (answered s ⟨q, 0x16, .refused, .refusal .windowState, []⟩)) ∧
    ((s.win w).state ∉ [.fenced] → exec (.unfence q (numberOf w)) s =
      .next (answered s ⟨q, 0x17, .refused, .refusal .windowState, []⟩)) ∧
    ((s.win w).state ∉ [.opened, .held, .fenced, .halted] → exec (.close q (numberOf w)) s =
      .next (answered s ⟨q, 0x18, .refused, .refusal .windowState, []⟩)) ∧
    ((s.win w).state ∉ [.opened, .held, .fenced, .closing] → exec (.flush q (numberOf w)) s =
      .next (answered s ⟨q, 0x19, .refused, .refusal .windowState, []⟩))) ∧
  (∀ (s : State) (q : Byte) (w : WinId) (d : Definition), Ready s →
    (s.win w).state ∈ [.defined, .halted] → (s.win w).defn = some d →
    (s.link.state ≠ .active → exec (.openWindow q (numberOf w)) s =
      .next (answered s ⟨q, 0x13, .refused, .refusal .linkDown, []⟩)) ∧
    (s.link.state = .active →
      ((s.win w).pages = 0 → exec (.openWindow q (numberOf w)) s =
        .next (answered s ⟨q, 0x13, .refused, .refusal .noPages, []⟩)) ∧
      ((s.win w).pages ≠ 0 →
        (s.link.capacity < (d.farBase.toNat + d.size) / 1024 → exec (.openWindow q (numberOf w)) s =
          .next (answered s ⟨q, 0x13, .refused, .refusal .farRange, []⟩)) ∧
        ((d.farBase.toNat + d.size) / 1024 ≤ s.link.capacity → s.link.packetLimit < d.packetSize →
          exec (.openWindow q (numberOf w)) s =
            .next (answered s ⟨q, 0x13, .refused, .refusal .packetSize, []⟩)))))

/-! ### The event unit -/

/-- CLEAR-COUNTERS sets every counter of one window or of the device to 0, and SET-MASKS replaces both masks; ACK-EVENTS
removes the named kinds of one set; ATTN takes its level. Selectors, targets and sets out of range are refused
BAD_PARAM (R166, R169, R172, R174). -/
def Obligations.EventUnitCommands : Prop :=
  ∀ (s : State) (q b wm : Byte) (ks : BitVec 16), Ready s →
    (11 < b.toNat → b ≠ 0xFF →
      exec (.clearCounters q b) s = .next (answered s ⟨q, 0x21, .refused, .refusal .badParam, []⟩) ∧
      exec (.readCounters q b) s = .next (answered s ⟨q, 0x20, .refused, .refusal .badParam, []⟩) ∧
      exec (.ackEvents q b ks) s = .next (answered s ⟨q, 0x42, .refused, .refusal .badParam, []⟩)) ∧
    exec (.clearCounters q 0xFF) s =
      .next (answered { s with ev := { s.ev with counters := ⟨0, 0, 0, 0, 0, 0, 0⟩ } } ⟨q, 0x21, .done, .absent, []⟩) ∧
    (64 ≤ wm.toNat ∨ 512 ≤ ks.toNat →
      exec (.setMasks q wm ks) s = .next (answered s ⟨q, 0x40, .refused, .refusal .badParam, []⟩)) ∧
    (wm.toNat < 64 → ks.toNat < 512 →
      ∃ t, exec (.setMasks q wm ks) s = .next t ∧ t.ev.attn = t.attnLevel ∧
        t = answered { s with ev := { s.ev with windowMask := wm.setWidth 6, deviceMask := ks.setWidth 9, attn := t.ev.attn } } ⟨q, 0x40, .done, .absent, []⟩) ∧
    (512 ≤ ks.toNat →
      exec (.ackEvents q 0xFF ks) s = .next (answered s ⟨q, 0x42, .refused, .refusal .badParam, []⟩)) ∧
    (ks.toNat < 512 →
      ∃ t, exec (.ackEvents q 0xFF ks) s = .next t ∧ t.ev.attn = t.attnLevel ∧
        t = answered { s with ev := { s.ev with devicePending := s.ev.devicePending &&& ~~~(ks.setWidth 9), attn := t.ev.attn } } ⟨q, 0x42, .done, .absent, []⟩) ∧
    (∀ w : WinId, b = numberOf w →
      exec (.clearCounters q b) s =
        .next (answered (s.setWin w { s.win w with counters := ⟨0, 0, 0, 0, 0, 0, 0, 0, 0⟩ })
          ⟨q, 0x21, .done, .absent, []⟩) ∧
      (64 ≤ ks.toNat →
        exec (.ackEvents q b ks) s = .next (answered s ⟨q, 0x42, .refused, .refusal .badParam, []⟩)) ∧
      (ks.toNat < 64 →
        ∃ t, exec (.ackEvents q b ks) s = .next t ∧ t.ev.attn = t.attnLevel ∧
          t = answered { (s.setWin w { s.win w with pending := (s.win w).pending &&& ~~~(ks.setWidth 6) }) with
            ev := { s.ev with attn := t.ev.attn } } ⟨q, 0x42, .done, .absent, []⟩))

/-! ### The link commands -/

/-- ATTACH takes a DETACHED link to PROBING, with both timers started, a HELLO due and the long command RUNNING (R136,
R137). DETACH takes an ACTIVE or RECOVERING link to DETACHED when no window claims, with LINK_DOWN raised (R141). -/
def Obligations.AttachAndDetach : Prop :=
  ∀ (s : State) (q : Byte), Ready s →
    (s.link.state = .active ∨ s.link.state = .recovering →
      exec (.attach q) s = .next (answered s ⟨q, 0x30, .refused, .refusal .linkState, []⟩)) ∧
    (s.link.state = .detached →
      let base := answered
        { s with link := { s.link with state := .probing, probeTimer := some 0, recoveryTimer := some 0 } }
        ⟨q, 0x30, .pending, .absent, []⟩
      let taken := { base with cmd := { base.cmd with long := ⟨some .attach, q, none, .running, .none⟩ } }
      exec (.attach q) s = .next (
        match s.arb.transmitter with
        | none => { taken with arb := { s.arb with marker := none, transmitter := some .hello } }
        | some _ => { taken with arb := { s.arb with marker := some .hello } })) ∧
    (s.link.state = .detached ∨ s.link.state = .probing →
      exec (.detach q) s = .next (answered s ⟨q, 0x31, .refused, .refusal .linkState, []⟩)) ∧
    (s.link.state = .active ∨ s.link.state = .recovering →
      ((∃ w : WinId, (s.win w).state.claims = true) →
        exec (.detach q) s = .next (answered s ⟨q, 0x31, .refused, .refusal .windowsClaiming, []⟩)) ∧
      ((∀ w : WinId, (s.win w).state.claims = false) →
        exec (.detach q) s = .next (State.raiseDevice (answered
          { s with
            link := { s.link with state := .detached, capacity := 0, packetLimit := 0, timeoutRun := 0,
                                  probeTimer := none, recoveryTimer := none }
            arb := { s.arb with cycleTimer := none, keepAliveTimer := none, marker := none } }
          ⟨q, 0x31, .done, .absent, []⟩) .linkDown)))

/-- SET-LINK: BAD_PARAM for a value out of range, then PERIODIC_OPEN for FREE with a PERIODIC window in service;
otherwise DONE with all six parameters in force, and with the values already in force nothing else changes (R132, R148).
What each change does at once, the other three kept: another mode is changed to, with a choice after a cycle start
(R132, see ModeChanges); a keep-alive timer that has passed the new interval makes an IDLE due (R130); a recovery that
has passed the new limit is given up (R147, R148); a presented request that has waited the new limit expires, and any
other changed limit makes an attempt (R25, R34, R35). In a recovery given up the windows' ERROR answers leave in window
order by the model's choice (log 11), and that the kind of an expired request's ERROR answer is fixed at its expiry is
the model's reading (log 12). -/
def Obligations.SetLinkOutcome : Prop :=
  ∀ (s : State) (q : Byte) (p : LinkParams), Ready s →
    let bad := 1 < p.mode.toNat ∨ p.cycleLength.toNat < 100 ∨ 2000 < p.cycleLength.toNat ∨ p.keepAlive.toNat < 1 ∨
      15 < p.keepAlive.toNat ∨ p.responseLimit.toNat < 2 ∨ p.recoveryLimit.toNat < 1 ∨ 1000 < p.recoveryLimit.toNat
    let periodicOpen := p.mode = 1 ∧ ∃ w : WinId, (s.win w).isPeriodic = true ∧ (s.win w).state.live = true
    (bad → exec (.setLink q p) s = .next (answered s ⟨q, 0x32, .refused, .refusal .badParam, []⟩)) ∧
    (¬bad → periodicOpen →
      exec (.setLink q p) s = .next (answered s ⟨q, 0x32, .refused, .refusal .periodicOpen, []⟩)) ∧
    (¬bad → ¬periodicOpen →
      let carried : LinkMode := if p.mode = 0 then .cycled else .free
      let sameMode := s.arb.mode = carried
      let sameKeep := s.arb.keepAliveInterval = p.keepAlive.toNat
      let sameRecovery := s.link.recoveryLimit = p.recoveryLimit.toNat
      let sameWait := s.acc.waitLimit = p.waitLimit.toNat
      let base : State := { s with
        arb := { s.arb with cycleLength := p.cycleLength.toNat, keepAliveInterval := p.keepAlive.toNat }
        eng := { s.eng with responseLimit := p.responseLimit.toNat }
        link := { s.link with recoveryLimit := p.recoveryLimit.toNat }
        acc := { s.acc with waitLimit := p.waitLimit.toNat } }
      let leaves := fun (t : State) =>
        exec (.setLink q p) s = .next (answered t ⟨q, 0x32, .done, .absent, []⟩)
      (∃ t, exec (.setLink q p) s = .next t ∧
        t.arb.mode = carried ∧ t.arb.cycleLength = p.cycleLength.toNat ∧
        t.arb.keepAliveInterval = p.keepAlive.toNat ∧ t.eng.responseLimit = p.responseLimit.toNat ∧
        t.link.recoveryLimit = p.recoveryLimit.toNat ∧ t.acc.waitLimit = p.waitLimit.toNat ∧
        t.cmd.result = ⟨q, 0x32, .done, .absent, []⟩ ∧
        (∀ w : WinId, (t.win w).defn = (s.win w).defn ∧ (t.win w).pages = (s.win w).pages ∧
          (t.win w).seqBit = (s.win w).seqBit)) ∧
      (sameMode → sameKeep → sameRecovery → sameWait → leaves base ∧
        (s.arb.cycleLength = p.cycleLength.toNat → s.eng.responseLimit = p.responseLimit.toNat → leaves s)) ∧
      (¬sameMode → sameKeep → sameRecovery → sameWait →
        (carried = .cycled → s.link.state = .active → leaves base.toCycled.choose) ∧
        (carried = .cycled → s.link.state ≠ .active → leaves base.toCycled) ∧
        (carried = .free → leaves base.toFree)) ∧
      (sameMode → ¬sameKeep → sameRecovery → sameWait →
        (∀ k, s.arb.keepAliveTimer = some k → p.keepAlive.toNat * 1000 ≤ k →
          leaves (markerSent { base with arb := { base.arb with keepAliveTimer := none } } .idle)) ∧
        ((∀ k, s.arb.keepAliveTimer = some k → k < p.keepAlive.toNat * 1000) → leaves base)) ∧
      (sameMode → sameKeep → ¬sameRecovery → sameWait →
        (∀ k, s.link.state = .recovering → s.link.recoveryTimer = some k → p.recoveryLimit.toNat * 1000 ≤ k →
          TransferLaw s → leaves (recoveryGivenUp base)) ∧
        (s.link.state ≠ .recovering ∨ (∀ k, s.link.recoveryTimer = some k → k < p.recoveryLimit.toNat * 1000) →
          leaves base)) ∧
      (sameMode → sameKeep → sameRecovery → ¬sameWait →
        (s.acc.presented = none → leaves base) ∧
        (∀ r, s.acc.presented = some r → r.expired = none → p.waitLimit.toNat ≠ 0 → p.waitLimit.toNat ≤ r.waited →
          leaves (expiredAttempt (base.countExpiry r.req) r (expiredKind base r.req))) ∧
        (∀ r, s.acc.presented = some r →
          (r.expired ≠ none ∨ p.waitLimit.toNat = 0 ∨ r.waited < p.waitLimit.toNat) → leaves base.attempt)))

/-- A change of the link mode (R124, R131, R132). To CYCLED on an ACTIVE link: the keep-alive timer stops, a pending
IDLE is dropped and a cycle starts at once, with its CYCLE marker pending, every PERIODIC budget refilled and late
detection (R125, R129); on a link that is not ACTIVE the mode is recorded. To FREE: the cycle timer stops, a pending
CYCLE is dropped, and on an ACTIVE link the keep-alive timer starts from 0. -/
def Obligations.ModeChanges : Prop :=
  ∀ s : State,
    (s.link.state = .active →
      s.toCycled = cycleStarted { s with arb := { s.arb with mode := .cycled, keepAliveTimer := none } }) ∧
    (s.link.state ≠ .active → s.toCycled = { s with arb := { s.arb with mode := .cycled } }) ∧
    s.toFree = { s with arb := { s.arb with
      mode := .free
      cycleTimer := none
      marker := match s.arb.marker with
        | some (.cycle _) => none
        | m => m
      keepAliveTimer := if s.link.state = .active then some 0 else s.arb.keepAliveTimer } }

/-! ### ABORT and RESET-BLOCK -/

/-- ABORT is refused NOTHING_RUNNING when nothing runs. Otherwise it is DONE and the running command ends ABORTED: OPEN
halts its SYNCING window with cause ABORTED, ATTACH takes the link from PROBING to DETACHED with a pending HELLO dropped
and LINK_DOWN not raised, FLUSH unmarks the transfers of its queue; for ATTACH and FLUSH, and for OPEN with no request
presented, COMMAND_DONE is all that the device set gains (R161, R13, R64, R140). -/
def Obligations.AbortOutcome : Prop :=
  ∀ (s : State) (q : Byte),
    (s.cmd.long.state ≠ .running →
      exec (.abort q) s = .next (answered s ⟨q, 0x50, .refused, .refusal .nothingRunning, []⟩)) ∧
    (s.cmd.long.state = .running →
      ∃ t, exec (.abort q) s = .next t ∧ t.cmd.receiver = .idle ∧ t.cmd.result = ⟨q, 0x50, .done, .absent, []⟩ ∧
        t.cmd.long = { s.cmd.long with state := .aborted, detail := .abort } ∧
        t.ev.devicePending &&& DeviceKind.commandDone.bit ≠ 0 ∧ t.eng = s.eng ∧
        (s.cmd.long.code = some .attach → s.link.state = .probing →
          t.link = { s.link with state := .detached, capacity := 0, packetLimit := 0, timeoutRun := 0,
                                 probeTimer := none, recoveryTimer := none } ∧
          t.arb = { s.arb with cycleTimer := none, keepAliveTimer := none, marker := none } ∧
          t.ev = { s.ev with devicePending := s.ev.devicePending ||| DeviceKind.commandDone.bit, attn := t.attnLevel } ∧
          t.windows = s.windows ∧ t.slots = s.slots ∧ t.staging = s.staging ∧ t.acc = s.acc ∧ t.out = s.out) ∧
        (∀ w : WinId, s.cmd.long.code = some .flush → s.cmd.long.window = some w →
          t.windows = s.windows ∧ t.staging = s.staging ∧ t.link = s.link ∧ t.arb = s.arb ∧ t.acc = s.acc ∧
          t.out = s.out ∧
          t.ev = { s.ev with devicePending := s.ev.devicePending ||| DeviceKind.commandDone.bit, attn := t.attnLevel } ∧
          (∀ i : SlotId, t.slot i =
            (if i ∈ (s.win w).queue then (s.slot i).map fun x => { x with flushMark := false } else s.slot i))) ∧
        (∀ w : WinId, s.cmd.long.code = some .openWindow → s.cmd.long.window = some w → (s.win w).state = .syncing →
          (s.win w).queue = [] →
          t.win w = { s.win w with state := .halted, exchange := none, fault := some ⟨.aborted, none, none, 0⟩
                                   pending := (s.win w).pending ||| WindowKind.fault.bit } ∧
          (s.acc.presented = none →
            t.ev = { s.ev with devicePending := s.ev.devicePending ||| DeviceKind.commandDone.bit, attn := t.attnLevel } ∧
            t.slots = s.slots ∧ t.staging = s.staging ∧ t.arb = s.arb ∧ t.acc = s.acc ∧ t.out = s.out) ∧
          t.link = s.link ∧ OthersKept s t w))

/-- RESET-BLOCK with target WINDOWS: every window at its reset values, every slot FREE and every reservation released, a
running command ABORTED with RESET_WINDOWS, a PROBING link of a running ATTACH DETACHED, and the link otherwise, the
response limit, the device's pending causes but for additions and the masks kept (R1, R23, R66, R80, R162). Every
STRICT_WRITE and READ is answered ERROR, window by window (log 11) in queue order, and its tag falls: every tag that was
outstanding at a window is NONE, one at LOCAL is kept (R23, R29, R43, R66). Then, where a window has changed, the
presented request is judged afresh (R25, R43). -/
def Obligations.ResetWindows : Prop :=
  ∀ (s : State) (q : Byte),
    let running := s.cmd.long.state = .running
    let probing := s.runsLong .attach = true ∧ s.link.state = .probing
    let ts := allWindows.flatMap fun w => s.transfersOf (s.win w).queue
    let base := if probing then detached s else s
    let cleared := State.setAttn { base with
      windows := State.reset.windows
      slots := State.reset.slots
      staging := State.reset.staging
      acc := { s.acc with tags := tagsAfter s ts }
      out := { s.out with answers := s.out.answers ++ errorAnswers ts }
      cmd := if running then { s.cmd with long := { s.cmd.long with state := .aborted, detail := .resetWindows } }
             else s.cmd
      ev := if running then { s.ev with devicePending := s.ev.devicePending ||| DeviceKind.commandDone.bit } else s.ev }
    let moved := ∃ w : WinId, (s.win w).state ≠ .unused ∨ (s.win w).queue ≠ []
    (exec (.resetBlockWindows q 1) s =
      .next (answered (if moved then cleared.attempt else cleared) ⟨q, 0x51, .done, .absent, []⟩)) ∧
    (TransferLaw s → TagLaw s → ∀ g : Tag, cleared.tagEntry g =
      match (s.tagEntry g).dest with
      | .window _ => ⟨.none, 0⟩
      | .localMem | .none => s.tagEntry g) ∧
    ∃ t, exec (.resetBlockWindows q 1) s = .next t ∧
    (∀ w : WinId, t.win w = State.reset.win w) ∧ (∀ i : SlotId, t.slot i = none ∧ t.reservation i = []) ∧
    t.cmd = { receiver := .idle, result := ⟨q, 0x51, .done, .absent, []⟩
              long := if s.cmd.long.state = .running
                      then { s.cmd.long with state := .aborted, detail := .resetWindows } else s.cmd.long } ∧
    (s.cmd.long.state = .running → t.ev.devicePending &&& DeviceKind.commandDone.bit ≠ 0) ∧
    t.ev.devicePending &&& s.ev.devicePending = s.ev.devicePending ∧
    t.ev.windowMask = s.ev.windowMask ∧ t.ev.deviceMask = s.ev.deviceMask ∧ t.eng = s.eng ∧
    t.acc.waitLimit = s.acc.waitLimit ∧
    (if s.runsLong .attach = true ∧ s.link.state = .probing then
        t.link = { s.link with state := .detached, capacity := 0, packetLimit := 0, timeoutRun := 0,
                               probeTimer := none, recoveryTimer := none }
      else t.link = s.link ∧ t.arb = s.arb) ∧
    t.arb.mode = s.arb.mode ∧ t.arb.cycleCount = s.arb.cycleCount ∧ t.arb.cycleLength = s.arb.cycleLength ∧
    t.arb.keepAliveInterval = s.arb.keepAliveInterval ∧ t.arb.transmitter = s.arb.transmitter

/-- RESET-BLOCK with target LINK: every window that may have an exchange HALTED with cause LINK_LOST and its queue ended,
every other window kept whole; the link DETACHED, the cycle count 0, the settings kept, a running command ABORTED with
RESET_LINK (R13, R20, R149, R162). In a state whose queues and slots fit together the whole next state is given: each
halted window's record with its fault record and its LOST_WRITES, DISCARDED and events, the ERROR answers in window order
(log 11) and queue order, the tags, the freed slots, and the attempt that follows (R25, R114 to R116). That a target that
names nothing is carried by the WINDOWS row, which refuses it BAD_PARAM, is the model's choice (log 8). -/
def Obligations.ResetLink : Prop :=
  (∀ (s : State) (q : Byte), ∃ t, exec (.resetBlockLink q 2) s = .next t ∧
    (∀ w : WinId, (s.win w).state.live = true →
      (t.win w).state = .halted ∧ (t.win w).queue = [] ∧ (t.win w).exchange = none ∧
      (t.win w).fault.map (·.cause) = some .linkLost ∧ (t.win w).seqBit = (s.win w).seqBit ∧
      (t.win w).pages = (s.win w).pages ∧ (t.win w).defn = (s.win w).defn ∧
      (t.win w).pending &&& WindowKind.fault.bit ≠ 0) ∧
    (∀ w : WinId, (s.win w).state.live = false → t.win w = s.win w) ∧
    t.link = { s.link with state := .detached, capacity := 0, packetLimit := 0, timeoutRun := 0,
                           probeTimer := none, recoveryTimer := none } ∧
    t.arb = { s.arb with cycleCount := 0, cycleTimer := none, keepAliveTimer := none, marker := none } ∧
    t.cmd = { receiver := .idle, result := ⟨q, 0x51, .done, .absent, []⟩
              long := if s.cmd.long.state = .running
                      then { s.cmd.long with state := .aborted, detail := .resetLink } else s.cmd.long } ∧
    (s.link.state ≠ .detached → t.ev.devicePending &&& DeviceKind.linkDown.bit ≠ 0) ∧
    t.eng = s.eng ∧ t.acc.waitLimit = s.acc.waitLimit ∧
    t.ev.windowMask = s.ev.windowMask ∧ t.ev.deviceMask = s.ev.deviceMask) ∧
  (∀ (s : State) (q : Byte), TransferLaw s →
    let running := s.cmd.long.state = .running
    let up := s.link.state ≠ .detached
    let d := detached s
    let base : State := { d with
      arb := { d.arb with cycleCount := 0 }
      cmd := if running then { s.cmd with long := { s.cmd.long with state := .aborted, detail := .resetLink } } else s.cmd
      ev := { s.ev with devicePending := s.ev.devicePending
        ||| (if running then DeviceKind.commandDone.bit else 0) ||| (if up then DeviceKind.linkDown.bit else 0) } }
    exec (.resetBlockLink q 2) s = .next (answered
      (attemptAfterHalts (if running ∨ up then base.setAttn else base) (linkLostCause s))
      ⟨q, 0x51, .done, .absent, []⟩)) ∧
  (∀ (s : State) (q b : Byte), b ∉ resetTargets →
    exec (.resetBlockWindows q b) s = .next (answered s ⟨q, 0x51, .refused, .refusal .badParam, []⟩))

/-! ### The window match -/

/-- The window match of R2: the claiming window that holds a byte is the window in one of the six claiming states whose
range holds the address, its base not above it and base plus size above it, and there is none exactly when no window is
so; by R3 at most one is. And the class of a request by R26 and R27, from the windows of its first and last byte. -/
def Obligations.WindowMatchAndClass : Prop :=
  ∀ s : State,
    let claimsByte := fun (w : WinId) (a : Nat) =>
      (s.win w).state ∈ [.syncing, .opened, .held, .fenced, .closing, .halted] ∧
        ∃ d, (s.win w).defn = some d ∧ d.base.toNat ≤ a ∧ a < d.base.toNat + d.size
    (∀ a : Nat,
      (OverlapLaw s → ∀ w : WinId, s.holder a = some w ↔ claimsByte w a) ∧
      (s.holder a = none ↔ ∀ w : WinId, ¬claimsByte w a)) ∧
    (∀ r : BusRequest,
      let n := BusOp.count r.op
      let first := s.holder r.addr.toNat
      let last := s.holder (r.addr.toNat + n - 1)
      let malformed := n = 0 ∨ 256 < n ∨ r.addr.toNat / 4096 ≠ (r.addr.toNat + n - 1) / 4096
      (malformed → s.classify r = .malformed) ∧
      (¬malformed →
        (first = none → last = none → s.classify r = .localMem) ∧
        (∀ w : WinId, first = some w → last = some w → s.classify r = .far w) ∧
        (first ≠ last → s.classify r = .straddle)))

/-! ### The acceptance point -/

/-- A presented request whose tag has destination NONE is answered ERROR at once when it is malformed, when it straddles,
or when its window does not take requests; the first two are counted and raise their events; nothing else changes
(R26, R27, R28, R30, R40). -/
def Obligations.RequestAnsweredError : Prop :=
  ∀ (s : State) (r : BusRequest), s.acc.presented = none → (s.tagEntry r.tag).dest = .none →
    let n := BusOp.count r.op
    let first := s.holder r.addr.toNat
    let last := s.holder (r.addr.toNat + n - 1)
    let malformed := n = 0 ∨ 256 < n ∨ r.addr.toNat / 4096 ≠ (r.addr.toNat + n - 1) / 4096
    (malformed → exec (.requestPresented r) s =
      .next (((s.countDevice .malformed 1).raiseDevice .malformed).answer ⟨r.tag, false, []⟩)) ∧
    (¬malformed → first ≠ last → exec (.requestPresented r) s =
      .next (((s.countDevice .straddles 1).raiseDevice .straddle).answer ⟨r.tag, false, []⟩)) ∧
    (∀ w : WinId, ¬malformed → first = some w → last = some w →
      (s.win w).state ∉ [.opened, .held] →
      exec (.requestPresented r) s = .next (s.answer ⟨r.tag, false, []⟩))

/-- A far request that R31 allows is taken in one step: the lowest FREE slot gets its record and its write data, the slot
joins the queue at the tail, a posted write is answered OK and any other raises its tag, the packet of a new head is
offered and a choice is made (R29, R31, R36, R45 to R47, R49, R75). -/
def Obligations.FarRequestTaken : Prop :=
  ∀ (s : State) (r : BusRequest) (w : WinId) (i : SlotId) (d : Definition), s.acc.presented = none →
    s.classify r = .far w → (s.win w).state = .opened ∨ (s.win w).state = .held → (s.win w).defn = some d →
    (s.tagEntry r.tag).dest = .none ∨
      (transferKind d.cls r.op ≠ .postedWrite ∧ (s.tagEntry r.tag).dest = .window w) →
    (s.slot i = none ∧ ∀ j : SlotId, j < i → s.slot j ≠ none) →
    s.reserved w + BusOp.count r.op ≤ (s.win w).pages * 256 →
    let x := s.win w
    let t : Transfer :=
      { state := if x.queue = [] then .head else .queued, window := w, kind := transferKind d.cls r.op, tag := r.tag
        upAddr := r.addr, farAddr := d.farBase + (r.addr - d.base).setWidth 32, size := BusOp.count r.op
        bytesDone := 0, flushMark := false, cycleMark := false }
    let data := match r.op with
      | .read _ => []
      | .write bytes => bytes
    let held := ((s.setSlot i (some t)).setReservation i data).setWin w { x with queue := x.queue ++ [i] }
    let base := if t.kind = .postedWrite then held.answer ⟨r.tag, true, []⟩
      else held.setTag r.tag ⟨.window w, (s.tagEntry r.tag).count + 1⟩
    exec (.requestPresented r) s = .next (base.offer w).choose

/-- A local request is forwarded when its tag and the downstream count allow (R32, R38); and what a request waits for
otherwise, in the order of R30 to R32. -/
def Obligations.RequestForwardedOrWaits : Prop :=
  ∀ (s : State) (r : BusRequest), s.acc.presented = none →
    let dest := (s.tagEntry r.tag).dest
    let waits := fun reason =>
      { s with acc := { s.acc with presented := some ⟨r, reason, 0, none⟩ } }
    (s.classify r = .localMem →
      (dest = .none ∨ dest = .localMem →
        (s.acc.downstream < 16 →
          let base := (s.setTag r.tag ⟨.localMem, (s.tagEntry r.tag).count + 1⟩).countDevice .localPassed 1
          exec (.requestPresented r) s = .next
            { base with acc := { base.acc with downstream := s.acc.downstream + 1 }
                        out := { s.out with forwarded := s.out.forwarded ++ [r] } }) ∧
        (16 ≤ s.acc.downstream → exec (.requestPresented r) s = .next (waits .downstream))) ∧
      (dest ≠ .none → dest ≠ .localMem → exec (.requestPresented r) s = .next (waits .tag))) ∧
    (s.classify r = .malformed ∨ s.classify r = .straddle → dest ≠ .none →
      exec (.requestPresented r) s = .next (waits .tag)) ∧
    (∀ w : WinId, s.classify r = .far w → (s.win w).state.takes = false → dest ≠ .none →
      exec (.requestPresented r) s = .next (waits .tag)) ∧
    (∀ (w : WinId) (d : Definition), s.classify r = .far w → (s.win w).state.takes = true →
      (s.win w).defn = some d →
      let permitted := dest = .none ∨ (transferKind d.cls r.op ≠ .postedWrite ∧ dest = .window w)
      (¬permitted → exec (.requestPresented r) s = .next (waits .tag)) ∧
      (permitted → (∀ i : SlotId, s.slot i ≠ none) → exec (.requestPresented r) s = .next (waits .slot)) ∧
      (permitted → (∃ i : SlotId, s.slot i = none) → (s.win w).pages * 256 < s.reserved w + BusOp.count r.op →
        exec (.requestPresented r) s = .next (waits .staging)))

/-- An attempt judges the waiting request afresh: it ends as presenting the request now would, but for the time it has
waited; one that carries the expired mark is answered ERROR once its tag has destination NONE, a malformed or straddle one
then with its counter and event (R40, log 12), or waits for its tag (R25, R30, R34). With no request, and for a request
presented while another is held, nothing happens (R24, R33, log 5). And what an attempt leaves as it is, whatever it
finds. -/
def Obligations.AttemptJudgesAfresh : Prop :=
  (∀ s : State, s.acc.presented = none → exec .acceptanceAttempt s = .next s) ∧
  (∀ (s : State) (r : BusRequest), s.acc.presented.isSome = true → exec (.requestPresented r) s = .next s) ∧
  (∀ (s : State) (p : Presented), s.acc.presented = some p → p.expired = none →
    ∃ t, exec .acceptanceAttempt s = .next t ∧
      ∃ u, exec (.requestPresented p.req) { s with acc := { s.acc with presented := none } } = .next u ∧
        t = { u with acc := { u.acc with
          presented := u.acc.presented.map fun p' => { p' with waited := p.waited } } }) ∧
  (∀ (s : State) (p : Presented) (k : ErrorKind), s.acc.presented = some p → p.expired = some k →
    exec .acceptanceAttempt s = .next (expiredAttempt s p k)) ∧
  (∀ s : State, exec .acceptanceAttempt s = .next s.attempt ∧ AttemptKeeps s s.attempt)

/-- The acceptance wait limit expires: the rest of its time passes (log 1); a local request that still waits counts in
LOCAL_WAIT_EXPIRED, a far one of an OPEN or HELD window in WAIT_EXPIRED with WAIT raised, and one bound for an ERROR
answer in nothing; the request is marked, and answered ERROR once its tag has destination NONE, a malformed or straddle
request with its counter and event then (R30, R34, R40; log 12). -/
def Obligations.WaitLimitExpires : Prop :=
  ∀ (s : State) (p : Presented), s.acc.presented = some p → p.expired = none → s.acc.waitLimit ≠ 0 →
    let n := s.acc.waitLimit - p.waited
    let s' := s.elapse n
    let counted := s'.countExpiry p.req
    exec .waitLimitExpiry s =
      .next (expiredAttempt counted { p with waited := p.waited + n } (expiredKind s p.req)) ∧
    (∀ why, s.judge p.req = .wait why → s.classify p.req = .localMem →
      counted = s'.countDevice .localWaitExpired 1) ∧
    (∀ why w, s.judge p.req = .wait why → s.classify p.req = .far w → (s.win w).state.takes = true →
      counted = (s'.countWindow w .waitExpired 1).raiseWindow w .wait) ∧
    (s.classify p.req = .malformed ∨ s.classify p.req = .straddle → counted = s') ∧
    (∀ w, s.classify p.req = .far w → (s.win w).state.takes = false → counted = s')

/-- A response of local memory is passed back unchanged, both counts fall and an attempt follows; one that belongs to no
forwarded request is discarded (R29, R32, R39). That a response belongs to a forwarded request whenever its tag is LOCAL
and the downstream count is not 0 is the model's choice (log 26): R42 has a response that was in flight at a reset not
passed back, and the model assumes that the reset port delivers none. -/
def Obligations.DownstreamResponsePassedBack : Prop :=
  ∀ (s : State) (t : Tag) (ok : Bool) (data : List Byte),
    let e := s.tagEntry t
    (e.dest = .localMem → 0 < s.acc.downstream →
      let base := (s.answer ⟨t, ok, data⟩).setTag t
        (if e.count ≤ 1 then ⟨.none, 0⟩ else ⟨.localMem, e.count - 1⟩)
      exec (.downstreamResponse t ok data) s =
        .next (State.attempt { base with acc := { base.acc with downstream := s.acc.downstream - 1 } })) ∧
    (e.dest ≠ .localMem ∨ s.acc.downstream = 0 → exec (.downstreamResponse t ok data) s = .next s)

/-! ### Exchanges -/

/-- The packet offered is the head's that begins at offset bytes done, with the window's sequence bit, in a new READY
record; it is offered only to a window that is OPEN, FENCED or CLOSING and has no exchange (R48, R49, R51, R84). -/
def Obligations.OfferedPacket : Prop :=
  ∀ (s : State) (w : WinId) (i : SlotId) (t : Transfer) (d : Definition),
    ((s.win w).state ∉ [.opened, .fenced, .closing] ∨ (s.win w).exchange.isSome = true ∨ (s.win w).queue = [] →
      s.offer w = s) ∧
    ((s.win w).state ∈ [.opened, .fenced, .closing] → (s.win w).exchange = none → (s.win w).defn = some d →
      (s.win w).queue.head? = some i → s.slot i = some t →
      let far := t.farAddr + BitVec.ofNat 32 t.bytesDone
      let len := min d.packetSize (t.size - t.bytesDone)
      s.offer w = s.setWin w { s.win w with
        exchange := some ⟨if t.kind = .read then .read far len (s.win w).seqBit else .write far len (s.win w).seqBit,
                          .ready, 0, none, 0⟩ })

/-- The arbiter's choice (R121, R122). Nothing while the transmitter is SENDING. Otherwise the pending marker, its place
emptied. Otherwise the first PERIODIC window after the periodic pointer whose exchange is eligible and fits the remaining
budget, and otherwise the first STRICT or POSTED window after the general pointer whose exchange is eligible: the exchange
goes from READY to SENDING, its packet is formed, a WRITE's data read from the reservation from offset bytes done, its
length is spent from a PERIODIC window's budget, and the pointer of its class is set (R75, R85, R127). Otherwise
nothing. -/
def Obligations.ArbiterChoice : Prop :=
  ∀ s : State,
    let eligible := fun (w : WinId) (x : Exchange) =>
      s.link.state = .active ∧ (s.win w).state ∈ [.syncing, .opened, .fenced, .closing] ∧
        (s.win w).exchange = some x ∧ x.state = .ready
    let length := fun (x : Exchange) => match x.body with
      | .sync => 0
      | .write _ len _ | .read _ len _ => len
    let fits := fun (w : WinId) (x : Exchange) => x.body = .sync ∨ length x ≤ (s.win w).remaining.getD 0
    let behind := fun (ptr w : WinId) => (w.val + 11 - ptr.val) % 12
    let first := fun (w : WinId) (x : Exchange) => (s.win w).isPeriodic = true ∧ eligible w x ∧ fits w x
    let second := fun (w : WinId) (x : Exchange) => (s.win w).isPeriodic = false ∧ eligible w x
    let packet := fun (w : WinId) (x : Exchange) => match x.body with
      | .sync => Packet.sync w
      | .read far len bit => .read w bit far len
      | .write far len bit => .write w bit far (match s.headOf w with
        | some (i, t) => ((s.reservation i).drop t.bytesDone).take len
        | none => [])
    (s.arb.transmitter.isSome = true → s.choose = s) ∧
    (s.arb.transmitter = none →
      (∀ m, s.arb.marker = some m → s.choose = { s with arb := { s.arb with
        marker := none
        transmitter := some (match m with
          | .cycle c => .cycle c
          | .idle => .idle
          | .hello => .hello) } }) ∧
      (s.arb.marker = none →
        (∀ w x, first w x → (∀ v y, first v y → behind s.arb.periodicPtr w ≤ behind s.arb.periodicPtr v) →
          s.choose = { s.setWin w { s.win w with
              exchange := some { x with state := .sending }
              remaining := (s.win w).remaining.map (· - length x) } with
            arb := { s.arb with transmitter := some (packet w x), periodicPtr := w } }) ∧
        ((∀ v y, ¬first v y) →
          (∀ w x, second w x → (∀ v y, second v y → behind s.arb.generalPtr w ≤ behind s.arb.generalPtr v) →
            s.choose = { s.setWin w { s.win w with exchange := some { x with state := .sending } } with
              arb := { s.arb with transmitter := some (packet w x), generalPtr := w } }) ∧
          ((∀ v y, ¬second v y) → s.choose = s))))

/-- A stray response: a window above 11, no AWAITING exchange, a type that does not fit, or a link that is not ACTIVE.
STRAY grows, the event is raised, the timeout run ends, and nothing else changes; so too for a good packet of another
type and a HELLO_REPLY that is not accepted (R82, R94, R102, R138, R142). -/
def Obligations.StrayResponses : Prop :=
  (∀ (s : State) (f : BitVec 4) (bit : Bool) (r : Response),
    (s.link.state ≠ .active ∨ ∀ w : WinId, w.val = f.toNat → ∀ x, (s.win w).exchange = some x →
      x.isAwaiting = false ∨ r.fits x.body = false) →
    (match r with
      | .ack mark => exec (.ackReceived f bit mark) s
      | .nak => exec (.nakReceived f bit) s
      | .refuse => exec (.refuseReceived f bit) s
      | .data bytes => exec (.dataReceived f bit bytes) s) =
    .next (((heard s).countDevice .stray 1).raiseDevice .stray)) ∧
  (∀ (s : State) (ty : Byte),
    exec (.otherInboundPacket ty) s = .next (((heard s).countDevice .stray 1).raiseDevice .stray)) ∧
  (∀ (s : State) (c : BitVec 32) (l : BitVec 16) (fresh : Bool),
    (s.link.state = .detached ∨ s.link.state = .active ∨ c.toNat < 1 ∨ 4194304 < c.toNat ∨ l.toNat < 32 ∨
      256 < l.toNat) →
    exec (.helloReplyReceived c l fresh) s = .next (((heard s).countDevice .stray 1).raiseDevice .stray))

/-- A success that does not end the head, an ACK of a WRITE or a full DATA of a READ: the exchange is removed, the
sequence bit toggles, a DATA's bytes are placed from offset bytes done, bytes done grows by the packet's length, the next
packet is offered, or held back in HELD, and a choice is made (R50, R76, R89, R95, R99). -/
def Obligations.PacketSucceeds : Prop :=
  ∀ (s : State) (w : WinId) (x : Exchange) (i : SlotId) (t : Transfer) (bit : Bool) (far : FarAddr) (len : Nat),
    s.headOf w = some (i, t) → t.bytesDone + len ≠ t.size →
    let base := (heard s).setWin w { s.win w with exchange := none, seqBit := !(s.win w).seqBit }
    let moved := fun (b : State) => b.setSlot i (some { t with bytesDone := t.bytesDone + len })
    (Settles s w x bit (.ack false) → x.body = .write far len bit →
      exec (.ackReceived (windowField w) bit false) s = .next ((moved base).offer w).choose) ∧
    (∀ data : List Byte, data.length = len → Settles s w x bit (.data data) → x.body = .read far len bit →
      exec (.dataReceived (windowField w) bit data) s = .next
        ((moved (base.setReservation i ((s.reservation i).take t.bytesDone ++ data))).offer w).choose)

/-- The end of a head, done or short: the whole next state is given. The answer of a STRICT_WRITE or READ leaves with
the data R77 gives and its tag falls; the slot is FREE and its reservation released; the transfer leaves the front of
the queue and the next becomes head; the sequence bit toggles; TRANSFERS, BYTES and SHORT_READS grow as R57 says; a
marked transfer completes the running FLUSH DONE; a CLOSING window whose queue is then empty is DEFINED with CLOSED
raised; SHORT is raised under FILL. Then the new head's first packet is offered, an attempt follows and a choice, in the
model's order (log 3): where the attempt too makes an exchange READY, that order says which a FREE transmitter takes
(R19, R25, R29, R47, R49, R50, R52, R54 to R57, R62, R76 to R78, R89, R121). -/
def Obligations.HeadEnds : Prop :=
  ∀ (s : State) (w : WinId) (x : Exchange) (i : SlotId) (t : Transfer) (d : Definition) (bit : Bool) (far : FarAddr)
    (len : Nat), s.headOf w = some (i, t) → (s.win w).defn = some d →
    let ended := fun (answers : List Answer) (bytes short : Nat) (kinds : WindowKinds) =>
      ((headEnded (heard s) w i t answers bytes short kinds).offer w).attempt.choose
    (Settles s w x bit (.ack false) → x.body = .write far len bit → t.bytesDone + len = t.size → t.kind ≠ .read →
      exec (.ackReceived (windowField w) bit false) s =
        .next (ended (if t.kind = .postedWrite then [] else [⟨t.tag, true, []⟩]) t.size 0 0)) ∧
    (∀ data : List Byte, Settles s w x bit (.data data) → x.body = .read far len bit → t.kind = .read →
      let received := (s.reservation i).take t.bytesDone ++ data
      let done := t.bytesDone + data.length
      (data.length = len → done = t.size → exec (.dataReceived (windowField w) bit data) s =
        .next (ended [⟨t.tag, true, received⟩] t.size 0 0)) ∧
      (∀ fill, data.length < len → d.shortPolicy = .fill fill → exec (.dataReceived (windowField w) bit data) s =
        .next (ended [⟨t.tag, true, received.take done ++ List.replicate (t.size - done) fill⟩] done 1
          WindowKind.short.bit)) ∧
      (data.length < len → d.shortPolicy = .error → exec (.dataReceived (windowField w) bit data) s =
        .next (ended [⟨t.tag, false, []⟩] done 1 0)))

/-- The ACK of a SYNC exchange, whatever its bit: the window is OPEN with sequence bit 0 and no exchange, and a running
OPEN of the window completes DONE with COMMAND_DONE (R12, R89, R100, R160). A NAK that settles an exchange: NAKS grows,
the strike count returns to 0 and the exchange enters BACKOFF, when the NAK limit is 0 or the NAK time used plus the
interval does not pass it (R96, R111). That the attempt on the window's change of state stands before the choice is the
model's choice (log 3). -/
def Obligations.SyncAcknowledgedAndNakBackoff : Prop :=
  (∀ (s : State) (w : WinId) (x : Exchange) (bit : Bool), (s.win w).state = .syncing → x.body = .sync →
     Settles s w x bit (.ack true) →
     let base := (heard s).setWin w { s.win w with state := .opened, exchange := none, seqBit := false }
     let done := State.raiseDevice
       { base with cmd := { base.cmd with long := { base.cmd.long with state := .done, detail := .none } } }
       .commandDone
     exec (.ackReceived (windowField w) bit true) s = .next (
       if s.runsLong .openWindow = true ∧ s.cmd.long.window = some w then done.attempt.choose
       else base.attempt.choose)) ∧
  (∀ (s : State) (w : WinId) (x : Exchange) (d : Definition) (bit : Bool), Settles s w x bit .nak →
     (s.win w).defn = some d → d.nakLimit = 0 ∨ x.nakUsed + d.nakInterval ≤ d.nakLimit →
     exec (.nakReceived (windowField w) bit) s = .next ((heard s).setWin w { s.win w with
       counters := (s.win w).counters.grow .naks 1
       exchange := some { x with state := .backoff 0, strikes := 0 } }))

/-- The failures that halt a window from outside HALTED: a REFUSE, an OVERSIZE DATA, and a NAK that would pass the
limit. The whole next state is given: the failure path of the window with its cause, SYNC_FAILED for a SYNC exchange
(FailurePath says what it leaves), after the NAK has counted in NAKS, and then the attempt; a DATA's choice comes after
it, in the model's order (log 3). And clause by clause: the whole record of the window, its counters, events and fault
record among it; the ERROR answers of the queue leave in queue order; with no request presented its slots are FREE, its
reservations released and the tags of its STRICT_WRITEs and READs fallen; an OPEN or FLUSH that ran for the window is
FAILED with the cause as its detail and COMMAND_DONE raised, and any other long command stays; what belongs to other
windows stays (R13, R20, R25, R29, R63, R98, R99, R111, R113, R114, R116, R160). -/
def Obligations.FailureHalts : Prop :=
  ∀ (s : State) (w : WinId) (x : Exchange) (bit : Bool), (s.win w).state ≠ .halted →
    let ts := s.transfersOf (s.win w).queue
    let failed := fun (b : State) (cause : FaultCause) =>
      match x.body with
      | .sync => b.haltWindow w .syncFailed none none
      | .write far _ _ | .read far _ _ => b.haltWindow w cause none (some far)
    let halted := fun (before : State) (u : State) (cause : FaultCause) =>
      u.win w = (match x.body with
        | .sync => haltedRecord before w .syncFailed none none
        | .write far _ _ => haltedRecord before w cause none (some far)
        | .read far _ _ => haltedRecord before w cause none (some far)) ∧
      s.out.answers ++ errorAnswers ts <+: u.out.answers ∧
      (s.acc.presented = none →
        (∀ i ∈ (s.win w).queue, u.slot i = none ∧ u.reservation i = []) ∧ u.acc.tags = tagsAfter s ts) ∧
      u.cmd = (if s.runsFor w = true then
          { s.cmd with long := { s.cmd.long with
              state := .failed, detail := .cause (if x.body = .sync then .syncFailed else cause) } }
        else s.cmd) ∧
      (s.runsFor w = true → u.ev.devicePending &&& DeviceKind.commandDone.bit ≠ 0) ∧
      u.link = { s.link with timeoutRun := 0 } ∧ OthersKept s u w
    (Settles s w x bit .refuse →
      exec (.refuseReceived (windowField w) bit) s = .next (failed (heard s) .refused).attempt ∧
      ∃ u, exec (.refuseReceived (windowField w) bit) s = .next u ∧ halted s u .refused) ∧
    (∀ data far len, Settles s w x bit (.data data) → x.body = .read far len bit → len < data.length →
      exec (.dataReceived (windowField w) bit data) s = .next (failed (heard s) .oversize).attempt.choose ∧
      ∃ u, exec (.dataReceived (windowField w) bit data) s = .next u ∧ halted s u .oversize) ∧
    (∀ d : Definition, Settles s w x bit .nak → (s.win w).defn = some d → d.nakLimit ≠ 0 →
      d.nakLimit < x.nakUsed + d.nakInterval →
      exec (.nakReceived (windowField w) bit) s =
        .next (failed ((heard s).countWindow w .naks 1) .nakLimit).attempt ∧
      ∃ u, exec (.nakReceived (windowField w) bit) s = .next u ∧
        halted (s.countWindow w .naks 1) u .nakLimit)

/-- The failure path as an operation: the window's whole record, the answers in queue order and the tags that fall with
them, the queue's slots FREE and its reservations released, every other slot, every other window, the link, the arbiter
and the engine as they were, and a long command that runs for the window FAILED with the cause. COMMAND_DONE is added to
the device set exactly then, ATTN has its level, and the device counters and the masks are as they were (R63, R113 to
R116, R118, R160, R167). -/
def Obligations.FailurePath : Prop :=
  ∀ (s : State) (w : WinId) (cause : FaultCause) (strike : Option StrikeKind) (failFar : Option FarAddr),
    let t := s.haltWindow w cause strike failFar
    t.win w = haltedRecord s w cause strike failFar ∧ (∀ v : WinId, v ≠ w → t.win v = s.win v) ∧
    t.out = { s.out with answers := s.out.answers ++ errorAnswers (s.transfersOf (s.win w).queue) } ∧
    (∀ i : SlotId, t.slot i = (if i ∈ (s.win w).queue then none else s.slot i) ∧
      t.reservation i = (if i ∈ (s.win w).queue then [] else s.reservation i)) ∧
    t.acc.tags = tagsAfter s (s.transfersOf (s.win w).queue) ∧
    t.link = s.link ∧ t.arb = s.arb ∧ t.eng = s.eng ∧ t.acc.presented = s.acc.presented ∧
    t.acc.downstream = s.acc.downstream ∧ t.cmd.result = s.cmd.result ∧
    t.cmd.long = (if s.runsFor w = true then { s.cmd.long with state := .failed, detail := .cause cause }
                  else s.cmd.long) ∧
    t.ev = { s.ev with
      devicePending := if s.runsFor w = true then s.ev.devicePending ||| DeviceKind.commandDone.bit
                       else s.ev.devicePending
      attn := t.attnLevel } ∧
    t.acc.waitLimit = s.acc.waitLimit ∧ t.cmd.receiver = s.cmd.receiver ∧ t.freeUses = s.freeUses ∧
    t.pending = s.pending

/-- A strike below the strike limit: the count and the last kind change, STRIKES grows, the exchange is READY again and
a choice is made. SEQUENCE for a settling type with the wrong bit; CHECK for the exchange AWAITING longest, which the
model tells by the stamps of the response timers (its own field, log 20), or STRAY when none is; TIMEOUT, the rest of
the timer's time having passed (log 1), with LINK_TIMEOUTS and the timeout run below 8 (R81, R87, R101, R106, R108,
R109, R142). What a strike at the limit and the eighth expiry do is said by StrikesAtTheLimit. -/
def Obligations.StrikesBelowTheLimit : Prop :=
  (∀ (s : State) (w : WinId) (x : Exchange) (d : Definition) (e l st : Nat), (s.win w).exchange = some x →
    x.state = .awaiting e l st → (s.win w).defn = some d → x.strikes + 1 < d.strikeLimit →
    let struck := fun (b : State) (k : StrikeKind) => b.setWin w { b.win w with
      counters := (s.win w).counters.grow .strikes 1
      exchange := some { x with state := .ready, strikes := x.strikes + 1, lastStrike := some k } }
    (∀ (bit : Bool) (r : Response), s.link.state = .active → r.fits x.body = true → x.body.bitAgrees bit = false →
      (match r with
        | .ack mark => exec (.ackReceived (windowField w) bit mark) s
        | .nak => exec (.nakReceived (windowField w) bit) s
        | .refuse => exec (.refuseReceived (windowField w) bit) s
        | .data bytes => exec (.dataReceived (windowField w) bit bytes) s) =
      .next (struck (heard s) .sequence).choose) ∧
    ((∀ v : WinId, v ≠ w → ∀ n, (s.win v).awaitStamp = some n → st < n) →
      exec .badCheckPacket s = .next (struck s .check).choose) ∧
    (s.link.state = .active → s.link.timeoutRun + 1 < 8 →
      let expired := struck ((s.elapse (l - e)).countDevice .linkTimeouts 1) .timeout
      exec (.responseLimitExpiry w) s = .next (State.choose
        { expired with link := { expired.link with timeoutRun := s.link.timeoutRun + 1 } }))) ∧
  (∀ s : State, (∀ w : WinId, (s.win w).awaitStamp = none) →
    exec .badCheckPacket s = .next ((s.countDevice .stray 1).raiseDevice .stray))

/-- A strike that reaches the strike limit fails the exchange and halts its window, with cause STRIKES and the kind of
the strike, or SYNC_FAILED for a SYNC (R107); an attempt and a choice follow. The eighth response-limit expiry in a row
loses the link in the same step, whether its own strike is below the limit, and the exchange waits READY, or at it, and
the window is HALTED (R107, R142, R144). The rest of the response timer's time passes at an expiry (log 1), and the
longest AWAITING is told by the model's stamps (log 20). That the link is lost before the attempt, and the attempt made
before the choice, is the model's choice (log 3). -/
def Obligations.StrikesAtTheLimit : Prop :=
  ∀ (s : State) (w : WinId) (x : Exchange) (d : Definition) (e l st : Nat), (s.win w).exchange = some x →
    x.state = .awaiting e l st → (s.win w).defn = some d → (s.win w).state ≠ .halted →
    let counted := fun (b : State) => b.setWin w { b.win w with counters := (s.win w).counters.grow .strikes 1 }
    let failed := fun (b : State) (k : StrikeKind) =>
      match x.body with
      | .sync => (counted b).haltWindow w .syncFailed none none
      | .write far _ _ | .read far _ _ => (counted b).haltWindow w .strikes (some k) (some far)
    let struck := fun (b : State) (k : StrikeKind) => b.setWin w { b.win w with
      counters := (s.win w).counters.grow .strikes 1
      exchange := some { x with state := .ready, strikes := x.strikes + 1, lastStrike := some k } }
    let expired := (s.elapse (l - e)).countDevice .linkTimeouts 1
    let runGrown := fun (b : State) => { b with link := { b.link with timeoutRun := b.link.timeoutRun + 1 } }
    (d.strikeLimit ≤ x.strikes + 1 →
      (∀ (bit : Bool) (r : Response), s.link.state = .active → r.fits x.body = true → x.body.bitAgrees bit = false →
        (match r with
          | .ack mark => exec (.ackReceived (windowField w) bit mark) s
          | .nak => exec (.nakReceived (windowField w) bit) s
          | .refuse => exec (.refuseReceived (windowField w) bit) s
          | .data bytes => exec (.dataReceived (windowField w) bit bytes) s) =
        .next (failed (heard s) .sequence).attempt.choose) ∧
      ((∀ v : WinId, v ≠ w → ∀ n, (s.win v).awaitStamp = some n → st < n) →
        exec .badCheckPacket s = .next (failed s .check).attempt.choose) ∧
      (s.link.state = .active → s.link.timeoutRun + 1 < 8 →
        exec (.responseLimitExpiry w) s = .next (runGrown (failed expired .timeout)).attempt.choose) ∧
      (s.link.state = .active → 8 ≤ s.link.timeoutRun + 1 →
        exec (.responseLimitExpiry w) s = .next (linkLost (failed expired .timeout)).attempt.choose)) ∧
    (x.strikes + 1 < d.strikeLimit → s.link.state = .active → 8 ≤ s.link.timeoutRun + 1 →
      exec (.responseLimitExpiry w) s = .next (linkLost (struck expired .timeout)).choose)

/-- A transmission ends: the packet has left, its SENDING exchange is AWAITING with a response timer started from 0
under the limit in force and stamped by the model's count of timers started (log 20), a FREE link's keep-alive timer
starts again, and a choice is made (R86, R88, R121, R130). A NAK interval ends, the rest of its time having passed for
the whole part (log 1): a BACKOFF exchange is READY, and a choice is made (R97, R110). -/
def Obligations.TransmissionAndBackoffEnd : Prop :=
  (∀ (s : State) (p : Packet), s.arb.transmitter = some p →
    let base : State := { s with
      arb := { s.arb with transmitter := none
                          keepAliveTimer := if s.link.state = .active ∧ s.arb.mode = .free then some 0
                                            else s.arb.keepAliveTimer }
      out := { s.out with sent := s.out.sent ++ [p] } }
    (∀ (w : WinId) (x : Exchange), p.window = some w → (s.win w).exchange = some x → x.state = .sending →
      exec .transmissionEnd s = .next (State.choose
        { base.setWin w { s.win w with
            exchange := some { x with state := .awaiting 0 s.eng.responseLimit s.eng.timerStarts } } with
          eng := { s.eng with timerStarts := s.eng.timerStarts + 1 } })) ∧
    ((p.window = none ∨ ∃ w, p.window = some w ∧ (s.win w).exchange.map (·.state) ≠ some .sending) →
      exec .transmissionEnd s = .next base.choose)) ∧
  (∀ (s : State) (w : WinId) (x : Exchange) (d : Definition) (e : Nat), (s.win w).exchange = some x →
    (s.win w).defn = some d → x.state = .backoff e → e ≤ d.nakInterval →
    let n := d.nakInterval - e
    let y := { x with
      state := .ready
      nakUsed := if s.link.state = .active ∧ (s.win w).state ≠ .held then min 65535 (x.nakUsed + n) else x.nakUsed }
    exec (.nakIntervalEnd w) s = .next ((s.elapse n).setWin w { s.win w with exchange := some y }).choose)

/-! ### Cycles, timers and the link -/

/-- A cycle start, the rest of the cycle timer's time having passed for the whole part (log 1): the count grows, the CYCLE
marker with the new count is sent or pending, the timer starts again with the length in force, every PERIODIC budget is
refilled, LATE grows and is raised for every PERIODIC window whose head was marked, and every such head is marked; nothing
else of a window changes but its exchange's running timers (R121, R125, R129). -/
def Obligations.CycleStarts : Prop :=
  ∀ (s : State) (c : CycleTimer), s.arb.cycleTimer = some c →
    let b := s.elapse (c.length - c.elapsed)
    exec .cycleStart s = .next (markerSent (cycleStarted b) (.cycle (s.arb.cycleCount + 1))) ∧
    ∃ t, exec .cycleStart s = .next t ∧
      t.arb.cycleCount = s.arb.cycleCount + 1 ∧ t.arb.cycleTimer = some ⟨0, s.arb.cycleLength⟩ ∧
      (s.arb.transmitter = none →
        t.arb.transmitter = some (.cycle (s.arb.cycleCount + 1)) ∧ t.arb.marker = none) ∧
      (s.arb.transmitter.isSome = true →
        t.arb.transmitter = s.arb.transmitter ∧ t.arb.marker = some (.cycle (s.arb.cycleCount + 1))) ∧
      (∀ (w : WinId) (d : Definition) (b : Nat), (s.win w).defn = some d → d.cls = .periodic b →
        (t.win w).remaining = some b) ∧
      (∀ w : WinId, (t.win w).counters =
          (if s.isLate w = true then (s.win w).counters.grow .late 1 else (s.win w).counters) ∧
        (t.win w).pending =
          (if s.isLate w = true then (s.win w).pending ||| WindowKind.late.bit else (s.win w).pending)) ∧
      (∀ (w : WinId) (i : SlotId) (x : Transfer), (s.win w).isPeriodic = true → s.headOf w = some (i, x) →
        t.slot i = some { x with cycleMark := true }) ∧
      (∀ w : WinId, (t.win w).state = (s.win w).state ∧ (t.win w).defn = (s.win w).defn ∧
        (t.win w).queue = (s.win w).queue ∧ (t.win w).seqBit = (s.win w).seqBit ∧
        (t.win w).fault = (s.win w).fault ∧ (t.win w).pages = (s.win w).pages ∧
        (t.win w).exchange = (b.win w).exchange) ∧
      t.link.state = s.link.state ∧ t.cmd = s.cmd ∧ t.out = s.out ∧ t.staging = s.staging ∧ t.eng = s.eng

/-- The other timers of the link, the rest of their time having passed for the whole part (log 1): the keep-alive interval
makes an IDLE due; the probe timer a HELLO, unless the recovery limit is reached then (log 16); the recovery limit fails a
running ATTACH with NO_REPLY (R130, R137, R140). A marker that falls due is sent at once by a FREE transmitter. -/
def Obligations.LinkTimersExpire : Prop :=
  ∀ s : State,
    (∀ k, s.arb.keepAliveTimer = some k →
      let b := s.elapse (s.arb.keepAliveInterval * 1000 - k)
      exec .keepAliveExpiry s = .next (markerSent { b with arb := { b.arb with keepAliveTimer := none } } .idle)) ∧
    (∀ k, s.link.probeTimer = some k →
      let b := s.elapse (1000 - k)
      (b.link.recoveryDue = true → exec .probeTimerExpiry s = .next b) ∧
      (b.link.recoveryDue = false → exec .probeTimerExpiry s =
        .next (markerSent { b with link := { b.link with probeTimer := some 0 } } .hello))) ∧
    (∀ k, s.link.state = .probing → s.link.recoveryTimer = some k →
      ∃ t, exec .attachNoReply s = .next t ∧
        t.link = { s.link with state := .detached, capacity := 0, packetLimit := 0, timeoutRun := 0,
                               probeTimer := none, recoveryTimer := none } ∧
        t.arb.marker = none ∧ t.arb.cycleTimer = none ∧ t.arb.keepAliveTimer = none ∧
        (s.runsLong .attach = true →
          t.cmd = { s.cmd with long := { s.cmd.long with state := .failed, detail := .noReply } } ∧
          t.ev.devicePending = s.ev.devicePending ||| DeviceKind.commandDone.bit) ∧
        (∀ w, t.win w = (s.elapse (s.link.recoveryLimit * 1000 - k)).win w) ∧ t.slots = s.slots ∧ t.out = s.out)

/-- Recovery given up at the limit, the rest of the recovery timer's time having passed for the whole part (log 1): the
link is DETACHED with LINK_DOWN, and every window that may have an exchange is HALTED with cause LINK_LOST, its queue
ended; every other window is as that time leaves it (R13, R20, R147). In a state whose queues and slots fit together the
whole next state is given: each halted window's record with its fault record and its LOST_WRITES, DISCARDED and events,
the ERROR answers in window order (log 11) and queue order, the tags, the freed slots, the OPEN or FLUSH that ran for
one of them FAILED with LINK_LOST, and the attempt that follows (R25, R63, R114 to R116). -/
def Obligations.RecoveryGivenUp : Prop :=
  ∀ (s : State) (k : Nat), s.link.state = .recovering → s.link.recoveryTimer = some k →
    let b := s.elapse (s.link.recoveryLimit * 1000 - k)
    (TransferLaw s → exec .recoveryLimitExpiry s = .next (recoveryGivenUp b)) ∧
    ∃ t, exec .recoveryLimitExpiry s = .next t ∧
      t.link = { s.link with state := .detached, capacity := 0, packetLimit := 0, timeoutRun := 0,
                             probeTimer := none, recoveryTimer := none } ∧
      t.ev.devicePending &&& DeviceKind.linkDown.bit ≠ 0 ∧
      (∀ w : WinId, (s.win w).state.live = true →
        (t.win w).state = .halted ∧ (t.win w).queue = [] ∧ (t.win w).exchange = none ∧
        (t.win w).fault.map (·.cause) = some .linkLost ∧ (t.win w).seqBit = (s.win w).seqBit ∧
        (t.win w).pages = (s.win w).pages ∧ (t.win w).defn = (s.win w).defn) ∧
      (∀ w : WinId, (s.win w).state.live = false → t.win w = b.win w)

/-- An accepted HELLO_REPLY. While PROBING: ACTIVE with the reply's values, LINK_UP, ATTACH DONE, a cycle or the
keep-alive timer started (R138, R139). While RECOVERING: ACTIVE with the reply's values; a fresh module halts every
window with a queue or a possible queue (MODULE_RESET), a window out of the new bounds halts (FAR_RANGE), and every
other window keeps its state (R145, R146). In a state whose queues and slots fit together the whole next state is given:
the records, answers (log 11), tags and slots of the halted windows, the OPEN or FLUSH that ran for one of them FAILED
with the cause (R63, R114 to R116), the cycle or keep-alive start, the attempt after a halt, the head-at-cycle-start
mark on every head of a PERIODIC window as the whole step leaves them (R124, R125, R129, R130, R145), and the choice.
That the attempt stands before the choice is the model's choice (log 3), and that a head which the attempt makes is
marked with the others is the model's reading (log 4). -/
def Obligations.HelloReplyAccepted : Prop :=
  ∀ (s : State) (c : BitVec 32) (l : BitVec 16) (fresh : Bool),
    1 ≤ c.toNat → c.toNat ≤ 4194304 → 32 ≤ l.toNat → l.toNat ≤ 256 →
    let active := { s.link with state := .active, capacity := c.toNat, packetLimit := l.toNat, timeoutRun := 0,
                                probeTimer := none, recoveryTimer := none }
    (s.link.state = .probing →
      ∃ t, exec (.helloReplyReceived c l fresh) s = .next t ∧ t.link = active ∧
        t.ev.devicePending &&& DeviceKind.linkUp.bit ≠ 0 ∧
        (s.runsLong .attach = true →
          t.cmd = { s.cmd with long := { s.cmd.long with state := .done, detail := .none } } ∧
          t.ev.devicePending &&& DeviceKind.commandDone.bit ≠ 0) ∧
        (s.arb.mode = .cycled → t.arb.cycleCount = s.arb.cycleCount + 1 ∧
          t.arb.cycleTimer = some ⟨0, s.arb.cycleLength⟩) ∧
        (s.arb.mode = .free → t.arb.cycleTimer = none ∧ t.arb.keepAliveTimer = some 0) ∧
        (∀ w : WinId, (t.win w).state = (s.win w).state ∧ (t.win w).defn = (s.win w).defn ∧
          (t.win w).queue = (s.win w).queue ∧ (t.win w).seqBit = (s.win w).seqBit) ∧ t.acc = s.acc ∧ t.out = s.out) ∧
    (s.link.state = .recovering → TransferLaw s →
      let cause := fun (w : WinId) =>
        if fresh = true ∧ (s.win w).state ∈ [.opened, .held, .fenced, .closing] then some FaultCause.moduleReset
        else if (s.win w).state ∈ [.syncing, .opened, .held, .fenced, .closing] ∧
            (s.win w).defn.any (fun d => c.toNat < (d.farBase.toNat + d.size) / 1024 || l.toNat < d.packetSize) = true
          then some FaultCause.farRange
        else none
      let back := State.raiseDevice { s with
        link := active
        arb := { s.arb with cycleTimer := none, keepAliveTimer := none, marker := none } } .recovered
      let halted := haltedTogether back cause
      let tried := fun (b : State) => if allWindows.any fun w => (cause w).isSome then b.attempt else b
      exec (.helloReplyReceived c l fresh) s = .next (match s.arb.mode with
        | .cycled => (headsMarked (tried (cycleStarted halted))).choose
        | .free => (tried { halted with arb := { halted.arb with keepAliveTimer := some 0 } }).choose)) ∧
    (s.link.state = .recovering →
      ∃ t, exec (.helloReplyReceived c l fresh) s = .next t ∧ t.link = active ∧
        t.ev.devicePending &&& DeviceKind.recovered.bit ≠ 0 ∧
        (∀ (w : WinId) (d : Definition), (s.win w).state.live = true → (s.win w).defn = some d →
          let resets := fresh = true ∧ (s.win w).state ≠ .syncing
          let outside := c.toNat < (d.farBase.toNat + d.size) / 1024 ∨ l.toNat < d.packetSize
          (resets → (t.win w).state = .halted ∧ (t.win w).fault.map (·.cause) = some .moduleReset) ∧
          (¬resets → outside → (t.win w).state = .halted ∧ (t.win w).fault.map (·.cause) = some .farRange) ∧
          (¬resets → ¬outside → (t.win w).state = (s.win w).state ∧ (t.win w).fault = (s.win w).fault)) ∧
        (∀ w : WinId, (s.win w).state.live = false → (t.win w).state = (s.win w).state ∧
          (t.win w).fault = (s.win w).fault) ∧
        (∀ w : WinId, (t.win w).defn = (s.win w).defn ∧ (t.win w).pages = (s.win w).pages ∧
          (t.win w).seqBit = (s.win w).seqBit))

/-- SIGNAL_PRESENT only sets the condition, and so does LOSS_OF_SIGNAL outside ACTIVE. In ACTIVE the link is lost: it is
RECOVERING with both timers started, RECOVERIES and the event, every SENDING or AWAITING exchange rewound to READY and
the rest of each window kept, the arbiter's timers stopped and a HELLO sent or pending (R143, R144). -/
def Obligations.SignalReports : Prop :=
  ∀ s : State,
    exec .signalPresent s = .next { s with link := { s.link with signalPresent := true } } ∧
    (s.link.state ≠ .active →
      exec .lossOfSignal s = .next { s with link := { s.link with signalPresent := false } }) ∧
    (s.link.state = .active → ∃ t, exec .lossOfSignal s = .next t ∧
      t.link = { s.link with state := .recovering, signalPresent := false, timeoutRun := 0, probeTimer := some 0
                             recoveryTimer := some 0 } ∧
      (∀ w : WinId, t.win w = { s.win w with exchange := (s.win w).exchange.map fun x =>
        { x with state := match x.state with
          | .backoff e => .backoff e
          | .ready | .sending | .awaiting _ _ _ => .ready } }) ∧
      t.arb = { s.arb with
        cycleTimer := none, keepAliveTimer := none
        marker := if s.arb.transmitter = none then none else some .hello
        transmitter := if s.arb.transmitter = none then some .hello else s.arb.transmitter } ∧
      t.ev.counters = s.ev.counters.grow .recoveries 1 ∧
      t.ev.devicePending = s.ev.devicePending ||| DeviceKind.recovering.bit ∧
      t.slots = s.slots ∧ t.staging = s.staging ∧ t.acc = s.acc ∧ t.eng = s.eng ∧ t.cmd = s.cmd ∧ t.out = s.out)

/-! ### The far module -/

/-- A far module that keeps its duties writes a resent WRITE once: whatever stood before, a second sending of a packet
whose first sending it acknowledged leaves its memory as the first left it (R90, R91). -/
def Obligations.ResentWriteWrittenOnce : Prop :=
  ∀ (m m₁ m₂ : FarModule) (w : WinId) (bit : Bool) (far : FarAddr) (data : List Byte),
    Answers true m (.write w bit far data) (some (.ack w bit false)) m₁ →
    Answers true m₁ (.write w bit far data) (some (.ack w bit false)) m₂ → m₂ = m₁

/-! ### Laws that every step keeps -/

/-- Every law of Safety.lean holds of the state after a reset. -/
def Obligations.LawsHoldAtReset : Prop :=
  AttnLaw State.reset ∧ FaultLaw State.reset ∧ DefinedLaw State.reset ∧ OverlapLaw State.reset ∧
    BoundsLaw State.reset ∧ LiveLinkLaw State.reset ∧ ExchangeLaw State.reset ∧ BudgetLaw State.reset ∧
    ModeLaw State.reset ∧ SendingLaw State.reset ∧ ProbeLaw State.reset ∧ SyncLaw State.reset ∧
    TransferLaw State.reset ∧ TagLaw State.reset ∧ HeadLaw State.reset ∧ NakLaw State.reset ∧ TimerLaw State.reset ∧
    IdleLaw State.reset ∧ SettledLaw State.reset

/-- R167: ATTN has the level of the law after every step. R32, R68, R132, R142, R148 and section 9.4: the parameters,
counts and pages stay in their ranges. -/
def Obligations.AttnAndBoundsAreKept : Prop := Kept AttnLaw ∧ Kept BoundsLaw

/-- R21, R83 and section 1.1: a window has a fault record exactly when HALTED, a definition exactly outside UNUSED, and
an exchange only as R83 allows. R3: no address lies in the ranges of two windows that are not UNUSED. -/
def Obligations.WindowRecordsAndRangesFit : Prop :=
  Kept (fun s => ExchangeLaw s ∧ FaultLaw s ∧ DefinedLaw s) ∧ Kept (fun s => ExchangeLaw s ∧ OverlapLaw s)

/-- R135, R136 and R11 to R13: a window in service has a link that is ACTIVE or RECOVERING; the link is PROBING exactly
while ATTACH runs; a window is SYNCING exactly while OPEN runs for it. Kept together with R83, which lets only a window in
service have an exchange. -/
def Obligations.LinkAndLongCommandsAgree : Prop := Kept fun s => ExchangeLaw s ∧ LiveLinkLaw s ∧ ProbeLaw s ∧ SyncLaw s

/-- R126 and R128: a remaining budget exists exactly for a PERIODIC definition and never passes its budget, and in FREE
mode no PERIODIC window is in service. R111: no exchange accrues more NAK time than its window's limit. -/
def Obligations.BudgetsModeAndNakTimeAgree : Prop :=
  Kept (fun s => ExchangeLaw s ∧ BudgetLaw s ∧ ModeLaw s) ∧ Kept (fun s => ExchangeLaw s ∧ NakLaw s)

/-- R121, R122: an exchange that is SENDING is the one in the transmitter; and while the transmitter is FREE no marker is
pending, and no exchange is eligible (R85) in a STRICT or POSTED window, or in a PERIODIC window whose budget it fits. -/
def Obligations.TransmitterNeverIdlesWithACandidate : Prop := Kept fun s => SendingLaw s ∧ IdleLaw s

/-- R25: after every step the presented request waits for exactly what an attempt would find. That the attempt is made
inside the step of the row that causes it is the model's reading of R25 (log 4). -/
def Obligations.RequestNeverWaitsNeedlessly : Prop := Kept SettledLaw

/-- R8, R44 to R47 and R72: the slots, the queues and the reservations fit together. -/
def Obligations.QueuesSlotsAndStagingAgree : Prop := Kept TransferLaw

/-- R29 and R32: the tag order table and the downstream count say what is outstanding. -/
def Obligations.TagTableTellsWhatIsOutstanding : Prop := Kept fun s => TransferLaw s ∧ TagLaw s

/-- R36, R47, R49, R84 and R105: a WRITE or READ exchange is the head's packet at bytes done with the window's sequence
bit, and the progress of every transfer stays within its size. -/
def Obligations.ExchangeIsTheHeadsPacket : Prop := Kept fun s => TransferLaw s ∧ ExchangeLaw s ∧ HeadLaw s

/-- R123, R124, R130, R137: which timers run, and which marker may be pending, in each link state and mode. -/
def Obligations.TimersFitTheLinkState : Prop := Kept TimerLaw

end
end

