-- ==== Sys2Proof/Laws/State.lean ====
section
/-! SUPPORT. What each update of the state leaves as it was: one lemma per field per update, and the same for the
accessors of windows, slots, reservations and tags. Each is true by unfolding the update once. -/

namespace Sys2Proof.Machine

variable (s : State)

/-! ### setWin -/

@[simp] theorem State.setWin_slots (w : WinId) (x : Window) : (s.setWin w x).slots = s.slots := rfl
@[simp] theorem State.setWin_staging (w : WinId) (x : Window) : (s.setWin w x).staging = s.staging := rfl
@[simp] theorem State.setWin_acc (w : WinId) (x : Window) : (s.setWin w x).acc = s.acc := rfl
@[simp] theorem State.setWin_eng (w : WinId) (x : Window) : (s.setWin w x).eng = s.eng := rfl
@[simp] theorem State.setWin_arb (w : WinId) (x : Window) : (s.setWin w x).arb = s.arb := rfl
@[simp] theorem State.setWin_link (w : WinId) (x : Window) : (s.setWin w x).link = s.link := rfl
@[simp] theorem State.setWin_cmd (w : WinId) (x : Window) : (s.setWin w x).cmd = s.cmd := rfl
@[simp] theorem State.setWin_ev (w : WinId) (x : Window) : (s.setWin w x).ev = s.ev := rfl
@[simp] theorem State.setWin_out (w : WinId) (x : Window) : (s.setWin w x).out = s.out := rfl
@[simp] theorem State.setWin_freeUses (w : WinId) (x : Window) : (s.setWin w x).freeUses = s.freeUses := rfl
@[simp] theorem State.setWin_pending (w : WinId) (x : Window) : (s.setWin w x).pending = s.pending := rfl
@[simp] theorem State.setWin_slot (w : WinId) (x : Window) (j : SlotId) :
    (s.setWin w x).slot j = s.slot j := rfl
@[simp] theorem State.setWin_reservation (w : WinId) (x : Window) (j : SlotId) :
    (s.setWin w x).reservation j = s.reservation j := rfl
@[simp] theorem State.setWin_tagEntry (w : WinId) (x : Window) (u : Tag) :
    (s.setWin w x).tagEntry u = s.tagEntry u := rfl

/-! ### modWin -/

@[simp] theorem State.modWin_slots (w : WinId) (f : Window → Window) : (s.modWin w f).slots = s.slots := rfl
@[simp] theorem State.modWin_staging (w : WinId) (f : Window → Window) : (s.modWin w f).staging = s.staging := rfl
@[simp] theorem State.modWin_acc (w : WinId) (f : Window → Window) : (s.modWin w f).acc = s.acc := rfl
@[simp] theorem State.modWin_eng (w : WinId) (f : Window → Window) : (s.modWin w f).eng = s.eng := rfl
@[simp] theorem State.modWin_arb (w : WinId) (f : Window → Window) : (s.modWin w f).arb = s.arb := rfl
@[simp] theorem State.modWin_link (w : WinId) (f : Window → Window) : (s.modWin w f).link = s.link := rfl
@[simp] theorem State.modWin_cmd (w : WinId) (f : Window → Window) : (s.modWin w f).cmd = s.cmd := rfl
@[simp] theorem State.modWin_ev (w : WinId) (f : Window → Window) : (s.modWin w f).ev = s.ev := rfl
@[simp] theorem State.modWin_out (w : WinId) (f : Window → Window) : (s.modWin w f).out = s.out := rfl
@[simp] theorem State.modWin_freeUses (w : WinId) (f : Window → Window) : (s.modWin w f).freeUses = s.freeUses := rfl
@[simp] theorem State.modWin_pending (w : WinId) (f : Window → Window) : (s.modWin w f).pending = s.pending := rfl
@[simp] theorem State.modWin_slot (w : WinId) (f : Window → Window) (j : SlotId) :
    (s.modWin w f).slot j = s.slot j := rfl
@[simp] theorem State.modWin_reservation (w : WinId) (f : Window → Window) (j : SlotId) :
    (s.modWin w f).reservation j = s.reservation j := rfl
@[simp] theorem State.modWin_tagEntry (w : WinId) (f : Window → Window) (u : Tag) :
    (s.modWin w f).tagEntry u = s.tagEntry u := rfl

/-! ### mapWins -/

@[simp] theorem State.mapWins_slots (f : WinId → Window → Window) : (s.mapWins f).slots = s.slots := rfl
@[simp] theorem State.mapWins_staging (f : WinId → Window → Window) : (s.mapWins f).staging = s.staging := rfl
@[simp] theorem State.mapWins_acc (f : WinId → Window → Window) : (s.mapWins f).acc = s.acc := rfl
@[simp] theorem State.mapWins_eng (f : WinId → Window → Window) : (s.mapWins f).eng = s.eng := rfl
@[simp] theorem State.mapWins_arb (f : WinId → Window → Window) : (s.mapWins f).arb = s.arb := rfl
@[simp] theorem State.mapWins_link (f : WinId → Window → Window) : (s.mapWins f).link = s.link := rfl
@[simp] theorem State.mapWins_cmd (f : WinId → Window → Window) : (s.mapWins f).cmd = s.cmd := rfl
@[simp] theorem State.mapWins_ev (f : WinId → Window → Window) : (s.mapWins f).ev = s.ev := rfl
@[simp] theorem State.mapWins_out (f : WinId → Window → Window) : (s.mapWins f).out = s.out := rfl
@[simp] theorem State.mapWins_freeUses (f : WinId → Window → Window) : (s.mapWins f).freeUses = s.freeUses := rfl
@[simp] theorem State.mapWins_pending (f : WinId → Window → Window) : (s.mapWins f).pending = s.pending := rfl
@[simp] theorem State.mapWins_slot (f : WinId → Window → Window) (j : SlotId) :
    (s.mapWins f).slot j = s.slot j := rfl
@[simp] theorem State.mapWins_reservation (f : WinId → Window → Window) (j : SlotId) :
    (s.mapWins f).reservation j = s.reservation j := rfl
@[simp] theorem State.mapWins_tagEntry (f : WinId → Window → Window) (u : Tag) :
    (s.mapWins f).tagEntry u = s.tagEntry u := rfl

/-! ### clearWindows -/

@[simp] theorem State.clearWindows_slots : (s.clearWindows).slots = s.slots := rfl
@[simp] theorem State.clearWindows_staging : (s.clearWindows).staging = s.staging := rfl
@[simp] theorem State.clearWindows_acc : (s.clearWindows).acc = s.acc := rfl
@[simp] theorem State.clearWindows_eng : (s.clearWindows).eng = s.eng := rfl
@[simp] theorem State.clearWindows_arb : (s.clearWindows).arb = s.arb := rfl
@[simp] theorem State.clearWindows_link : (s.clearWindows).link = s.link := rfl
@[simp] theorem State.clearWindows_cmd : (s.clearWindows).cmd = s.cmd := rfl
@[simp] theorem State.clearWindows_ev : (s.clearWindows).ev = s.ev := rfl
@[simp] theorem State.clearWindows_out : (s.clearWindows).out = s.out := rfl
@[simp] theorem State.clearWindows_freeUses : (s.clearWindows).freeUses = s.freeUses := rfl
@[simp] theorem State.clearWindows_pending : (s.clearWindows).pending = s.pending := rfl
@[simp] theorem State.clearWindows_slot (j : SlotId) :
    (s.clearWindows).slot j = s.slot j := rfl
@[simp] theorem State.clearWindows_reservation (j : SlotId) :
    (s.clearWindows).reservation j = s.reservation j := rfl
@[simp] theorem State.clearWindows_tagEntry (u : Tag) :
    (s.clearWindows).tagEntry u = s.tagEntry u := rfl

/-! ### enter -/

@[simp] theorem State.enter_slots (w : WinId) (x : WindowState) : (s.enter w x).slots = s.slots := rfl
@[simp] theorem State.enter_staging (w : WinId) (x : WindowState) : (s.enter w x).staging = s.staging := rfl
@[simp] theorem State.enter_acc (w : WinId) (x : WindowState) : (s.enter w x).acc = s.acc := rfl
@[simp] theorem State.enter_eng (w : WinId) (x : WindowState) : (s.enter w x).eng = s.eng := rfl
@[simp] theorem State.enter_arb (w : WinId) (x : WindowState) : (s.enter w x).arb = s.arb := rfl
@[simp] theorem State.enter_link (w : WinId) (x : WindowState) : (s.enter w x).link = s.link := rfl
@[simp] theorem State.enter_cmd (w : WinId) (x : WindowState) : (s.enter w x).cmd = s.cmd := rfl
@[simp] theorem State.enter_ev (w : WinId) (x : WindowState) : (s.enter w x).ev = s.ev := rfl
@[simp] theorem State.enter_out (w : WinId) (x : WindowState) : (s.enter w x).out = s.out := rfl
@[simp] theorem State.enter_freeUses (w : WinId) (x : WindowState) : (s.enter w x).freeUses = s.freeUses := rfl
@[simp] theorem State.enter_pending (w : WinId) (x : WindowState) : (s.enter w x).pending = s.pending := rfl
@[simp] theorem State.enter_slot (w : WinId) (x : WindowState) (j : SlotId) :
    (s.enter w x).slot j = s.slot j := rfl
@[simp] theorem State.enter_reservation (w : WinId) (x : WindowState) (j : SlotId) :
    (s.enter w x).reservation j = s.reservation j := rfl
@[simp] theorem State.enter_tagEntry (w : WinId) (x : WindowState) (u : Tag) :
    (s.enter w x).tagEntry u = s.tagEntry u := rfl

/-! ### settleExchange -/

@[simp] theorem State.settleExchange_slots (w : WinId) : (s.settleExchange w).slots = s.slots := rfl
@[simp] theorem State.settleExchange_staging (w : WinId) : (s.settleExchange w).staging = s.staging := rfl
@[simp] theorem State.settleExchange_acc (w : WinId) : (s.settleExchange w).acc = s.acc := rfl
@[simp] theorem State.settleExchange_eng (w : WinId) : (s.settleExchange w).eng = s.eng := rfl
@[simp] theorem State.settleExchange_arb (w : WinId) : (s.settleExchange w).arb = s.arb := rfl
@[simp] theorem State.settleExchange_link (w : WinId) : (s.settleExchange w).link = s.link := rfl
@[simp] theorem State.settleExchange_cmd (w : WinId) : (s.settleExchange w).cmd = s.cmd := rfl
@[simp] theorem State.settleExchange_ev (w : WinId) : (s.settleExchange w).ev = s.ev := rfl
@[simp] theorem State.settleExchange_out (w : WinId) : (s.settleExchange w).out = s.out := rfl
@[simp] theorem State.settleExchange_freeUses (w : WinId) : (s.settleExchange w).freeUses = s.freeUses := rfl
@[simp] theorem State.settleExchange_pending (w : WinId) : (s.settleExchange w).pending = s.pending := rfl
@[simp] theorem State.settleExchange_slot (w : WinId) (j : SlotId) :
    (s.settleExchange w).slot j = s.slot j := rfl
@[simp] theorem State.settleExchange_reservation (w : WinId) (j : SlotId) :
    (s.settleExchange w).reservation j = s.reservation j := rfl
@[simp] theorem State.settleExchange_tagEntry (w : WinId) (u : Tag) :
    (s.settleExchange w).tagEntry u = s.tagEntry u := rfl

/-! ### countWindow -/

@[simp] theorem State.countWindow_slots (w : WinId) (k : WindowCounter) (n : Nat) : (s.countWindow w k n).slots = s.slots := rfl
@[simp] theorem State.countWindow_staging (w : WinId) (k : WindowCounter) (n : Nat) : (s.countWindow w k n).staging = s.staging := rfl
@[simp] theorem State.countWindow_acc (w : WinId) (k : WindowCounter) (n : Nat) : (s.countWindow w k n).acc = s.acc := rfl
@[simp] theorem State.countWindow_eng (w : WinId) (k : WindowCounter) (n : Nat) : (s.countWindow w k n).eng = s.eng := rfl
@[simp] theorem State.countWindow_arb (w : WinId) (k : WindowCounter) (n : Nat) : (s.countWindow w k n).arb = s.arb := rfl
@[simp] theorem State.countWindow_link (w : WinId) (k : WindowCounter) (n : Nat) : (s.countWindow w k n).link = s.link := rfl
@[simp] theorem State.countWindow_cmd (w : WinId) (k : WindowCounter) (n : Nat) : (s.countWindow w k n).cmd = s.cmd := rfl
@[simp] theorem State.countWindow_ev (w : WinId) (k : WindowCounter) (n : Nat) : (s.countWindow w k n).ev = s.ev := rfl
@[simp] theorem State.countWindow_out (w : WinId) (k : WindowCounter) (n : Nat) : (s.countWindow w k n).out = s.out := rfl
@[simp] theorem State.countWindow_freeUses (w : WinId) (k : WindowCounter) (n : Nat) : (s.countWindow w k n).freeUses = s.freeUses := rfl
@[simp] theorem State.countWindow_pending (w : WinId) (k : WindowCounter) (n : Nat) : (s.countWindow w k n).pending = s.pending := rfl
@[simp] theorem State.countWindow_slot (w : WinId) (k : WindowCounter) (n : Nat) (j : SlotId) :
    (s.countWindow w k n).slot j = s.slot j := rfl
@[simp] theorem State.countWindow_reservation (w : WinId) (k : WindowCounter) (n : Nat) (j : SlotId) :
    (s.countWindow w k n).reservation j = s.reservation j := rfl
@[simp] theorem State.countWindow_tagEntry (w : WinId) (k : WindowCounter) (n : Nat) (u : Tag) :
    (s.countWindow w k n).tagEntry u = s.tagEntry u := rfl

/-! ### setSlot -/

@[simp] theorem State.setSlot_windows (i : SlotId) (t : Option Transfer) : (s.setSlot i t).windows = s.windows := rfl
@[simp] theorem State.setSlot_staging (i : SlotId) (t : Option Transfer) : (s.setSlot i t).staging = s.staging := rfl
@[simp] theorem State.setSlot_acc (i : SlotId) (t : Option Transfer) : (s.setSlot i t).acc = s.acc := rfl
@[simp] theorem State.setSlot_eng (i : SlotId) (t : Option Transfer) : (s.setSlot i t).eng = s.eng := rfl
@[simp] theorem State.setSlot_arb (i : SlotId) (t : Option Transfer) : (s.setSlot i t).arb = s.arb := rfl
@[simp] theorem State.setSlot_link (i : SlotId) (t : Option Transfer) : (s.setSlot i t).link = s.link := rfl
@[simp] theorem State.setSlot_cmd (i : SlotId) (t : Option Transfer) : (s.setSlot i t).cmd = s.cmd := rfl
@[simp] theorem State.setSlot_ev (i : SlotId) (t : Option Transfer) : (s.setSlot i t).ev = s.ev := rfl
@[simp] theorem State.setSlot_out (i : SlotId) (t : Option Transfer) : (s.setSlot i t).out = s.out := rfl
@[simp] theorem State.setSlot_freeUses (i : SlotId) (t : Option Transfer) : (s.setSlot i t).freeUses = s.freeUses := rfl
@[simp] theorem State.setSlot_pending (i : SlotId) (t : Option Transfer) : (s.setSlot i t).pending = s.pending := rfl
@[simp] theorem State.setSlot_win (i : SlotId) (t : Option Transfer) (v : WinId) :
    (s.setSlot i t).win v = s.win v := rfl
@[simp] theorem State.setSlot_reservation (i : SlotId) (t : Option Transfer) (j : SlotId) :
    (s.setSlot i t).reservation j = s.reservation j := rfl
@[simp] theorem State.setSlot_tagEntry (i : SlotId) (t : Option Transfer) (u : Tag) :
    (s.setSlot i t).tagEntry u = s.tagEntry u := rfl

/-! ### modSlot -/

@[simp] theorem State.modSlot_windows (i : SlotId) (f : Transfer → Transfer) : (s.modSlot i f).windows = s.windows := rfl
@[simp] theorem State.modSlot_staging (i : SlotId) (f : Transfer → Transfer) : (s.modSlot i f).staging = s.staging := rfl
@[simp] theorem State.modSlot_acc (i : SlotId) (f : Transfer → Transfer) : (s.modSlot i f).acc = s.acc := rfl
@[simp] theorem State.modSlot_eng (i : SlotId) (f : Transfer → Transfer) : (s.modSlot i f).eng = s.eng := rfl
@[simp] theorem State.modSlot_arb (i : SlotId) (f : Transfer → Transfer) : (s.modSlot i f).arb = s.arb := rfl
@[simp] theorem State.modSlot_link (i : SlotId) (f : Transfer → Transfer) : (s.modSlot i f).link = s.link := rfl
@[simp] theorem State.modSlot_cmd (i : SlotId) (f : Transfer → Transfer) : (s.modSlot i f).cmd = s.cmd := rfl
@[simp] theorem State.modSlot_ev (i : SlotId) (f : Transfer → Transfer) : (s.modSlot i f).ev = s.ev := rfl
@[simp] theorem State.modSlot_out (i : SlotId) (f : Transfer → Transfer) : (s.modSlot i f).out = s.out := rfl
@[simp] theorem State.modSlot_freeUses (i : SlotId) (f : Transfer → Transfer) : (s.modSlot i f).freeUses = s.freeUses := rfl
@[simp] theorem State.modSlot_pending (i : SlotId) (f : Transfer → Transfer) : (s.modSlot i f).pending = s.pending := rfl
@[simp] theorem State.modSlot_win (i : SlotId) (f : Transfer → Transfer) (v : WinId) :
    (s.modSlot i f).win v = s.win v := rfl
@[simp] theorem State.modSlot_reservation (i : SlotId) (f : Transfer → Transfer) (j : SlotId) :
    (s.modSlot i f).reservation j = s.reservation j := rfl
@[simp] theorem State.modSlot_tagEntry (i : SlotId) (f : Transfer → Transfer) (u : Tag) :
    (s.modSlot i f).tagEntry u = s.tagEntry u := rfl

/-! ### setReservation -/

@[simp] theorem State.setReservation_windows (i : SlotId) (bs : List Byte) : (s.setReservation i bs).windows = s.windows := rfl
@[simp] theorem State.setReservation_slots (i : SlotId) (bs : List Byte) : (s.setReservation i bs).slots = s.slots := rfl
@[simp] theorem State.setReservation_acc (i : SlotId) (bs : List Byte) : (s.setReservation i bs).acc = s.acc := rfl
@[simp] theorem State.setReservation_eng (i : SlotId) (bs : List Byte) : (s.setReservation i bs).eng = s.eng := rfl
@[simp] theorem State.setReservation_arb (i : SlotId) (bs : List Byte) : (s.setReservation i bs).arb = s.arb := rfl
@[simp] theorem State.setReservation_link (i : SlotId) (bs : List Byte) : (s.setReservation i bs).link = s.link := rfl
@[simp] theorem State.setReservation_cmd (i : SlotId) (bs : List Byte) : (s.setReservation i bs).cmd = s.cmd := rfl
@[simp] theorem State.setReservation_ev (i : SlotId) (bs : List Byte) : (s.setReservation i bs).ev = s.ev := rfl
@[simp] theorem State.setReservation_out (i : SlotId) (bs : List Byte) : (s.setReservation i bs).out = s.out := rfl
@[simp] theorem State.setReservation_freeUses (i : SlotId) (bs : List Byte) : (s.setReservation i bs).freeUses = s.freeUses := rfl
@[simp] theorem State.setReservation_pending (i : SlotId) (bs : List Byte) : (s.setReservation i bs).pending = s.pending := rfl
@[simp] theorem State.setReservation_win (i : SlotId) (bs : List Byte) (v : WinId) :
    (s.setReservation i bs).win v = s.win v := rfl
@[simp] theorem State.setReservation_slot (i : SlotId) (bs : List Byte) (j : SlotId) :
    (s.setReservation i bs).slot j = s.slot j := rfl
@[simp] theorem State.setReservation_tagEntry (i : SlotId) (bs : List Byte) (u : Tag) :
    (s.setReservation i bs).tagEntry u = s.tagEntry u := rfl

/-! ### freeSlot -/

@[simp] theorem State.freeSlot_windows (i : SlotId) : (s.freeSlot i).windows = s.windows := rfl
@[simp] theorem State.freeSlot_acc (i : SlotId) : (s.freeSlot i).acc = s.acc := rfl
@[simp] theorem State.freeSlot_eng (i : SlotId) : (s.freeSlot i).eng = s.eng := rfl
@[simp] theorem State.freeSlot_arb (i : SlotId) : (s.freeSlot i).arb = s.arb := rfl
@[simp] theorem State.freeSlot_link (i : SlotId) : (s.freeSlot i).link = s.link := rfl
@[simp] theorem State.freeSlot_cmd (i : SlotId) : (s.freeSlot i).cmd = s.cmd := rfl
@[simp] theorem State.freeSlot_ev (i : SlotId) : (s.freeSlot i).ev = s.ev := rfl
@[simp] theorem State.freeSlot_out (i : SlotId) : (s.freeSlot i).out = s.out := rfl
@[simp] theorem State.freeSlot_freeUses (i : SlotId) : (s.freeSlot i).freeUses = s.freeUses := rfl
@[simp] theorem State.freeSlot_pending (i : SlotId) : (s.freeSlot i).pending = s.pending := rfl
@[simp] theorem State.freeSlot_win (i : SlotId) (v : WinId) :
    (s.freeSlot i).win v = s.win v := rfl
@[simp] theorem State.freeSlot_tagEntry (i : SlotId) (u : Tag) :
    (s.freeSlot i).tagEntry u = s.tagEntry u := rfl

/-! ### clearSlots -/

@[simp] theorem State.clearSlots_windows : (s.clearSlots).windows = s.windows := rfl
@[simp] theorem State.clearSlots_acc : (s.clearSlots).acc = s.acc := rfl
@[simp] theorem State.clearSlots_eng : (s.clearSlots).eng = s.eng := rfl
@[simp] theorem State.clearSlots_arb : (s.clearSlots).arb = s.arb := rfl
@[simp] theorem State.clearSlots_link : (s.clearSlots).link = s.link := rfl
@[simp] theorem State.clearSlots_cmd : (s.clearSlots).cmd = s.cmd := rfl
@[simp] theorem State.clearSlots_ev : (s.clearSlots).ev = s.ev := rfl
@[simp] theorem State.clearSlots_out : (s.clearSlots).out = s.out := rfl
@[simp] theorem State.clearSlots_freeUses : (s.clearSlots).freeUses = s.freeUses := rfl
@[simp] theorem State.clearSlots_pending : (s.clearSlots).pending = s.pending := rfl
@[simp] theorem State.clearSlots_win (v : WinId) :
    (s.clearSlots).win v = s.win v := rfl
@[simp] theorem State.clearSlots_tagEntry (u : Tag) :
    (s.clearSlots).tagEntry u = s.tagEntry u := rfl

/-! ### setTag -/

@[simp] theorem State.setTag_windows (t : Tag) (e : TagEntry) : (s.setTag t e).windows = s.windows := rfl
@[simp] theorem State.setTag_slots (t : Tag) (e : TagEntry) : (s.setTag t e).slots = s.slots := rfl
@[simp] theorem State.setTag_staging (t : Tag) (e : TagEntry) : (s.setTag t e).staging = s.staging := rfl
@[simp] theorem State.setTag_eng (t : Tag) (e : TagEntry) : (s.setTag t e).eng = s.eng := rfl
@[simp] theorem State.setTag_arb (t : Tag) (e : TagEntry) : (s.setTag t e).arb = s.arb := rfl
@[simp] theorem State.setTag_link (t : Tag) (e : TagEntry) : (s.setTag t e).link = s.link := rfl
@[simp] theorem State.setTag_cmd (t : Tag) (e : TagEntry) : (s.setTag t e).cmd = s.cmd := rfl
@[simp] theorem State.setTag_ev (t : Tag) (e : TagEntry) : (s.setTag t e).ev = s.ev := rfl
@[simp] theorem State.setTag_out (t : Tag) (e : TagEntry) : (s.setTag t e).out = s.out := rfl
@[simp] theorem State.setTag_freeUses (t : Tag) (e : TagEntry) : (s.setTag t e).freeUses = s.freeUses := rfl
@[simp] theorem State.setTag_pending (t : Tag) (e : TagEntry) : (s.setTag t e).pending = s.pending := rfl
@[simp] theorem State.setTag_win (t : Tag) (e : TagEntry) (v : WinId) :
    (s.setTag t e).win v = s.win v := rfl
@[simp] theorem State.setTag_slot (t : Tag) (e : TagEntry) (j : SlotId) :
    (s.setTag t e).slot j = s.slot j := rfl
@[simp] theorem State.setTag_reservation (t : Tag) (e : TagEntry) (j : SlotId) :
    (s.setTag t e).reservation j = s.reservation j := rfl

/-! ### tagRises -/

@[simp] theorem State.tagRises_windows (t : Tag) (d : TagDest) : (s.tagRises t d).windows = s.windows := rfl
@[simp] theorem State.tagRises_slots (t : Tag) (d : TagDest) : (s.tagRises t d).slots = s.slots := rfl
@[simp] theorem State.tagRises_staging (t : Tag) (d : TagDest) : (s.tagRises t d).staging = s.staging := rfl
@[simp] theorem State.tagRises_eng (t : Tag) (d : TagDest) : (s.tagRises t d).eng = s.eng := rfl
@[simp] theorem State.tagRises_arb (t : Tag) (d : TagDest) : (s.tagRises t d).arb = s.arb := rfl
@[simp] theorem State.tagRises_link (t : Tag) (d : TagDest) : (s.tagRises t d).link = s.link := rfl
@[simp] theorem State.tagRises_cmd (t : Tag) (d : TagDest) : (s.tagRises t d).cmd = s.cmd := rfl
@[simp] theorem State.tagRises_ev (t : Tag) (d : TagDest) : (s.tagRises t d).ev = s.ev := rfl
@[simp] theorem State.tagRises_out (t : Tag) (d : TagDest) : (s.tagRises t d).out = s.out := rfl
@[simp] theorem State.tagRises_freeUses (t : Tag) (d : TagDest) : (s.tagRises t d).freeUses = s.freeUses := rfl
@[simp] theorem State.tagRises_pending (t : Tag) (d : TagDest) : (s.tagRises t d).pending = s.pending := rfl
@[simp] theorem State.tagRises_win (t : Tag) (d : TagDest) (v : WinId) :
    (s.tagRises t d).win v = s.win v := rfl
@[simp] theorem State.tagRises_slot (t : Tag) (d : TagDest) (j : SlotId) :
    (s.tagRises t d).slot j = s.slot j := rfl
@[simp] theorem State.tagRises_reservation (t : Tag) (d : TagDest) (j : SlotId) :
    (s.tagRises t d).reservation j = s.reservation j := rfl

/-! ### tagFalls -/

@[simp] theorem State.tagFalls_windows (t : Tag) : (s.tagFalls t).windows = s.windows := rfl
@[simp] theorem State.tagFalls_slots (t : Tag) : (s.tagFalls t).slots = s.slots := rfl
@[simp] theorem State.tagFalls_staging (t : Tag) : (s.tagFalls t).staging = s.staging := rfl
@[simp] theorem State.tagFalls_eng (t : Tag) : (s.tagFalls t).eng = s.eng := rfl
@[simp] theorem State.tagFalls_arb (t : Tag) : (s.tagFalls t).arb = s.arb := rfl
@[simp] theorem State.tagFalls_link (t : Tag) : (s.tagFalls t).link = s.link := rfl
@[simp] theorem State.tagFalls_cmd (t : Tag) : (s.tagFalls t).cmd = s.cmd := rfl
@[simp] theorem State.tagFalls_ev (t : Tag) : (s.tagFalls t).ev = s.ev := rfl
@[simp] theorem State.tagFalls_out (t : Tag) : (s.tagFalls t).out = s.out := rfl
@[simp] theorem State.tagFalls_freeUses (t : Tag) : (s.tagFalls t).freeUses = s.freeUses := rfl
@[simp] theorem State.tagFalls_pending (t : Tag) : (s.tagFalls t).pending = s.pending := rfl
@[simp] theorem State.tagFalls_win (t : Tag) (v : WinId) :
    (s.tagFalls t).win v = s.win v := rfl
@[simp] theorem State.tagFalls_slot (t : Tag) (j : SlotId) :
    (s.tagFalls t).slot j = s.slot j := rfl
@[simp] theorem State.tagFalls_reservation (t : Tag) (j : SlotId) :
    (s.tagFalls t).reservation j = s.reservation j := rfl

/-! ### answer -/

@[simp] theorem State.answer_windows (a : Answer) : (s.answer a).windows = s.windows := rfl
@[simp] theorem State.answer_slots (a : Answer) : (s.answer a).slots = s.slots := rfl
@[simp] theorem State.answer_staging (a : Answer) : (s.answer a).staging = s.staging := rfl
@[simp] theorem State.answer_acc (a : Answer) : (s.answer a).acc = s.acc := rfl
@[simp] theorem State.answer_eng (a : Answer) : (s.answer a).eng = s.eng := rfl
@[simp] theorem State.answer_arb (a : Answer) : (s.answer a).arb = s.arb := rfl
@[simp] theorem State.answer_link (a : Answer) : (s.answer a).link = s.link := rfl
@[simp] theorem State.answer_cmd (a : Answer) : (s.answer a).cmd = s.cmd := rfl
@[simp] theorem State.answer_ev (a : Answer) : (s.answer a).ev = s.ev := rfl
@[simp] theorem State.answer_freeUses (a : Answer) : (s.answer a).freeUses = s.freeUses := rfl
@[simp] theorem State.answer_pending (a : Answer) : (s.answer a).pending = s.pending := rfl
@[simp] theorem State.answer_win (a : Answer) (v : WinId) :
    (s.answer a).win v = s.win v := rfl
@[simp] theorem State.answer_slot (a : Answer) (j : SlotId) :
    (s.answer a).slot j = s.slot j := rfl
@[simp] theorem State.answer_reservation (a : Answer) (j : SlotId) :
    (s.answer a).reservation j = s.reservation j := rfl
@[simp] theorem State.answer_tagEntry (a : Answer) (u : Tag) :
    (s.answer a).tagEntry u = s.tagEntry u := rfl

/-! ### answerTransfer -/

@[simp] theorem State.answerTransfer_windows (t : Transfer) (ok : Bool) (data : List Byte) : (s.answerTransfer t ok data).windows = s.windows := rfl
@[simp] theorem State.answerTransfer_slots (t : Transfer) (ok : Bool) (data : List Byte) : (s.answerTransfer t ok data).slots = s.slots := rfl
@[simp] theorem State.answerTransfer_staging (t : Transfer) (ok : Bool) (data : List Byte) : (s.answerTransfer t ok data).staging = s.staging := rfl
@[simp] theorem State.answerTransfer_eng (t : Transfer) (ok : Bool) (data : List Byte) : (s.answerTransfer t ok data).eng = s.eng := rfl
@[simp] theorem State.answerTransfer_arb (t : Transfer) (ok : Bool) (data : List Byte) : (s.answerTransfer t ok data).arb = s.arb := rfl
@[simp] theorem State.answerTransfer_link (t : Transfer) (ok : Bool) (data : List Byte) : (s.answerTransfer t ok data).link = s.link := rfl
@[simp] theorem State.answerTransfer_cmd (t : Transfer) (ok : Bool) (data : List Byte) : (s.answerTransfer t ok data).cmd = s.cmd := rfl
@[simp] theorem State.answerTransfer_ev (t : Transfer) (ok : Bool) (data : List Byte) : (s.answerTransfer t ok data).ev = s.ev := rfl
@[simp] theorem State.answerTransfer_freeUses (t : Transfer) (ok : Bool) (data : List Byte) : (s.answerTransfer t ok data).freeUses = s.freeUses := rfl
@[simp] theorem State.answerTransfer_pending (t : Transfer) (ok : Bool) (data : List Byte) : (s.answerTransfer t ok data).pending = s.pending := rfl
@[simp] theorem State.answerTransfer_win (t : Transfer) (ok : Bool) (data : List Byte) (v : WinId) :
    (s.answerTransfer t ok data).win v = s.win v := rfl
@[simp] theorem State.answerTransfer_slot (t : Transfer) (ok : Bool) (data : List Byte) (j : SlotId) :
    (s.answerTransfer t ok data).slot j = s.slot j := rfl
@[simp] theorem State.answerTransfer_reservation (t : Transfer) (ok : Bool) (data : List Byte) (j : SlotId) :
    (s.answerTransfer t ok data).reservation j = s.reservation j := rfl

/-! ### dispose -/

@[simp] theorem State.dispose_windows : (s.dispose).windows = s.windows := rfl
@[simp] theorem State.dispose_slots : (s.dispose).slots = s.slots := rfl
@[simp] theorem State.dispose_staging : (s.dispose).staging = s.staging := rfl
@[simp] theorem State.dispose_eng : (s.dispose).eng = s.eng := rfl
@[simp] theorem State.dispose_arb : (s.dispose).arb = s.arb := rfl
@[simp] theorem State.dispose_link : (s.dispose).link = s.link := rfl
@[simp] theorem State.dispose_cmd : (s.dispose).cmd = s.cmd := rfl
@[simp] theorem State.dispose_ev : (s.dispose).ev = s.ev := rfl
@[simp] theorem State.dispose_out : (s.dispose).out = s.out := rfl
@[simp] theorem State.dispose_freeUses : (s.dispose).freeUses = s.freeUses := rfl
@[simp] theorem State.dispose_pending : (s.dispose).pending = s.pending := rfl
@[simp] theorem State.dispose_win (v : WinId) :
    (s.dispose).win v = s.win v := rfl
@[simp] theorem State.dispose_slot (j : SlotId) :
    (s.dispose).slot j = s.slot j := rfl
@[simp] theorem State.dispose_reservation (j : SlotId) :
    (s.dispose).reservation j = s.reservation j := rfl

/-! ### waitFor -/

@[simp] theorem State.waitFor_windows (p : Presented) (r : WaitReason) : (s.waitFor p r).windows = s.windows := rfl
@[simp] theorem State.waitFor_slots (p : Presented) (r : WaitReason) : (s.waitFor p r).slots = s.slots := rfl
@[simp] theorem State.waitFor_staging (p : Presented) (r : WaitReason) : (s.waitFor p r).staging = s.staging := rfl
@[simp] theorem State.waitFor_eng (p : Presented) (r : WaitReason) : (s.waitFor p r).eng = s.eng := rfl
@[simp] theorem State.waitFor_arb (p : Presented) (r : WaitReason) : (s.waitFor p r).arb = s.arb := rfl
@[simp] theorem State.waitFor_link (p : Presented) (r : WaitReason) : (s.waitFor p r).link = s.link := rfl
@[simp] theorem State.waitFor_cmd (p : Presented) (r : WaitReason) : (s.waitFor p r).cmd = s.cmd := rfl
@[simp] theorem State.waitFor_ev (p : Presented) (r : WaitReason) : (s.waitFor p r).ev = s.ev := rfl
@[simp] theorem State.waitFor_out (p : Presented) (r : WaitReason) : (s.waitFor p r).out = s.out := rfl
@[simp] theorem State.waitFor_freeUses (p : Presented) (r : WaitReason) : (s.waitFor p r).freeUses = s.freeUses := rfl
@[simp] theorem State.waitFor_pending (p : Presented) (r : WaitReason) : (s.waitFor p r).pending = s.pending := rfl
@[simp] theorem State.waitFor_win (p : Presented) (r : WaitReason) (v : WinId) :
    (s.waitFor p r).win v = s.win v := rfl
@[simp] theorem State.waitFor_slot (p : Presented) (r : WaitReason) (j : SlotId) :
    (s.waitFor p r).slot j = s.slot j := rfl
@[simp] theorem State.waitFor_reservation (p : Presented) (r : WaitReason) (j : SlotId) :
    (s.waitFor p r).reservation j = s.reservation j := rfl

/-! ### errorAnswer -/

@[simp] theorem State.errorAnswer_windows (t : Tag) : (s.errorAnswer t).windows = s.windows := rfl
@[simp] theorem State.errorAnswer_slots (t : Tag) : (s.errorAnswer t).slots = s.slots := rfl
@[simp] theorem State.errorAnswer_staging (t : Tag) : (s.errorAnswer t).staging = s.staging := rfl
@[simp] theorem State.errorAnswer_eng (t : Tag) : (s.errorAnswer t).eng = s.eng := rfl
@[simp] theorem State.errorAnswer_arb (t : Tag) : (s.errorAnswer t).arb = s.arb := rfl
@[simp] theorem State.errorAnswer_link (t : Tag) : (s.errorAnswer t).link = s.link := rfl
@[simp] theorem State.errorAnswer_cmd (t : Tag) : (s.errorAnswer t).cmd = s.cmd := rfl
@[simp] theorem State.errorAnswer_ev (t : Tag) : (s.errorAnswer t).ev = s.ev := rfl
@[simp] theorem State.errorAnswer_freeUses (t : Tag) : (s.errorAnswer t).freeUses = s.freeUses := rfl
@[simp] theorem State.errorAnswer_pending (t : Tag) : (s.errorAnswer t).pending = s.pending := rfl
@[simp] theorem State.errorAnswer_win (t : Tag) (v : WinId) :
    (s.errorAnswer t).win v = s.win v := rfl
@[simp] theorem State.errorAnswer_slot (t : Tag) (j : SlotId) :
    (s.errorAnswer t).slot j = s.slot j := rfl
@[simp] theorem State.errorAnswer_reservation (t : Tag) (j : SlotId) :
    (s.errorAnswer t).reservation j = s.reservation j := rfl

/-! ### forward -/

@[simp] theorem State.forward_windows (r : BusRequest) : (s.forward r).windows = s.windows := rfl
@[simp] theorem State.forward_slots (r : BusRequest) : (s.forward r).slots = s.slots := rfl
@[simp] theorem State.forward_staging (r : BusRequest) : (s.forward r).staging = s.staging := rfl
@[simp] theorem State.forward_eng (r : BusRequest) : (s.forward r).eng = s.eng := rfl
@[simp] theorem State.forward_arb (r : BusRequest) : (s.forward r).arb = s.arb := rfl
@[simp] theorem State.forward_link (r : BusRequest) : (s.forward r).link = s.link := rfl
@[simp] theorem State.forward_cmd (r : BusRequest) : (s.forward r).cmd = s.cmd := rfl
@[simp] theorem State.forward_freeUses (r : BusRequest) : (s.forward r).freeUses = s.freeUses := rfl
@[simp] theorem State.forward_pending (r : BusRequest) : (s.forward r).pending = s.pending := rfl
@[simp] theorem State.forward_win (r : BusRequest) (v : WinId) :
    (s.forward r).win v = s.win v := rfl
@[simp] theorem State.forward_slot (r : BusRequest) (j : SlotId) :
    (s.forward r).slot j = s.slot j := rfl
@[simp] theorem State.forward_reservation (r : BusRequest) (j : SlotId) :
    (s.forward r).reservation j = s.reservation j := rfl

/-! ### setAttn -/

@[simp] theorem State.setAttn_windows : (s.setAttn).windows = s.windows := rfl
@[simp] theorem State.setAttn_slots : (s.setAttn).slots = s.slots := rfl
@[simp] theorem State.setAttn_staging : (s.setAttn).staging = s.staging := rfl
@[simp] theorem State.setAttn_acc : (s.setAttn).acc = s.acc := rfl
@[simp] theorem State.setAttn_eng : (s.setAttn).eng = s.eng := rfl
@[simp] theorem State.setAttn_arb : (s.setAttn).arb = s.arb := rfl
@[simp] theorem State.setAttn_link : (s.setAttn).link = s.link := rfl
@[simp] theorem State.setAttn_cmd : (s.setAttn).cmd = s.cmd := rfl
@[simp] theorem State.setAttn_out : (s.setAttn).out = s.out := rfl
@[simp] theorem State.setAttn_freeUses : (s.setAttn).freeUses = s.freeUses := rfl
@[simp] theorem State.setAttn_pending : (s.setAttn).pending = s.pending := rfl
@[simp] theorem State.setAttn_win (v : WinId) :
    (s.setAttn).win v = s.win v := rfl
@[simp] theorem State.setAttn_slot (j : SlotId) :
    (s.setAttn).slot j = s.slot j := rfl
@[simp] theorem State.setAttn_reservation (j : SlotId) :
    (s.setAttn).reservation j = s.reservation j := rfl
@[simp] theorem State.setAttn_tagEntry (u : Tag) :
    (s.setAttn).tagEntry u = s.tagEntry u := rfl

/-! ### raiseWindow -/

@[simp] theorem State.raiseWindow_slots (w : WinId) (k : WindowKind) : (s.raiseWindow w k).slots = s.slots := rfl
@[simp] theorem State.raiseWindow_staging (w : WinId) (k : WindowKind) : (s.raiseWindow w k).staging = s.staging := rfl
@[simp] theorem State.raiseWindow_acc (w : WinId) (k : WindowKind) : (s.raiseWindow w k).acc = s.acc := rfl
@[simp] theorem State.raiseWindow_eng (w : WinId) (k : WindowKind) : (s.raiseWindow w k).eng = s.eng := rfl
@[simp] theorem State.raiseWindow_arb (w : WinId) (k : WindowKind) : (s.raiseWindow w k).arb = s.arb := rfl
@[simp] theorem State.raiseWindow_link (w : WinId) (k : WindowKind) : (s.raiseWindow w k).link = s.link := rfl
@[simp] theorem State.raiseWindow_cmd (w : WinId) (k : WindowKind) : (s.raiseWindow w k).cmd = s.cmd := rfl
@[simp] theorem State.raiseWindow_out (w : WinId) (k : WindowKind) : (s.raiseWindow w k).out = s.out := rfl
@[simp] theorem State.raiseWindow_freeUses (w : WinId) (k : WindowKind) : (s.raiseWindow w k).freeUses = s.freeUses := rfl
@[simp] theorem State.raiseWindow_pending (w : WinId) (k : WindowKind) : (s.raiseWindow w k).pending = s.pending := rfl
@[simp] theorem State.raiseWindow_slot (w : WinId) (k : WindowKind) (j : SlotId) :
    (s.raiseWindow w k).slot j = s.slot j := rfl
@[simp] theorem State.raiseWindow_reservation (w : WinId) (k : WindowKind) (j : SlotId) :
    (s.raiseWindow w k).reservation j = s.reservation j := rfl
@[simp] theorem State.raiseWindow_tagEntry (w : WinId) (k : WindowKind) (u : Tag) :
    (s.raiseWindow w k).tagEntry u = s.tagEntry u := rfl

/-! ### raiseDevice -/

@[simp] theorem State.raiseDevice_windows (k : DeviceKind) : (s.raiseDevice k).windows = s.windows := rfl
@[simp] theorem State.raiseDevice_slots (k : DeviceKind) : (s.raiseDevice k).slots = s.slots := rfl
@[simp] theorem State.raiseDevice_staging (k : DeviceKind) : (s.raiseDevice k).staging = s.staging := rfl
@[simp] theorem State.raiseDevice_acc (k : DeviceKind) : (s.raiseDevice k).acc = s.acc := rfl
@[simp] theorem State.raiseDevice_eng (k : DeviceKind) : (s.raiseDevice k).eng = s.eng := rfl
@[simp] theorem State.raiseDevice_arb (k : DeviceKind) : (s.raiseDevice k).arb = s.arb := rfl
@[simp] theorem State.raiseDevice_link (k : DeviceKind) : (s.raiseDevice k).link = s.link := rfl
@[simp] theorem State.raiseDevice_cmd (k : DeviceKind) : (s.raiseDevice k).cmd = s.cmd := rfl
@[simp] theorem State.raiseDevice_out (k : DeviceKind) : (s.raiseDevice k).out = s.out := rfl
@[simp] theorem State.raiseDevice_freeUses (k : DeviceKind) : (s.raiseDevice k).freeUses = s.freeUses := rfl
@[simp] theorem State.raiseDevice_pending (k : DeviceKind) : (s.raiseDevice k).pending = s.pending := rfl
@[simp] theorem State.raiseDevice_win (k : DeviceKind) (v : WinId) :
    (s.raiseDevice k).win v = s.win v := rfl
@[simp] theorem State.raiseDevice_slot (k : DeviceKind) (j : SlotId) :
    (s.raiseDevice k).slot j = s.slot j := rfl
@[simp] theorem State.raiseDevice_reservation (k : DeviceKind) (j : SlotId) :
    (s.raiseDevice k).reservation j = s.reservation j := rfl
@[simp] theorem State.raiseDevice_tagEntry (k : DeviceKind) (u : Tag) :
    (s.raiseDevice k).tagEntry u = s.tagEntry u := rfl

/-! ### countDevice -/

@[simp] theorem State.countDevice_windows (k : DeviceCounter) (n : Nat) : (s.countDevice k n).windows = s.windows := rfl
@[simp] theorem State.countDevice_slots (k : DeviceCounter) (n : Nat) : (s.countDevice k n).slots = s.slots := rfl
@[simp] theorem State.countDevice_staging (k : DeviceCounter) (n : Nat) : (s.countDevice k n).staging = s.staging := rfl
@[simp] theorem State.countDevice_acc (k : DeviceCounter) (n : Nat) : (s.countDevice k n).acc = s.acc := rfl
@[simp] theorem State.countDevice_eng (k : DeviceCounter) (n : Nat) : (s.countDevice k n).eng = s.eng := rfl
@[simp] theorem State.countDevice_arb (k : DeviceCounter) (n : Nat) : (s.countDevice k n).arb = s.arb := rfl
@[simp] theorem State.countDevice_link (k : DeviceCounter) (n : Nat) : (s.countDevice k n).link = s.link := rfl
@[simp] theorem State.countDevice_cmd (k : DeviceCounter) (n : Nat) : (s.countDevice k n).cmd = s.cmd := rfl
@[simp] theorem State.countDevice_out (k : DeviceCounter) (n : Nat) : (s.countDevice k n).out = s.out := rfl
@[simp] theorem State.countDevice_freeUses (k : DeviceCounter) (n : Nat) : (s.countDevice k n).freeUses = s.freeUses := rfl
@[simp] theorem State.countDevice_pending (k : DeviceCounter) (n : Nat) : (s.countDevice k n).pending = s.pending := rfl
@[simp] theorem State.countDevice_win (k : DeviceCounter) (n : Nat) (v : WinId) :
    (s.countDevice k n).win v = s.win v := rfl
@[simp] theorem State.countDevice_slot (k : DeviceCounter) (n : Nat) (j : SlotId) :
    (s.countDevice k n).slot j = s.slot j := rfl
@[simp] theorem State.countDevice_reservation (k : DeviceCounter) (n : Nat) (j : SlotId) :
    (s.countDevice k n).reservation j = s.reservation j := rfl
@[simp] theorem State.countDevice_tagEntry (k : DeviceCounter) (n : Nat) (u : Tag) :
    (s.countDevice k n).tagEntry u = s.tagEntry u := rfl

/-! ### stray -/

@[simp] theorem State.stray_windows : (s.stray).windows = s.windows := rfl
@[simp] theorem State.stray_slots : (s.stray).slots = s.slots := rfl
@[simp] theorem State.stray_staging : (s.stray).staging = s.staging := rfl
@[simp] theorem State.stray_acc : (s.stray).acc = s.acc := rfl
@[simp] theorem State.stray_eng : (s.stray).eng = s.eng := rfl
@[simp] theorem State.stray_arb : (s.stray).arb = s.arb := rfl
@[simp] theorem State.stray_link : (s.stray).link = s.link := rfl
@[simp] theorem State.stray_cmd : (s.stray).cmd = s.cmd := rfl
@[simp] theorem State.stray_out : (s.stray).out = s.out := rfl
@[simp] theorem State.stray_freeUses : (s.stray).freeUses = s.freeUses := rfl
@[simp] theorem State.stray_pending : (s.stray).pending = s.pending := rfl
@[simp] theorem State.stray_win (v : WinId) :
    (s.stray).win v = s.win v := rfl
@[simp] theorem State.stray_slot (j : SlotId) :
    (s.stray).slot j = s.slot j := rfl
@[simp] theorem State.stray_reservation (j : SlotId) :
    (s.stray).reservation j = s.reservation j := rfl
@[simp] theorem State.stray_tagEntry (u : Tag) :
    (s.stray).tagEntry u = s.tagEntry u := rfl

/-! ### setResult -/

@[simp] theorem State.setResult_windows (r : ResultRecord) : (s.setResult r).windows = s.windows := rfl
@[simp] theorem State.setResult_slots (r : ResultRecord) : (s.setResult r).slots = s.slots := rfl
@[simp] theorem State.setResult_staging (r : ResultRecord) : (s.setResult r).staging = s.staging := rfl
@[simp] theorem State.setResult_acc (r : ResultRecord) : (s.setResult r).acc = s.acc := rfl
@[simp] theorem State.setResult_eng (r : ResultRecord) : (s.setResult r).eng = s.eng := rfl
@[simp] theorem State.setResult_arb (r : ResultRecord) : (s.setResult r).arb = s.arb := rfl
@[simp] theorem State.setResult_link (r : ResultRecord) : (s.setResult r).link = s.link := rfl
@[simp] theorem State.setResult_ev (r : ResultRecord) : (s.setResult r).ev = s.ev := rfl
@[simp] theorem State.setResult_out (r : ResultRecord) : (s.setResult r).out = s.out := rfl
@[simp] theorem State.setResult_freeUses (r : ResultRecord) : (s.setResult r).freeUses = s.freeUses := rfl
@[simp] theorem State.setResult_pending (r : ResultRecord) : (s.setResult r).pending = s.pending := rfl
@[simp] theorem State.setResult_win (r : ResultRecord) (v : WinId) :
    (s.setResult r).win v = s.win v := rfl
@[simp] theorem State.setResult_slot (r : ResultRecord) (j : SlotId) :
    (s.setResult r).slot j = s.slot j := rfl
@[simp] theorem State.setResult_reservation (r : ResultRecord) (j : SlotId) :
    (s.setResult r).reservation j = s.reservation j := rfl
@[simp] theorem State.setResult_tagEntry (r : ResultRecord) (u : Tag) :
    (s.setResult r).tagEntry u = s.tagEntry u := rfl

/-! ### endTransaction -/

@[simp] theorem State.endTransaction_windows : (s.endTransaction).windows = s.windows := rfl
@[simp] theorem State.endTransaction_slots : (s.endTransaction).slots = s.slots := rfl
@[simp] theorem State.endTransaction_staging : (s.endTransaction).staging = s.staging := rfl
@[simp] theorem State.endTransaction_acc : (s.endTransaction).acc = s.acc := rfl
@[simp] theorem State.endTransaction_eng : (s.endTransaction).eng = s.eng := rfl
@[simp] theorem State.endTransaction_arb : (s.endTransaction).arb = s.arb := rfl
@[simp] theorem State.endTransaction_link : (s.endTransaction).link = s.link := rfl
@[simp] theorem State.endTransaction_ev : (s.endTransaction).ev = s.ev := rfl
@[simp] theorem State.endTransaction_out : (s.endTransaction).out = s.out := rfl
@[simp] theorem State.endTransaction_freeUses : (s.endTransaction).freeUses = s.freeUses := rfl
@[simp] theorem State.endTransaction_pending : (s.endTransaction).pending = s.pending := rfl
@[simp] theorem State.endTransaction_win (v : WinId) :
    (s.endTransaction).win v = s.win v := rfl
@[simp] theorem State.endTransaction_slot (j : SlotId) :
    (s.endTransaction).slot j = s.slot j := rfl
@[simp] theorem State.endTransaction_reservation (j : SlotId) :
    (s.endTransaction).reservation j = s.reservation j := rfl
@[simp] theorem State.endTransaction_tagEntry (u : Tag) :
    (s.endTransaction).tagEntry u = s.tagEntry u := rfl

/-! ### startLong -/

@[simp] theorem State.startLong_windows (c : LongCode) (q : Byte) (w : Option WinId) : (s.startLong c q w).windows = s.windows := rfl
@[simp] theorem State.startLong_slots (c : LongCode) (q : Byte) (w : Option WinId) : (s.startLong c q w).slots = s.slots := rfl
@[simp] theorem State.startLong_staging (c : LongCode) (q : Byte) (w : Option WinId) : (s.startLong c q w).staging = s.staging := rfl
@[simp] theorem State.startLong_acc (c : LongCode) (q : Byte) (w : Option WinId) : (s.startLong c q w).acc = s.acc := rfl
@[simp] theorem State.startLong_eng (c : LongCode) (q : Byte) (w : Option WinId) : (s.startLong c q w).eng = s.eng := rfl
@[simp] theorem State.startLong_arb (c : LongCode) (q : Byte) (w : Option WinId) : (s.startLong c q w).arb = s.arb := rfl
@[simp] theorem State.startLong_link (c : LongCode) (q : Byte) (w : Option WinId) : (s.startLong c q w).link = s.link := rfl
@[simp] theorem State.startLong_ev (c : LongCode) (q : Byte) (w : Option WinId) : (s.startLong c q w).ev = s.ev := rfl
@[simp] theorem State.startLong_out (c : LongCode) (q : Byte) (w : Option WinId) : (s.startLong c q w).out = s.out := rfl
@[simp] theorem State.startLong_freeUses (c : LongCode) (q : Byte) (w : Option WinId) : (s.startLong c q w).freeUses = s.freeUses := rfl
@[simp] theorem State.startLong_pending (c : LongCode) (q : Byte) (w : Option WinId) : (s.startLong c q w).pending = s.pending := rfl
@[simp] theorem State.startLong_win (c : LongCode) (q : Byte) (w : Option WinId) (v : WinId) :
    (s.startLong c q w).win v = s.win v := rfl
@[simp] theorem State.startLong_slot (c : LongCode) (q : Byte) (w : Option WinId) (j : SlotId) :
    (s.startLong c q w).slot j = s.slot j := rfl
@[simp] theorem State.startLong_reservation (c : LongCode) (q : Byte) (w : Option WinId) (j : SlotId) :
    (s.startLong c q w).reservation j = s.reservation j := rfl
@[simp] theorem State.startLong_tagEntry (c : LongCode) (q : Byte) (w : Option WinId) (u : Tag) :
    (s.startLong c q w).tagEntry u = s.tagEntry u := rfl

/-! ### goodPacket -/

@[simp] theorem State.goodPacket_windows : (s.goodPacket).windows = s.windows := rfl
@[simp] theorem State.goodPacket_slots : (s.goodPacket).slots = s.slots := rfl
@[simp] theorem State.goodPacket_staging : (s.goodPacket).staging = s.staging := rfl
@[simp] theorem State.goodPacket_acc : (s.goodPacket).acc = s.acc := rfl
@[simp] theorem State.goodPacket_eng : (s.goodPacket).eng = s.eng := rfl
@[simp] theorem State.goodPacket_arb : (s.goodPacket).arb = s.arb := rfl
@[simp] theorem State.goodPacket_cmd : (s.goodPacket).cmd = s.cmd := rfl
@[simp] theorem State.goodPacket_ev : (s.goodPacket).ev = s.ev := rfl
@[simp] theorem State.goodPacket_out : (s.goodPacket).out = s.out := rfl
@[simp] theorem State.goodPacket_freeUses : (s.goodPacket).freeUses = s.freeUses := rfl
@[simp] theorem State.goodPacket_pending : (s.goodPacket).pending = s.pending := rfl
@[simp] theorem State.goodPacket_win (v : WinId) :
    (s.goodPacket).win v = s.win v := rfl
@[simp] theorem State.goodPacket_slot (j : SlotId) :
    (s.goodPacket).slot j = s.slot j := rfl
@[simp] theorem State.goodPacket_reservation (j : SlotId) :
    (s.goodPacket).reservation j = s.reservation j := rfl
@[simp] theorem State.goodPacket_tagEntry (u : Tag) :
    (s.goodPacket).tagEntry u = s.tagEntry u := rfl

/-! ### quietArbiter -/

@[simp] theorem State.quietArbiter_windows : (s.quietArbiter).windows = s.windows := rfl
@[simp] theorem State.quietArbiter_slots : (s.quietArbiter).slots = s.slots := rfl
@[simp] theorem State.quietArbiter_staging : (s.quietArbiter).staging = s.staging := rfl
@[simp] theorem State.quietArbiter_acc : (s.quietArbiter).acc = s.acc := rfl
@[simp] theorem State.quietArbiter_eng : (s.quietArbiter).eng = s.eng := rfl
@[simp] theorem State.quietArbiter_link : (s.quietArbiter).link = s.link := rfl
@[simp] theorem State.quietArbiter_cmd : (s.quietArbiter).cmd = s.cmd := rfl
@[simp] theorem State.quietArbiter_ev : (s.quietArbiter).ev = s.ev := rfl
@[simp] theorem State.quietArbiter_out : (s.quietArbiter).out = s.out := rfl
@[simp] theorem State.quietArbiter_freeUses : (s.quietArbiter).freeUses = s.freeUses := rfl
@[simp] theorem State.quietArbiter_pending : (s.quietArbiter).pending = s.pending := rfl
@[simp] theorem State.quietArbiter_win (v : WinId) :
    (s.quietArbiter).win v = s.win v := rfl
@[simp] theorem State.quietArbiter_slot (j : SlotId) :
    (s.quietArbiter).slot j = s.slot j := rfl
@[simp] theorem State.quietArbiter_reservation (j : SlotId) :
    (s.quietArbiter).reservation j = s.reservation j := rfl
@[simp] theorem State.quietArbiter_tagEntry (u : Tag) :
    (s.quietArbiter).tagEntry u = s.tagEntry u := rfl

/-! ### toDetached -/

@[simp] theorem State.toDetached_windows : (s.toDetached).windows = s.windows := rfl
@[simp] theorem State.toDetached_slots : (s.toDetached).slots = s.slots := rfl
@[simp] theorem State.toDetached_staging : (s.toDetached).staging = s.staging := rfl
@[simp] theorem State.toDetached_acc : (s.toDetached).acc = s.acc := rfl
@[simp] theorem State.toDetached_eng : (s.toDetached).eng = s.eng := rfl
@[simp] theorem State.toDetached_cmd : (s.toDetached).cmd = s.cmd := rfl
@[simp] theorem State.toDetached_ev : (s.toDetached).ev = s.ev := rfl
@[simp] theorem State.toDetached_out : (s.toDetached).out = s.out := rfl
@[simp] theorem State.toDetached_freeUses : (s.toDetached).freeUses = s.freeUses := rfl
@[simp] theorem State.toDetached_pending : (s.toDetached).pending = s.pending := rfl
@[simp] theorem State.toDetached_win (v : WinId) :
    (s.toDetached).win v = s.win v := rfl
@[simp] theorem State.toDetached_slot (j : SlotId) :
    (s.toDetached).slot j = s.slot j := rfl
@[simp] theorem State.toDetached_reservation (j : SlotId) :
    (s.toDetached).reservation j = s.reservation j := rfl
@[simp] theorem State.toDetached_tagEntry (u : Tag) :
    (s.toDetached).tagEntry u = s.tagEntry u := rfl

/-! ### toActive -/

@[simp] theorem State.toActive_windows (c l : Nat) : (s.toActive c l).windows = s.windows := rfl
@[simp] theorem State.toActive_slots (c l : Nat) : (s.toActive c l).slots = s.slots := rfl
@[simp] theorem State.toActive_staging (c l : Nat) : (s.toActive c l).staging = s.staging := rfl
@[simp] theorem State.toActive_acc (c l : Nat) : (s.toActive c l).acc = s.acc := rfl
@[simp] theorem State.toActive_eng (c l : Nat) : (s.toActive c l).eng = s.eng := rfl
@[simp] theorem State.toActive_cmd (c l : Nat) : (s.toActive c l).cmd = s.cmd := rfl
@[simp] theorem State.toActive_ev (c l : Nat) : (s.toActive c l).ev = s.ev := rfl
@[simp] theorem State.toActive_out (c l : Nat) : (s.toActive c l).out = s.out := rfl
@[simp] theorem State.toActive_freeUses (c l : Nat) : (s.toActive c l).freeUses = s.freeUses := rfl
@[simp] theorem State.toActive_pending (c l : Nat) : (s.toActive c l).pending = s.pending := rfl
@[simp] theorem State.toActive_win (c l : Nat) (v : WinId) :
    (s.toActive c l).win v = s.win v := rfl
@[simp] theorem State.toActive_slot (c l : Nat) (j : SlotId) :
    (s.toActive c l).slot j = s.slot j := rfl
@[simp] theorem State.toActive_reservation (c l : Nat) (j : SlotId) :
    (s.toActive c l).reservation j = s.reservation j := rfl
@[simp] theorem State.toActive_tagEntry (c l : Nat) (u : Tag) :
    (s.toActive c l).tagEntry u = s.tagEntry u := rfl

/-! ### helloDue -/

@[simp] theorem State.helloDue_windows : (s.helloDue).windows = s.windows := rfl
@[simp] theorem State.helloDue_slots : (s.helloDue).slots = s.slots := rfl
@[simp] theorem State.helloDue_staging : (s.helloDue).staging = s.staging := rfl
@[simp] theorem State.helloDue_acc : (s.helloDue).acc = s.acc := rfl
@[simp] theorem State.helloDue_eng : (s.helloDue).eng = s.eng := rfl
@[simp] theorem State.helloDue_cmd : (s.helloDue).cmd = s.cmd := rfl
@[simp] theorem State.helloDue_ev : (s.helloDue).ev = s.ev := rfl
@[simp] theorem State.helloDue_out : (s.helloDue).out = s.out := rfl
@[simp] theorem State.helloDue_freeUses : (s.helloDue).freeUses = s.freeUses := rfl
@[simp] theorem State.helloDue_pending : (s.helloDue).pending = s.pending := rfl
@[simp] theorem State.helloDue_win (v : WinId) :
    (s.helloDue).win v = s.win v := rfl
@[simp] theorem State.helloDue_slot (j : SlotId) :
    (s.helloDue).slot j = s.slot j := rfl
@[simp] theorem State.helloDue_reservation (j : SlotId) :
    (s.helloDue).reservation j = s.reservation j := rfl
@[simp] theorem State.helloDue_tagEntry (u : Tag) :
    (s.helloDue).tagEntry u = s.tagEntry u := rfl

/-! ### idleDue -/

@[simp] theorem State.idleDue_windows : (s.idleDue).windows = s.windows := rfl
@[simp] theorem State.idleDue_slots : (s.idleDue).slots = s.slots := rfl
@[simp] theorem State.idleDue_staging : (s.idleDue).staging = s.staging := rfl
@[simp] theorem State.idleDue_acc : (s.idleDue).acc = s.acc := rfl
@[simp] theorem State.idleDue_eng : (s.idleDue).eng = s.eng := rfl
@[simp] theorem State.idleDue_link : (s.idleDue).link = s.link := rfl
@[simp] theorem State.idleDue_cmd : (s.idleDue).cmd = s.cmd := rfl
@[simp] theorem State.idleDue_ev : (s.idleDue).ev = s.ev := rfl
@[simp] theorem State.idleDue_out : (s.idleDue).out = s.out := rfl
@[simp] theorem State.idleDue_freeUses : (s.idleDue).freeUses = s.freeUses := rfl
@[simp] theorem State.idleDue_pending : (s.idleDue).pending = s.pending := rfl
@[simp] theorem State.idleDue_win (v : WinId) :
    (s.idleDue).win v = s.win v := rfl
@[simp] theorem State.idleDue_slot (j : SlotId) :
    (s.idleDue).slot j = s.slot j := rfl
@[simp] theorem State.idleDue_reservation (j : SlotId) :
    (s.idleDue).reservation j = s.reservation j := rfl
@[simp] theorem State.idleDue_tagEntry (u : Tag) :
    (s.idleDue).tagEntry u = s.tagEntry u := rfl

/-! ### toFree -/

@[simp] theorem State.toFree_windows : (s.toFree).windows = s.windows := rfl
@[simp] theorem State.toFree_slots : (s.toFree).slots = s.slots := rfl
@[simp] theorem State.toFree_staging : (s.toFree).staging = s.staging := rfl
@[simp] theorem State.toFree_acc : (s.toFree).acc = s.acc := rfl
@[simp] theorem State.toFree_eng : (s.toFree).eng = s.eng := rfl
@[simp] theorem State.toFree_link : (s.toFree).link = s.link := rfl
@[simp] theorem State.toFree_cmd : (s.toFree).cmd = s.cmd := rfl
@[simp] theorem State.toFree_ev : (s.toFree).ev = s.ev := rfl
@[simp] theorem State.toFree_out : (s.toFree).out = s.out := rfl
@[simp] theorem State.toFree_freeUses : (s.toFree).freeUses = s.freeUses := rfl
@[simp] theorem State.toFree_pending : (s.toFree).pending = s.pending := rfl
@[simp] theorem State.toFree_win (v : WinId) :
    (s.toFree).win v = s.win v := rfl
@[simp] theorem State.toFree_slot (j : SlotId) :
    (s.toFree).slot j = s.slot j := rfl
@[simp] theorem State.toFree_reservation (j : SlotId) :
    (s.toFree).reservation j = s.reservation j := rfl
@[simp] theorem State.toFree_tagEntry (u : Tag) :
    (s.toFree).tagEntry u = s.tagEntry u := rfl

/-! ### closeNow -/

@[simp] theorem State.closeNow_slots (w : WinId) : (s.closeNow w).slots = s.slots := rfl
@[simp] theorem State.closeNow_staging (w : WinId) : (s.closeNow w).staging = s.staging := rfl
@[simp] theorem State.closeNow_acc (w : WinId) : (s.closeNow w).acc = s.acc := rfl
@[simp] theorem State.closeNow_eng (w : WinId) : (s.closeNow w).eng = s.eng := rfl
@[simp] theorem State.closeNow_arb (w : WinId) : (s.closeNow w).arb = s.arb := rfl
@[simp] theorem State.closeNow_link (w : WinId) : (s.closeNow w).link = s.link := rfl
@[simp] theorem State.closeNow_cmd (w : WinId) : (s.closeNow w).cmd = s.cmd := rfl
@[simp] theorem State.closeNow_out (w : WinId) : (s.closeNow w).out = s.out := rfl
@[simp] theorem State.closeNow_freeUses (w : WinId) : (s.closeNow w).freeUses = s.freeUses := rfl
@[simp] theorem State.closeNow_pending (w : WinId) : (s.closeNow w).pending = s.pending := rfl
@[simp] theorem State.closeNow_slot (w : WinId) (j : SlotId) :
    (s.closeNow w).slot j = s.slot j := rfl
@[simp] theorem State.closeNow_reservation (w : WinId) (j : SlotId) :
    (s.closeNow w).reservation j = s.reservation j := rfl
@[simp] theorem State.closeNow_tagEntry (w : WinId) (u : Tag) :
    (s.closeNow w).tagEntry u = s.tagEntry u := rfl

end Sys2Proof.Machine
end

