-- ==== Sys2Proof/Laws/Ops.lean ====
section
/-! SUPPORT. What the named operations do: reading back what was written, searches, counters and timers, and for each
shared operation of chapters 2 to 9 what it can do and what it leaves. -/

namespace Sys2Proof.Machine

/-! ### Lists of numbers and folds -/

theorem mem_allWindows (w : WinId) : w ∈ allWindows := by revert w; decide

theorem mem_allSlots (i : SlotId) : i ∈ allSlots := by revert i; decide

theorem mem_allTags (t : Tag) : t ∈ allTags := by revert t; decide

/-- What every step of a fold keeps, the fold keeps. -/
theorem foldl_keeps {α β γ : Type} (g : β → γ) (f : β → α → β) (h : ∀ b a, g (f b a) = g b) (l : List α) (b : β) :
    g (l.foldl f b) = g b := by
  induction l generalizing b with
  | nil => rfl
  | cons a l ih => simp [List.foldl_cons, ih, h]

/-- An invariant of every step of a fold is an invariant of the fold. -/
theorem foldl_invariant {α β : Type} (P : β → Prop) (f : β → α → β) (h : ∀ b a, P b → P (f b a)) (l : List α) (b : β)
    (hb : P b) : P (l.foldl f b) := by
  induction l generalizing b with
  | nil => exact hb
  | cons a l ih => exact ih _ (h b a hb)

variable (s : State)

/-! ### Reading back what was written -/

theorem State.win_setWin (w v : WinId) (x : Window) : (s.setWin w x).win v = if v = w then x else s.win v := by
  simp [State.setWin, State.win, Vector.getElem_set, Fin.ext_iff, eq_comm]

@[simp] theorem State.win_setWin_self (w : WinId) (x : Window) : (s.setWin w x).win w = x := by
  simp [State.win_setWin]

theorem State.win_setWin_of_ne {w v : WinId} (h : v ≠ w) (x : Window) : (s.setWin w x).win v = s.win v := by
  simp [State.win_setWin, h]

theorem State.win_modWin (w v : WinId) (f : Window → Window) :
    (s.modWin w f).win v = if v = w then f (s.win w) else s.win v := s.win_setWin w v _

@[simp] theorem State.win_modWin_self (w : WinId) (f : Window → Window) : (s.modWin w f).win w = f (s.win w) :=
  s.win_setWin_self w _

theorem State.win_modWin_of_ne {w v : WinId} (h : v ≠ w) (f : Window → Window) : (s.modWin w f).win v = s.win v :=
  s.win_setWin_of_ne h _

@[simp] theorem State.win_mapWins (w : WinId) (f : WinId → Window → Window) : (s.mapWins f).win w = f w (s.win w) := by
  simp [State.mapWins, State.win]

@[simp] theorem State.win_clearWindows (w : WinId) : s.clearWindows.win w = .reset := by
  simp [State.clearWindows, State.win]

theorem State.slot_setSlot (i j : SlotId) (t : Option Transfer) :
    (s.setSlot i t).slot j = if j = i then t else s.slot j := by
  simp [State.setSlot, State.slot, Vector.getElem_set, Fin.ext_iff, eq_comm]

@[simp] theorem State.slot_setSlot_self (i : SlotId) (t : Option Transfer) : (s.setSlot i t).slot i = t := by
  simp [State.slot_setSlot]

theorem State.slot_modSlot (i j : SlotId) (f : Transfer → Transfer) :
    (s.modSlot i f).slot j = if j = i then (s.slot i).map f else s.slot j := s.slot_setSlot i j _

theorem State.slot_freeSlot (i j : SlotId) : (s.freeSlot i).slot j = if j = i then none else s.slot j := by
  simp [State.freeSlot, State.slot_setSlot]

@[simp] theorem State.slot_clearSlots (i : SlotId) : s.clearSlots.slot i = none := by
  simp [State.clearSlots, State.slot]

theorem State.reservation_setReservation (i j : SlotId) (bs : List Byte) :
    (s.setReservation i bs).reservation j = if j = i then bs else s.reservation j := by
  simp [State.setReservation, State.reservation, Vector.getElem_set, Fin.ext_iff, eq_comm]

theorem State.reservation_freeSlot (i j : SlotId) :
    (s.freeSlot i).reservation j = if j = i then [] else s.reservation j := by
  simp [State.freeSlot, State.reservation_setReservation]

@[simp] theorem State.reservation_clearSlots (i : SlotId) : s.clearSlots.reservation i = [] := by
  simp [State.clearSlots, State.reservation]

theorem State.tagEntry_setTag (t u : Tag) (e : TagEntry) :
    (s.setTag t e).tagEntry u = if u = t then e else s.tagEntry u := by
  simp [State.setTag, State.tagEntry, Vector.getElem_set, Fin.ext_iff, eq_comm]

/-- A rise puts the tag outstanding at its destination, one more than before (R29). -/
theorem State.tagEntry_tagRises (t u : Tag) (d : TagDest) :
    (s.tagRises t d).tagEntry u = if u = t then ⟨d, (s.tagEntry t).count + 1⟩ else s.tagEntry u :=
  s.tagEntry_setTag t u _

/-- A fall lowers the count by one, and at 0 the destination is NONE (R29). -/
theorem State.tagEntry_tagFalls (t u : Tag) :
    (s.tagFalls t).tagEntry u =
      if u = t then
        (if (s.tagEntry t).count ≤ 1 then ⟨.none, 0⟩ else ⟨(s.tagEntry t).dest, (s.tagEntry t).count - 1⟩)
      else s.tagEntry u := s.tagEntry_setTag t u _

@[simp] theorem State.dispose_tagEntry (u : Tag) : s.dispose.tagEntry u = s.tagEntry u := rfl

@[simp] theorem State.dispose_presented : s.dispose.acc.presented = none := rfl

@[simp] theorem State.waitFor_tagEntry (p : Presented) (r : WaitReason) (u : Tag) :
    (s.waitFor p r).tagEntry u = s.tagEntry u := rfl

@[simp] theorem State.waitFor_presented (p : Presented) (r : WaitReason) :
    (s.waitFor p r).acc.presented = some { p with reason := r } := rfl

@[simp] theorem State.answer_answers (a : Answer) : (s.answer a).out.answers = s.out.answers ++ [a] := rfl

@[simp] theorem State.answerTransfer_answers (t : Transfer) (ok : Bool) (data : List Byte) :
    (s.answerTransfer t ok data).out.answers = s.out.answers ++ [⟨t.tag, ok, data⟩] := rfl

@[simp] theorem State.setResult_result (r : ResultRecord) : (s.setResult r).cmd.result = r := rfl

@[simp] theorem State.setResult_long (r : ResultRecord) : (s.setResult r).cmd.long = s.cmd.long := rfl

@[simp] theorem State.endTransaction_long : s.endTransaction.cmd.long = s.cmd.long := rfl

@[simp] theorem State.endTransaction_result : s.endTransaction.cmd.result = s.cmd.result := rfl

/-- Every transaction ends with the receiver IDLE (R155). -/
@[simp] theorem State.endTransaction_receiver : s.endTransaction.cmd.receiver = .idle := by
  cases h : s.cmd.receiver <;> simp [State.endTransaction, Receiver.rise, h]

/-! ### Counters, timers and searches -/

/-- A counter's growth saturates at its largest value (R170). -/
theorem grow_toNat (c : Counter) (n : Nat) : (grow c n).toNat = min counterMax (c.toNat + n) := by
  have : min counterMax (c.toNat + n) < 2 ^ 32 := by unfold counterMax; omega
  simp only [grow, BitVec.toNat_ofNat]
  exact Nat.mod_eq_of_lt this

/-- A timer never runs back, and passes its limit only if it stood past it already. -/
theorem runTimer_bounds (n limit e : Nat) : e ≤ runTimer n limit e ∧ (e ≤ limit → runTimer n limit e ≤ limit) := by
  unfold runTimer; omega

/-- Time passes in two parts as it passes in one. -/
theorem runTimer_add (m n limit e : Nat) : runTimer n limit (runTimer m limit e) = runTimer (m + n) limit e := by
  unfold runTimer; omega

/-- The lowest-numbered FREE slot is FREE, and every lower slot is busy (R45). -/
theorem State.lowestFree_some {i : SlotId} (h : s.lowestFree = some i) :
    s.slot i = none ∧ ∀ j : SlotId, j < i → s.slot j ≠ none := by
  refine ⟨by simpa using List.find?_some h, fun j hj => ?_⟩
  obtain ⟨-, as, bs, hl, hn⟩ := List.find?_eq_some_iff_append.mp h
  have hsorted : allSlots.Pairwise (· < ·) := by decide
  have hm : j ∈ as := by
    have hj' : j ∈ as ++ i :: bs := hl ▸ mem_allSlots j
    rw [hl] at hsorted
    rcases List.mem_append.mp hj' with h1 | h1
    · exact h1
    · rcases List.mem_cons.mp h1 with h2 | h2
      · exact absurd hj (h2 ▸ lt_irrefl _)
      · have := (List.pairwise_append.mp hsorted).2.1
        exact absurd (List.rel_of_pairwise_cons this h2) (not_lt.mpr hj.le)
  simpa [Option.isSome_iff_ne_none] using hn j hm

/-- With no FREE slot every slot is busy (R31). -/
theorem State.lowestFree_none (h : s.lowestFree = none) (i : SlotId) : s.slot i ≠ none := by
  simpa using List.find?_eq_none.mp h i (mem_allSlots i)

/-- The holder of a byte is a claiming window that holds it (R2). -/
theorem State.holder_some {a : Nat} {w : WinId} (h : s.holder a = some w) : (s.win w).holds a = true :=
  List.find?_some (p := fun w => (s.win w).holds a) h

/-- With no holder no claiming window holds the byte (R2). -/
theorem State.holder_none {a : Nat} (h : s.holder a = none) (w : WinId) : (s.win w).holds a = false := by
  simpa using List.find?_eq_none.mp h w (mem_allWindows w)

/-! ### ATTN and the completion of long commands -/

/-- ATTN takes the level of R167. -/
@[simp] theorem State.setAttn_attn : s.setAttn.ev.attn = s.attnLevel := rfl

@[simp] theorem State.setAttn_level : s.setAttn.attnLevel = s.attnLevel := rfl

/-- After a window's kind is raised ATTN has its level. -/
theorem State.raiseWindow_attn (w : WinId) (k : WindowKind) :
    (s.raiseWindow w k).ev.attn = (s.raiseWindow w k).attnLevel := rfl

/-- After a device kind is raised ATTN has its level. -/
theorem State.raiseDevice_attn (k : DeviceKind) : (s.raiseDevice k).ev.attn = (s.raiseDevice k).attnLevel := rfl

theorem State.win_raiseWindow (w v : WinId) (k : WindowKind) :
    (s.raiseWindow w k).win v =
      if v = w then { s.win w with pending := (s.win w).pending ||| k.bit } else s.win v := by
  simp only [State.raiseWindow, State.setAttn_win, State.win_modWin]

theorem State.win_countWindow (w v : WinId) (k : WindowCounter) (n : Nat) :
    (s.countWindow w k n).win v =
      if v = w then { s.win w with counters := (s.win w).counters.grow k n } else s.win v := s.win_modWin w v _

/-- Nothing running, nothing completes. -/
theorem State.completeLong_idle (h : s.cmd.long.state ≠ .running) (st : LongState) (d : LongDetail) :
    s.completeLong st d = s := by simp [State.completeLong, h]

/-- A running command leaves RUNNING with its state and detail, and COMMAND_DONE is raised (R160). -/
theorem State.completeLong_running (h : s.cmd.long.state = .running) (st : LongState) (d : LongDetail) :
    s.completeLong st d =
      State.raiseDevice { s with cmd := { s.cmd with long := { s.cmd.long with state := st, detail := d } } }
        .commandDone := by simp [State.completeLong, h]

/-- A completion touches only the long-command record and the device's events. -/
theorem State.completeLong_frame (st : LongState) (d : LongDetail) :
    s.completeLong st d =
      { s with cmd := { s.cmd with long := (s.completeLong st d).cmd.long }, ev := (s.completeLong st d).ev } := by
  by_cases h : s.cmd.long.state = .running
  · rw [s.completeLong_running h]; rfl
  · rw [s.completeLong_idle h]

/-- DONE for a command that is not the one running is nothing. -/
theorem State.completeDone_frame (c : LongCode) :
    s.completeDone c =
      { s with cmd := { s.cmd with long := (s.completeDone c).cmd.long }, ev := (s.completeDone c).ev } := by
  unfold State.completeDone
  split
  · exact s.completeLong_frame _ _
  · rfl

/-! ### Offering and promoting (R47, R49) -/

/-- An offer creates one exchange, READY, of the head's next packet, or does nothing (R49, R84). -/
theorem State.offer_cases (w : WinId) :
    s.offer w = s ∨ ∃ d i t, (s.win w).exchange = none ∧ (s.win w).defn = some d ∧ s.headOf w = some (i, t) ∧
      (s.win w).state.drains = true ∧
      s.offer w = s.modWin w fun x =>
        { x with exchange := some (.new (packetBody t d.packetSize x.seqBit)) } := by
  simp only [State.offer]
  split
  · next d i t hx hd hh =>
    split
    · next hs => exact .inr ⟨d, i, t, hx, hd, hh, hs, rfl⟩
    · exact .inl rfl
  · exact .inl rfl

/-- An offer writes nothing but window records. -/
theorem State.offer_frame (w : WinId) : s.offer w = { s with windows := (s.offer w).windows } := by
  rcases s.offer_cases w with h | ⟨d, i, t, -, -, -, -, h⟩ <;> rw [h]; rfl

/-- A promotion writes nothing but slots. -/
theorem State.promote_frame (w : WinId) : s.promote w = { s with slots := (s.promote w).slots } := by
  unfold State.promote
  split
  · rfl
  · rfl

/-! ### The failure path (R113 to R116) -/

/-- A failing transfer writes only window records, answers and tags. -/
theorem State.failTransfer_frame (w : WinId) (k : WindowCounter) (t : Transfer) :
    s.failTransfer w k t =
      { s with windows := (s.failTransfer w k t).windows, out := (s.failTransfer w k t).out,
               acc := { s.acc with tags := (s.failTransfer w k t).acc.tags } } := by
  unfold State.failTransfer
  split <;> rfl

/-- What a failing queue leaves: all but window records, answers and tags. -/
theorem State.failQueue_keeps {γ : Type} (g : State → γ) (w : WinId)
    (h : ∀ (s : State) (k : WindowCounter) (t : Transfer), g (s.failTransfer w k t) = g s) (ts : List Transfer) :
    g (s.failQueue w ts) = g s := by
  cases ts with
  | nil => rfl
  | cons t ts =>
    rw [State.failQueue, foldl_keeps g _ (fun s t => h s .discarded t), h]

/-- What a halt leaves: what the ending of a transfer, the freeing of a slot, the writing of the window's record, the
raising of its events and the completion of a long command all leave. -/
theorem State.haltWindow_keeps {γ : Type} (g : State → γ) (w : WinId) (cause : FaultCause) (strike : Option StrikeKind)
    (failFar : Option FarAddr) (h1 : ∀ (s : State) (k : WindowCounter) (t : Transfer), g (s.failTransfer w k t) = g s)
    (h2 : ∀ (s : State) (i : SlotId), g (s.freeSlot i) = g s)
    (h3 : ∀ (s : State) (f : Window → Window), g (s.modWin w f) = g s)
    (h4 : ∀ (s : State) (k : WindowKind), g (s.raiseWindow w k) = g s)
    (h5 : ∀ (s : State) (st : LongState) (d : LongDetail), g (s.completeLong st d) = g s) :
    g (s.haltWindow w cause strike failFar) = g s := by
  unfold State.haltWindow
  dsimp only
  split <;> split <;> simp only [h5, h4, h3] <;>
    rw [foldl_keeps g _ h2, s.failQueue_keeps g w h1]

@[simp] theorem State.haltWindow_arb (w : WinId) (c : FaultCause) (k : Option StrikeKind) (f : Option FarAddr) :
    (s.haltWindow w c k f).arb = s.arb :=
  s.haltWindow_keeps State.arb w c k f (fun s k t => by rw [s.failTransfer_frame]) (fun _ _ => rfl) (fun _ _ => rfl)
    (fun _ _ => rfl) (fun s st d => by rw [s.completeLong_frame])

@[simp] theorem State.haltWindow_link (w : WinId) (c : FaultCause) (k : Option StrikeKind) (f : Option FarAddr) :
    (s.haltWindow w c k f).link = s.link :=
  s.haltWindow_keeps State.link w c k f (fun s k t => by rw [s.failTransfer_frame]) (fun _ _ => rfl) (fun _ _ => rfl)
    (fun _ _ => rfl) (fun s st d => by rw [s.completeLong_frame])

@[simp] theorem State.haltWindow_eng (w : WinId) (c : FaultCause) (k : Option StrikeKind) (f : Option FarAddr) :
    (s.haltWindow w c k f).eng = s.eng :=
  s.haltWindow_keeps State.eng w c k f (fun s k t => by rw [s.failTransfer_frame]) (fun _ _ => rfl) (fun _ _ => rfl)
    (fun _ _ => rfl) (fun s st d => by rw [s.completeLong_frame])

@[simp] theorem State.haltWindow_pending (w : WinId) (c : FaultCause) (k : Option StrikeKind) (f : Option FarAddr) :
    (s.haltWindow w c k f).pending = s.pending :=
  s.haltWindow_keeps State.pending w c k f (fun s k t => by rw [s.failTransfer_frame]) (fun _ _ => rfl)
    (fun _ _ => rfl) (fun _ _ => rfl) (fun s st d => by rw [s.completeLong_frame])

@[simp] theorem State.haltWindow_presented (w : WinId) (c : FaultCause) (k : Option StrikeKind) (f : Option FarAddr) :
    (s.haltWindow w c k f).acc.presented = s.acc.presented :=
  s.haltWindow_keeps (fun s => s.acc.presented) w c k f (fun s k t => by rw [s.failTransfer_frame])
    (fun _ _ => rfl) (fun _ _ => rfl) (fun _ _ => rfl) (fun s st d => by rw [s.completeLong_frame])

/-! ### Choosing (R121, R122) -/

/-- Sending an exchange writes window records and the arbiter. -/
theorem State.sendExchange_frame (w : WinId) :
    s.sendExchange w = { s with windows := (s.sendExchange w).windows, arb := (s.sendExchange w).arb } := by
  unfold State.sendExchange
  split <;> rfl

/-- A choice does nothing while the transmitter is SENDING; on a FREE transmitter it sends the pending marker, or else
the PERIODIC candidate, or else the other candidate, or nothing. -/
theorem State.choose_cases :
    (s.arb.transmitter.isSome = true ∧ s.choose = s) ∨
    (s.arb.transmitter = none ∧
      ((∃ m, s.arb.marker = some m ∧
          s.choose = { s with arb := { s.arb with marker := none, transmitter := some m.packet } }) ∨
        (s.arb.marker = none ∧
          ((∃ w, s.periodicCandidate = some w ∧ s.choose = s.sendExchange w) ∨
            (s.periodicCandidate = none ∧
              ((∃ w, s.generalCandidate = some w ∧ s.choose = s.sendExchange w) ∨
                (s.generalCandidate = none ∧ s.choose = s))))))) := by
  unfold State.choose
  split
  · next h => simp [h]
  · next h => split
              · next m hm => simp [h, hm]
              · next hm => split
                           · next w hp => simp [h, hm, hp]
                           · next hp => split
                                        · next w hg => simp [h, hm, hp, hg]
                                        · next hg => simp [h, hm, hp, hg]

/-- A choice writes nothing but window records and the arbiter. -/
theorem State.choose_frame : s.choose = { s with windows := s.choose.windows, arb := s.choose.arb } := by
  rcases s.choose_cases with ⟨-, h⟩ | ⟨-, ⟨m, -, h⟩ | ⟨-, ⟨w, -, h⟩ | ⟨-, ⟨w, -, h⟩ | ⟨-, h⟩⟩⟩⟩ <;> rw [h]
  · exact s.sendExchange_frame w
  · exact s.sendExchange_frame w

/-- Of a window record a choice writes only the exchange and the remaining budget. -/
theorem State.choose_win (w : WinId) :
    s.choose.win w =
      { s.win w with exchange := (s.choose.win w).exchange, remaining := (s.choose.win w).remaining } := by
  have send : ∀ v, (s.sendExchange v).win w =
      { s.win w with exchange := ((s.sendExchange v).win w).exchange
                     remaining := ((s.sendExchange v).win w).remaining } := by
    intro v
    unfold State.sendExchange
    split
    · rfl
    · simp only [State.win, State.modWin, State.setWin]
      by_cases hw : w = v
      · subst hw; simp
      · simp [Fin.val_ne_of_ne (Ne.symm hw)]
  rcases s.choose_cases with ⟨-, h⟩ | ⟨-, ⟨m, -, h⟩ | ⟨-, ⟨v, -, h⟩ | ⟨-, ⟨v, -, h⟩ | ⟨-, h⟩⟩⟩⟩ <;> rw [h]
  · rfl
  · exact send v
  · exact send v

/-! ### ERROR answers and heads marked (R40, R129) -/

/-- What an ERROR answer counts and raises writes nothing but the event unit. -/
theorem State.note_frame (k : ErrorKind) : s.note k = { s with ev := (s.note k).ev } := by cases k <;> rfl

/-- An expired request is answered ERROR by its kind when its tag is outstanding nowhere, and waits for its tag otherwise
(R30, R34, R40). -/
theorem State.attemptExpired_cases (p : Presented) (k : ErrorKind) :
    ((s.tagEntry p.req.tag).dest = .none ∧ s.attemptExpired p k = (s.note k).errorAnswer p.req.tag) ∨
      ((s.tagEntry p.req.tag).dest ≠ .none ∧ s.attemptExpired p k = s.waitFor p .tag) := by
  unfold State.attemptExpired
  split
  · exact .inl ⟨‹_›, rfl⟩
  · exact .inr ⟨‹_›, rfl⟩

/-- The marking of a head writes nothing but slots. -/
theorem State.markHead_frame (w : WinId) : s.markHead w = { s with slots := (s.markHead w).slots } := by
  unfold State.markHead
  split
  · split <;> rfl
  · rfl

/-- The marking of every head writes nothing but slots. -/
theorem State.markHeads_frame : s.markHeads = { s with slots := s.markHeads.slots } :=
  foldl_invariant (fun t : State => t = { s with slots := t.slots }) State.markHead
    (fun t w h => by rw [State.markHead_frame t w, h]) allWindows s rfl

/-- The heads are marked in CYCLED mode, and in FREE mode nothing is. -/
theorem State.markNewHeads_cases :
    (s.arb.mode = .cycled ∧ s.markNewHeads = s.markHeads) ∨ (s.arb.mode = .free ∧ s.markNewHeads = s) := by
  unfold State.markNewHeads
  cases s.arb.mode <;> simp

/-! ### The passing of time (log 1) -/

/-- Time writes nothing but timers: of a window only its exchange. -/
theorem State.elapse_win (n : Nat) (w : WinId) :
    (s.elapse n).win w = { s.win w with exchange := ((s.elapse n).win w).exchange } := by
  have h : (s.elapse n).win w = (s.win w).elapse n (s.link.state = .active) := by
    simp [State.elapse, State.mapWins, State.win]
  rw [h]
  unfold Window.elapse
  split <;> rfl

/-- What time leaves: slots, staging, the engine's limit, the command unit, the event unit, what has left the part. -/
theorem State.elapse_frame (n : Nat) :
    (s.elapse n).slots = s.slots ∧ (s.elapse n).staging = s.staging ∧ (s.elapse n).eng = s.eng ∧
      (s.elapse n).cmd = s.cmd ∧ (s.elapse n).ev = s.ev ∧ (s.elapse n).out = s.out ∧
      (s.elapse n).freeUses = s.freeUses ∧ (s.elapse n).pending = s.pending ∧
      (s.elapse n).acc.tags = s.acc.tags ∧ (s.elapse n).arb.transmitter = s.arb.transmitter ∧
      (s.elapse n).arb.marker = s.arb.marker ∧ (s.elapse n).link.state = s.link.state :=
  ⟨rfl, rfl, rfl, rfl, rfl, rfl, rfl, rfl, rfl, rfl, rfl, rfl⟩

/-! ### Commands (R158, R159) -/

/-- A frame other than GET-STATUS, ABORT and RESET-BLOCK is answered BUSY while a long command runs. -/
theorem State.commandUnlessBusy_busy (h : s.cmd.long.state = .running) (q c : Byte) (j : State → Judged) :
    s.commandUnlessBusy q c j = s.endTransaction.setResult (.busyFor q c) := by
  simp [State.commandUnlessBusy, h]

/-- Otherwise its own rule judges it. -/
theorem State.commandUnlessBusy_free (h : s.cmd.long.state ≠ .running) (q c : Byte) (j : State → Judged) :
    s.commandUnlessBusy q c j = s.command q c j := by simp [State.commandUnlessBusy, h]

/-- The record that a judged frame leaves is the one of its outcome. -/
theorem State.conclude_result (q c : Byte) (j : Judged) :
    (s.conclude q c j).cmd.result =
      match j with
      | .refuse r => .refusedFor q c r
      | .done _ p => .doneWith q c p
      | .pending _ => .pendingFor q c := by cases j <;> rfl

/-- A window number up to 11 names its window. -/
theorem windowOf_lt {b : Byte} (h : b.toNat < 12) : windowOf b = some ⟨b.toNat, h⟩ := by simp [windowOf, h]

/-- A window number above 11 names none (R174). -/
theorem windowOf_ge {b : Byte} (h : 12 ≤ b.toNat) : windowOf b = none := by
  simp [windowOf, show ¬ b.toNat < 12 by omega]

end Sys2Proof.Machine
end

