-- ==== Sys2Proof/Laws/PerInstr.lean ====
section
/-! SUPPORT. Statements made once for every constructor of `Instr`. -/

namespace Sys2Proof.Laws

/-- What the frame of a command looks like (spec/11_formats.md): its code names a command, opens no result transaction,
and requires as many parameter bytes as the command has, so that their number fits the length byte. -/
def FrameShape.Statement (i : Instr) : Prop :=
  ∀ code, i.frameCode = some code →
    commandCodes.contains code = true ∧ code ≠ resultOpeningCode ∧ paramLength code = some i.frameParams.length ∧
      i.frameParams.length < 256

/-- A row that no command frame carries. -/
theorem FrameShape.of_none {i : Instr} (h : i.frameCode = none) : FrameShape.Statement i :=
  fun code e => by simp [h] at e

/-- A row whose frame has a code and a number of parameter bytes. -/
theorem FrameShape.of_code {i : Instr} (code : Byte) (n : Nat) (hc : i.frameCode = some code)
    (hp : i.frameParams.length = n)
    (h : commandCodes.contains code = true ∧ code ≠ resultOpeningCode ∧ paramLength code = some n ∧ n < 256) :
    FrameShape.Statement i := by
  intro c e
  rw [hc, Option.some.injEq] at e
  rw [← e, hp]
  exact h

theorem beBytes_length (k n : Nat) : (Machine.beBytes k n).length = k := by
  induction k generalizing n with
  | zero => rfl
  | succ k ih => simp [Machine.beBytes, ih]

theorem DefineParams.bytes_length (d : DefineParams) : d.bytes.length = 25 := by
  simp [DefineParams.bytes, beBytes_length]

theorem LinkParams.bytes_length (p : LinkParams) : p.bytes.length = 9 := by
  simp [LinkParams.bytes, beBytes_length]

theorem FrameShape.pinReset : FrameShape.Statement .pinReset :=
  FrameShape.of_none rfl

theorem FrameShape.getStatus (seq : Byte) : FrameShape.Statement (.getStatus seq) :=
  FrameShape.of_code 0x01 0 rfl rfl (by decide)

theorem FrameShape.define (seq window : Byte) (params : DefineParams) : FrameShape.Statement (.define seq window params) :=
  FrameShape.of_code 0x10 26 rfl (by simp [Instr.frameParams, DefineParams.bytes_length]) (by decide)

theorem FrameShape.undefine (seq window : Byte) : FrameShape.Statement (.undefine seq window) :=
  FrameShape.of_code 0x11 1 rfl rfl (by decide)

theorem FrameShape.layout (seq : Byte) (counts : Vector Byte 12) : FrameShape.Statement (.layout seq counts) :=
  FrameShape.of_code 0x12 12 rfl (by simp [Instr.frameParams]) (by decide)

theorem FrameShape.openWindow (seq window : Byte) : FrameShape.Statement (.openWindow seq window) :=
  FrameShape.of_code 0x13 1 rfl rfl (by decide)

theorem FrameShape.hold (seq window : Byte) : FrameShape.Statement (.hold seq window) :=
  FrameShape.of_code 0x14 1 rfl rfl (by decide)

theorem FrameShape.release (seq window : Byte) : FrameShape.Statement (.release seq window) :=
  FrameShape.of_code 0x15 1 rfl rfl (by decide)

theorem FrameShape.fence (seq window : Byte) : FrameShape.Statement (.fence seq window) :=
  FrameShape.of_code 0x16 1 rfl rfl (by decide)

theorem FrameShape.unfence (seq window : Byte) : FrameShape.Statement (.unfence seq window) :=
  FrameShape.of_code 0x17 1 rfl rfl (by decide)

theorem FrameShape.close (seq window : Byte) : FrameShape.Statement (.close seq window) :=
  FrameShape.of_code 0x18 1 rfl rfl (by decide)

theorem FrameShape.flush (seq window : Byte) : FrameShape.Statement (.flush seq window) :=
  FrameShape.of_code 0x19 1 rfl rfl (by decide)

theorem FrameShape.readWindow (seq window : Byte) : FrameShape.Statement (.readWindow seq window) :=
  FrameShape.of_code 0x1A 1 rfl rfl (by decide)

theorem FrameShape.readFault (seq window : Byte) : FrameShape.Statement (.readFault seq window) :=
  FrameShape.of_code 0x1B 1 rfl rfl (by decide)

theorem FrameShape.readCounters (seq selector : Byte) : FrameShape.Statement (.readCounters seq selector) :=
  FrameShape.of_code 0x20 1 rfl rfl (by decide)

theorem FrameShape.clearCounters (seq selector : Byte) : FrameShape.Statement (.clearCounters seq selector) :=
  FrameShape.of_code 0x21 1 rfl rfl (by decide)

theorem FrameShape.attach (seq : Byte) : FrameShape.Statement (.attach seq) :=
  FrameShape.of_code 0x30 0 rfl rfl (by decide)

theorem FrameShape.detach (seq : Byte) : FrameShape.Statement (.detach seq) :=
  FrameShape.of_code 0x31 0 rfl rfl (by decide)

theorem FrameShape.setLink (seq : Byte) (params : LinkParams) : FrameShape.Statement (.setLink seq params) :=
  FrameShape.of_code 0x32 9 rfl (by simp [Instr.frameParams, LinkParams.bytes_length]) (by decide)

theorem FrameShape.setMasks (seq windowMask : Byte) (deviceMask : BitVec 16) : FrameShape.Statement (.setMasks seq windowMask deviceMask) :=
  FrameShape.of_code 0x40 3 rfl (by simp [Instr.frameParams, beBytes_length]) (by decide)

theorem FrameShape.readEvents (seq : Byte) : FrameShape.Statement (.readEvents seq) :=
  FrameShape.of_code 0x41 0 rfl rfl (by decide)

theorem FrameShape.ackEvents (seq target : Byte) (kinds : BitVec 16) : FrameShape.Statement (.ackEvents seq target kinds) :=
  FrameShape.of_code 0x42 3 rfl (by simp [Instr.frameParams, beBytes_length]) (by decide)

theorem FrameShape.abort (seq : Byte) : FrameShape.Statement (.abort seq) :=
  FrameShape.of_code 0x50 0 rfl rfl (by decide)

theorem FrameShape.resetBlockWindows (seq target : Byte) : FrameShape.Statement (.resetBlockWindows seq target) :=
  FrameShape.of_code 0x51 1 rfl rfl (by decide)

theorem FrameShape.resetBlockLink (seq target : Byte) : FrameShape.Statement (.resetBlockLink seq target) :=
  FrameShape.of_code 0x51 1 rfl rfl (by decide)

theorem FrameShape.resetBlockAll (seq target : Byte) : FrameShape.Statement (.resetBlockAll seq target) :=
  FrameShape.of_code 0x51 1 rfl rfl (by decide)

theorem FrameShape.frameError (seq code : Byte) (detail : FrameDetail) : FrameShape.Statement (.frameError seq code detail) :=
  FrameShape.of_none rfl

theorem FrameShape.frameDiscarded : FrameShape.Statement .frameDiscarded :=
  FrameShape.of_none rfl

theorem FrameShape.requestPresented (req : BusRequest) : FrameShape.Statement (.requestPresented req) :=
  FrameShape.of_none rfl

theorem FrameShape.acceptanceAttempt : FrameShape.Statement .acceptanceAttempt :=
  FrameShape.of_none rfl

theorem FrameShape.waitLimitExpiry : FrameShape.Statement .waitLimitExpiry :=
  FrameShape.of_none rfl

theorem FrameShape.downstreamResponse (tag : Tag) (ok : Bool) (data : List Byte) : FrameShape.Statement (.downstreamResponse tag ok data) :=
  FrameShape.of_none rfl

theorem FrameShape.ackReceived (window : BitVec 4) (bit syncMark : Bool) : FrameShape.Statement (.ackReceived window bit syncMark) :=
  FrameShape.of_none rfl

theorem FrameShape.nakReceived (window : BitVec 4) (bit : Bool) : FrameShape.Statement (.nakReceived window bit) :=
  FrameShape.of_none rfl

theorem FrameShape.refuseReceived (window : BitVec 4) (bit : Bool) : FrameShape.Statement (.refuseReceived window bit) :=
  FrameShape.of_none rfl

theorem FrameShape.dataReceived (window : BitVec 4) (bit : Bool) (data : List Byte) : FrameShape.Statement (.dataReceived window bit data) :=
  FrameShape.of_none rfl

theorem FrameShape.helloReplyReceived (capacity : BitVec 32) (packetLimit : BitVec 16) (fresh : Bool) : FrameShape.Statement (.helloReplyReceived capacity packetLimit fresh) :=
  FrameShape.of_none rfl

theorem FrameShape.badCheckPacket : FrameShape.Statement .badCheckPacket :=
  FrameShape.of_none rfl

theorem FrameShape.otherInboundPacket (typeCode : Byte) : FrameShape.Statement (.otherInboundPacket typeCode) :=
  FrameShape.of_none rfl

theorem FrameShape.responseLimitExpiry (window : WinId) : FrameShape.Statement (.responseLimitExpiry window) :=
  FrameShape.of_none rfl

theorem FrameShape.nakIntervalEnd (window : WinId) : FrameShape.Statement (.nakIntervalEnd window) :=
  FrameShape.of_none rfl

theorem FrameShape.transmissionEnd : FrameShape.Statement .transmissionEnd :=
  FrameShape.of_none rfl

theorem FrameShape.cycleStart : FrameShape.Statement .cycleStart :=
  FrameShape.of_none rfl

theorem FrameShape.keepAliveExpiry : FrameShape.Statement .keepAliveExpiry :=
  FrameShape.of_none rfl

theorem FrameShape.probeTimerExpiry : FrameShape.Statement .probeTimerExpiry :=
  FrameShape.of_none rfl

theorem FrameShape.attachNoReply : FrameShape.Statement .attachNoReply :=
  FrameShape.of_none rfl

theorem FrameShape.recoveryLimitExpiry : FrameShape.Statement .recoveryLimitExpiry :=
  FrameShape.of_none rfl

theorem FrameShape.lossOfSignal : FrameShape.Statement .lossOfSignal :=
  FrameShape.of_none rfl

theorem FrameShape.signalPresent : FrameShape.Statement .signalPresent :=
  FrameShape.of_none rfl

theorem FrameShape.chipSelectFalls : FrameShape.Statement .chipSelectFalls :=
  FrameShape.of_none rfl

theorem FrameShape.resultTransaction (clocked : Nat) : FrameShape.Statement (.resultTransaction clocked) :=
  FrameShape.of_none rfl

end Sys2Proof.Laws
end

