-- ==== Sys2Proof/Tests/Slice0.lean ====
section
/-! SUPPORT. Tests of the model: the checks of WellFormed, frames and packets written out byte by byte from
spec/11_formats.md, single steps of the manual's worked examples, and for every obligation with hypotheses a state and
operands that meet them. -/

namespace Sys2Proof.Tests

open Sys2Proof.Machine Sys2Proof.Safety

set_option maxRecDepth 20000

/-! ### Small states -/

/-- The state after a step that answers one. -/
def after : Host.Outcome State Fault Refusal → State
  | .next t => t
  | .fault _ | .refused _ => State.reset

/-- A part whose link is ACTIVE in CYCLED mode, with room for 65,536 KiB. -/
def up : State :=
  { State.reset with
    link := { State.reset.link with state := .active, capacity := 65536, packetLimit := 256, signalPresent := true },
    arb := { State.reset.arb with cycleTimer := some ⟨249, 250⟩ } }

/-- A STRICT window of 4 KiB with packet size 64. -/
def strictDef : Definition :=
  { base := 0x1000, size := 4096, farBase := 0x10000, cls := .strict, packetSize := 64, shortPolicy := .fill 0xFF,
    nakInterval := 50, nakLimit := 100, strikeLimit := 2 }

/-- The same range, PERIODIC with a budget of 64 bytes. -/
def periodicDef : Definition := { strictDef with cls := .periodic 64 }

/-- A window with the strict definition, two pages, and nothing in its queue. -/
def strictWin (st : WindowState) : Window := { Window.reset with state := st, defn := some strictDef, pages := 2 }

/-- The active part with window 0 in a state. -/
def one (st : WindowState) : State := up.setWin 0 (strictWin st)

/-- A transfer of window 0, the head, half done. -/
def head (k : TransferKind) : Transfer :=
  { state := .head, window := 0, kind := k, tag := 5, upAddr := 0x1000, farAddr := 0x10000, size := 128,
    bytesDone := 64, flushMark := false, cycleMark := false }

/-- The second packet of that transfer, AWAITING with one microsecond left. -/
def second (k : TransferKind) : Exchange :=
  { body := if k = .read then .read 0x10040 64 true else .write 0x10040 64 true
    state := .awaiting 19 20 0, strikes := 0, lastStrike := none, nakUsed := 50 }

/-- Window 0 in a state, its head half done and its second packet AWAITING. -/
def busy (st : WindowState) (k : TransferKind) : State :=
  (((one st).setWin 0 { strictWin st with queue := [0], seqBit := true, exchange := some (second k) }).setSlot 0
    (some (head k))).setReservation 0 (List.replicate 64 7)
  |>.setTag 5 (if k = .postedWrite then ⟨.none, 0⟩ else ⟨.window 0, 1⟩)

/-- Window 0 SYNCING, its SYNC AWAITING, OPEN running for it. -/
def syncing : State :=
  let s := one .syncing
  { s.setWin 0 { strictWin .syncing with exchange := some ⟨.sync, .awaiting 0 20 0, 0, none, 0⟩ } with
    cmd := { s.cmd with long := ⟨some .openWindow, 17, some 0, .running, .none⟩ } }

/-- A read of some bytes from an address. -/
def readAt (a n : Nat) (t : Tag) : BusRequest := ⟨BitVec.ofNat 40 a, .read n, t⟩

/-- A write of some bytes to an address. -/
def writeAt (a n : Nat) (t : Tag) : BusRequest := ⟨BitVec.ofNat 40 a, .write (List.replicate n 0xAB), t⟩

/-- A local request that waits with its tag outstanding at window 0, and has one microsecond left, or has expired. -/
def waiting (expired : Option ErrorKind) : State :=
  let s := busy .opened .read
  { s with acc := { s.acc with presented := some ⟨readAt 0x9000 4 5, .tag, 99, expired⟩ } }

/-! ### WellFormed: an ill-formed term for each check -/

theorem test_wellFormed_reset_target : (Instr.resetBlockLink 9 3).wellFormed = false := by decide

theorem test_wellFormed_frame_error :
    (Instr.frameError 9 0xA5 .check).wellFormed = false ∧ (Instr.frameError 9 0x13 .code).wellFormed = false := by decide

theorem test_wellFormed_data_length (data : List Byte) (h : data.length = 65536) :
    (Instr.dataReceived 0 true data).wellFormed = false := by simp [Instr.wellFormed, Instr.dataLengthOk, h]

theorem test_wellFormed_other_type : (Instr.otherInboundPacket 0x90).wellFormed = false := by decide

theorem test_table_word_spells_nothing : decodeTableWord 8 0x13 = none := by decide

/-! ### Formats: bytes written out from spec/11_formats.md (check codes by hand calculation) -/

/-- The published check values of the two CRCs of section 11.1 for the text 123456789. -/
theorem test_crc_check_values :
    crc8 [0x31, 0x32, 0x33, 0x34, 0x35, 0x36, 0x37, 0x38, 0x39] = 0xF4 ∧
      crc16 [0x31, 0x32, 0x33, 0x34, 0x35, 0x36, 0x37, 0x38, 0x39] = 0x29B1 := by decide

theorem test_frame_getStatus : rowOfTransaction [0x01, 0x13, 0x00, 0x03] = .getStatus 0x13 := by decide

/-- DEFINE of the window of section 1.12: 64 KiB at 0x80_0000_0000, far base 0x0010_0000, POSTED, packet size 128,
ERROR, NAK interval 50, no NAK limit, strike limit 3. -/
theorem test_frame_define :
    rowOfTransaction
      [0x10, 0x10, 0x1A, 0x03, 0x80, 0x00, 0x00, 0x00, 0x00, 0x00, 0x01, 0x00, 0x00, 0x00, 0x10, 0x00, 0x00, 0x01,
       0x00, 0x80, 0x01, 0x00, 0x00, 0x32, 0x00, 0x00, 0x03, 0x00, 0x00, 0x47] =
      .define 0x10 3 ⟨0x8000000000, 0x10000, 0x100000, 1, 128, 1, 0, 50, 0, 3, 0⟩ := by decide

theorem test_frame_layout :
    rowOfTransaction
      [0x12, 0x05, 0x0C, 0x08, 0x20, 0x20, 0x18, 0x10, 0x04, 0x00, 0x00, 0x00, 0x00, 0x00, 0x00, 0xBC] =
      .layout 5 #v[8, 32, 32, 24, 16, 4, 0, 0, 0, 0, 0, 0] := by decide

theorem test_frame_hold : rowOfTransaction [0x14, 0x12, 0x01, 0x04, 0x42] = .hold 18 4 := by decide

theorem test_frame_readCounters : rowOfTransaction [0x20, 0x07, 0x01, 0xFF, 0x3E] = .readCounters 7 0xFF := by decide

theorem test_frame_setLink :
    rowOfTransaction [0x32, 0x02, 0x09, 0x01, 0x00, 0xFA, 0x02, 0x14, 0x00, 0x32, 0x00, 0x64, 0x8B] =
      .setLink 2 ⟨1, 250, 2, 20, 50, 100⟩ := by decide

theorem test_frame_setMasks : rowOfTransaction [0x40, 0x03, 0x03, 0x3F, 0x01, 0xFF, 0xAA] = .setMasks 3 0x3F 0x1FF := by decide

theorem test_frame_ackEvents : rowOfTransaction [0x42, 0x04, 0x03, 0xFF, 0x01, 0x00, 0xAF] = .ackEvents 4 0xFF 0x100 := by decide

theorem test_frame_resetBlock : rowOfTransaction [0x51, 0x09, 0x01, 0x02, 0xCB] = .resetBlockLink 9 2 := by decide

/-- R156: an incomplete frame, a wrong check code, a byte too many, and a result transaction (R155). -/
theorem test_transactions_that_carry_no_command :
    rowOfTransaction [0x14, 0x12] = .frameDiscarded ∧
      rowOfTransaction [0x14, 0x12, 0x01, 0x04, 0x43] = .frameError 0x12 0x14 .check ∧
      rowOfTransaction [0x14, 0x12, 0x01, 0x04, 0x42, 0x00] = .frameError 0x12 0x14 .length ∧
      rowOfTransaction [0xA5, 0x00, 0x00] = .resultTransaction 2 := by decide

theorem test_packet_ack :
    rowOfPacket [0x90, 0x82, 0xB4, 0x2E] = .ackReceived 2 true false ∧
      rowOfPacket [0x90, 0x44, 0x0D, 0xA4] = .ackReceived 4 false true := by decide

theorem test_packet_nak : rowOfPacket [0x91, 0x8B, 0x16, 0x36] = .nakReceived 11 true := by decide

theorem test_packet_data :
    rowOfPacket [0x93, 0x05, 0x00, 0x03, 0x01, 0x02, 0x03, 0x0C, 0x22] = .dataReceived 5 false [1, 2, 3] := by decide

theorem test_packet_helloReply :
    rowOfPacket [0x81, 0x00, 0x01, 0x00, 0x00, 0x01, 0x00, 0x01, 0xE9, 0xDD] =
      .helloReplyReceived 65536 256 true := by decide

/-- A wrong check code, and a good packet of a type that is no response (R81, R82). -/
theorem test_packet_badCheck :
    rowOfPacket [0x90, 0x82, 0xB4, 0x2F] = .badCheckPacket ∧
      rowOfPacket [0x10, 0x00, 0x00, 0x00, 0x00, 0x00, 0x00, 0x01, 0xAA, 0x6C, 0x1D] = .otherInboundPacket 0x10 := by decide

theorem test_packet_sent :
    (Packet.write 2 true 0x00020400 [1, 2, 3]).bytes =
        [0x10, 0x82, 0x00, 0x02, 0x04, 0x00, 0x00, 0x03, 0x01, 0x02, 0x03, 0x0F, 0x01] ∧
      (Packet.cycle 42).bytes = [0x02, 0x00, 0x2A, 0x27, 0xD4] := by decide

/-! ### Single steps of the manual's examples -/

/-- The result record of the state a command leaves. -/
def answerOf (o : Host.Outcome State Fault Refusal) : FrameOutcome × ResultReason :=
  ((after o).cmd.result.outcome, (after o).cmd.result.reason)

/-- Section 4.8: counts of sum 136 are refused OVER_CAPACITY, counts of sum 116 are taken and leave 12 pages. -/
theorem test_layout_capacity :
    answerOf (exec (.layout 1 #v[8, 32, 32, 32, 32, 0, 0, 0, 0, 0, 0, 0]) up) = (.refused, .refusal .overCapacity) ∧
      (after (exec (.layout 1 #v[8, 32, 32, 24, 16, 4, 0, 0, 0, 0, 0, 0]) up)).unassignedPages = 12 := by decide

/-- Section 1.12: OPEN of a DEFINED window answers PENDING and makes it SYNCING. -/
theorem test_open_syncing :
    answerOf (exec (.openWindow 17 0) (one .defined)) = (.pending, .absent) ∧
      ((after (exec (.openWindow 17 0) (one .defined))).win 0).state = .syncing := by decide

/-- Section 7.11: OPEN of a PERIODIC window in FREE mode at cycle count 7, while a packet is being sent: the mode is
CYCLED and CYCLE 8 is pending. -/
theorem test_open_periodic_in_free :
    let s := up.setWin 0 { strictWin .defined with defn := some periodicDef, remaining := some 64 }
    let t := after (exec (.openWindow 1 0) { s with
      arb := { s.arb with mode := .free, cycleCount := 7, cycleTimer := none, transmitter := some .idle } })
    t.arb.mode = .cycled ∧ t.arb.marker = some (.cycle 8) := by decide

/-- Section 9.9: a HOLD while OPEN runs is answered BUSY, and ABORT then halts the window with cause ABORTED. -/
theorem test_busy_then_abort :
    answerOf (exec (.hold 18 0) syncing) = (.busy, .absent) ∧
      ((after (exec (.abort 20) syncing)).win 0).fault = some ⟨.aborted, none, none, 0⟩ := by decide

/-- Section 3.12: the READ of 200 bytes at 0x01_2000_0300 makes the exchange READ 64 at 0x0040_0300. -/
theorem test_read_taken :
    let d := { strictDef with base := 0x0120000000, size := 0x10000, farBase := 0x00400000 }
    let t := after (exec (.requestPresented (readAt 0x0120000300 200 4))
      (up.setWin 6 { strictWin .opened with defn := some d }))
    (t.win 6).exchange.map (·.body) = some (.read 0x00400300 64 false) ∧ t.reserved 6 = 200 := by decide

/-- Section 3.12: the short DATA of 40 bytes after 128 is filled with 0xFF from offset 168 on, and counts 168 bytes. -/
theorem test_short_read_filled :
    let s := (busy .opened .read).setSlot 0 (some { head .read with size := 200, bytesDone := 128 })
    let t := after (exec (.dataReceived 0 true (List.replicate 40 1)) (s.setReservation 0 (List.replicate 128 7)))
    (t.out.answers.map fun a => (a.ok, a.data[167]?, a.data[168]?, a.data.length)) = [(true, some 1, some 0xFF, 200)] ∧
      (t.win 0).counters.bytes = 168 := by decide

/-- Section 5.14: an ACK for an exchange that is not AWAITING is stray. -/
theorem test_late_ack_is_stray :
    let s := (busy .opened .strictWrite).setWin 0
      { strictWin .opened with queue := [0], seqBit := true, exchange := some { second .strictWrite with state := .sending } }
    (after (exec (.ackReceived 0 true false) s)).ev.counters.stray = 1 := by decide

/-- Section 5.14: the last packet's ACK ends the write, answers it OK and toggles the sequence bit. -/
theorem test_ack_ends_write :
    let t := after (exec (.ackReceived 0 true false) (busy .opened .strictWrite))
    t.out.answers = [⟨5, true, []⟩] ∧ (t.win 0).seqBit = false := by decide

/-- Section 6.9: at the strike limit a posted head is lost, the READ behind it answered ERROR, and the two posted
writes behind that discarded. -/
theorem test_strike_limit_halts :
    let x := { second .postedWrite with strikes := 1 }
    let queued := fun k (g : Tag) n => some { head k with state := .queued, tag := g, size := n, bytesDone := 0 }
    let s := ((((busy .opened .postedWrite).setWin 0
      { strictWin .opened with queue := [0, 6, 8, 10], seqBit := true, exchange := some x }).setSlot 6
      (queued .read 9 32)).setSlot 8 (queued .postedWrite 2 64)).setSlot 10 (queued .postedWrite 2 128)
    let t := after (exec (.responseLimitExpiry 0) (s.setTag 9 ⟨.window 0, 1⟩))
    (t.win 0).counters.lostWrites = 1 ∧ (t.win 0).counters.discarded = 2 ∧ t.out.answers = [⟨9, false, []⟩] := by decide

/-- R111 at its boundary: with 50 µs used of a limit of 100 a NAK of 50 µs backs off; with 51 it halts the window. -/
theorem test_nak_limit :
    let used := fun n => (busy .opened .read).setWin 0
      { strictWin .opened with queue := [0], seqBit := true, exchange := some { second .read with nakUsed := n } }
    ((after (exec (.nakReceived 0 true) (used 50))).win 0).state = .opened ∧
      ((after (exec (.nakReceived 0 true) (used 51))).win 0).fault.map (·.cause) = some .nakLimit := by decide

/-- Section 2.11: a write to a full area waits with reason STAGING; at the limit WAIT_EXPIRED grows and the answer is
ERROR. -/
theorem test_wait_limit :
    let s := (busy .held .postedWrite).setSlot 0 (some { head .postedWrite with size := 512 })
    let t := after (exec (.requestPresented (writeAt 0x1000 64 7)) s)
    t.acc.presented.map (·.reason) = some .staging ∧
      ((after (exec .waitLimitExpiry t)).win 0).counters.waitExpired = 1 ∧
      (after (exec .waitLimitExpiry t)).out.answers = [⟨7, false, []⟩] := by decide

/-- Section 2.11: a local read goes downstream, and its response back with its tag. -/
theorem test_local_read :
    let t := after (exec (.requestPresented (readAt 0x9000 4 5)) up)
    t.acc.downstream = 1 ∧
      (after (exec (.downstreamResponse 5 true [1, 2, 3, 4]) t)).out.answers = [⟨5, true, [1, 2, 3, 4]⟩] := by decide

/-- Section 7.10: the cycle start after count 41 sends CYCLE 42 and refills a PERIODIC window. -/
theorem test_cycle_start :
    let s := up.setWin 0 { strictWin .opened with defn := some periodicDef, remaining := some 0 }
    let t := after (exec .cycleStart { s with arb := { s.arb with cycleCount := 41 } })
    t.arb.transmitter = some (.cycle 42) ∧ (t.win 0).remaining = some 64 := by decide

/-- R142: the eighth expiry in a run loses the link. -/
theorem test_eighth_timeout :
    let s := busy .opened .read
    (after (exec (.responseLimitExpiry 0) { s with link := { s.link with timeoutRun := 7 } })).link.state =
      .recovering := by decide

/-- R137 to R139: ATTACH sends a HELLO, and the reply makes the link ACTIVE. -/
theorem test_attach :
    let t := after (exec (.attach 1) State.reset)
    t.arb.transmitter = some .hello ∧
      (after (exec (.helloReplyReceived 65536 256 true) t)).link.state = .active := by decide

/-- R146: a fresh module halts an OPEN window with cause MODULE_RESET and keeps a SYNCING one. -/
theorem test_fresh_module :
    let lost := fun (s : State) => after (exec .lossOfSignal s)
    let back := fun (s : State) => after (exec (.helloReplyReceived 65536 256 true) (lost s))
    ((back (busy .opened .read)).win 0).fault.map (·.cause) = some .moduleReset ∧
      ((back syncing).win 0).state = .syncing := by decide

/-- R4 at the boundaries of the NAK interval and the strike limit. -/
theorem test_define_boundaries :
    let p : DefineParams := ⟨0x1000, 4096, 0x10000, 2, 64, 0, 0xFF, 1023, 0, 7, 4096⟩
    (definitionFrom p).isSome = true ∧ definitionFrom { p with nakInterval := 1024 } = none ∧
      definitionFrom { p with strikeLimit := 8 } = none ∧ definitionFrom { p with budget := 63 } = none := by decide

/-- R167 and R169: an unmasked STRAY asserts ATTN, and its acknowledgement takes it away. -/
theorem test_attn :
    let t := after (exec (.setMasks 1 0 0x080) (after (exec (.otherInboundPacket 0x55) up)))
    t.ev.attn = true ∧ (after (exec (.ackEvents 2 0xFF 0x080) t)).ev.attn = false := by decide

/-! ### Witnesses: a state and operands that meet the hypotheses of each obligation, clause by clause -/

/-- A running response timer and cycle timer; the other running timers stand in the witnesses of LinkTimersExpire. -/
theorem witness_EmptyQueueLetsAMicrosecondPass :
    (busy .opened .read).pending = [] ∧ (busy .opened .read).arb.cycleTimer = some ⟨249, 250⟩ ∧
      ((busy .opened .read).win 0).exchange.map (·.state) = some (.awaiting 19 20 0) ∧
      ((busy .opened .read).win 0).defn = some strictDef := by decide

/-- Window 0 with its exchange in BACKOFF, and one microsecond of the NAK interval left. -/
def backingOff : State :=
  (busy .opened .read).setWin 0
    { strictWin .opened with queue := [0], seqBit := true, exchange := some { second .read with state := .backoff 49 } }

theorem witness_backoff :
    (backingOff.win 0).exchange.map (·.state) = some (.backoff 49) ∧ 49 < strictDef.nakInterval ∧
      (backingOff.win 0).defn = some strictDef ∧ backingOff.pending = [] := by decide

theorem witness_BusyAnswersEveryOtherFrame :
    syncing.cmd.long.state = .running ∧ (Instr.hold 18 0).frameCode = some 0x14 ∧
      (0x14 : Byte) ∉ [(0x01 : Byte), 0x50, 0x51] ∧ (Instr.abort 20).frameCode = some 0x50 := by decide

theorem witness_FrameRoundTrip :
    (Instr.setMasks 3 0xFF 0xFFFF).wellFormed = true ∧
      encodeFrame (.setMasks 3 0xFF 0xFFFF) = some [0x40, 0x03, 0x03, 0xFF, 0xFF, 0xFF, 0xE5] := by decide

theorem witness_TransactionsOfTheManagementPort :
    (0x14 : Byte) ≠ resultOpeningCode ∧ (List.replicate 255 (0 : Byte)).length < 256 ∧
      (0x43 : Byte) ≠ crc8 [0x14, 0x12, 0x01, 0x04] ∧ 0x42 = crc8 [0x14, 0x12, 0x01, 0x04] ∧
      commandCodes.contains 0x1C = false ∧ paramLength 0x14 = some 1 ∧ up.cmd.receiver = .idle := by decide

theorem witness_ReportsChangeNothing : Ready up ∧ Ready (one .opened) := by decide

theorem witness_DefineBadParam :
    Ready up ∧ (definitionFrom ⟨0x1000, 4096, 0x10000, 0, 64, 1, 0xFF, 50, 100, 2, 0⟩).isSome = true := by decide

theorem witness_DefineOutcome :
    let p : DefineParams := ⟨0x1000, 4096, 0x10000, 0, 64, 0, 0xFF, 50, 100, 2, 0⟩
    Ready (one .halted) ∧ Ready (one .defined) ∧ definitionFrom p = some strictDef ∧ ((one .halted).win 0).state.claims = true ∧
      ((one .defined).win 0).state.claims = false ∧ ((one .defined).win 1).state.claims = false ∧
      strictDef.covers 0x1FFF = true ∧ ((one .defined).win 0).defn = some strictDef ∧
      ∀ v : WinId, v ≠ 0 → ((one .defined).win v).state = .unused := by decide

theorem witness_UndefineOutcome :
    Ready (one .defined) ∧ ((one .defined).win 0).state = .defined ∧ Ready (one .opened) ∧
      ((one .opened).win 0).state ≠ .defined ∧ (11 : Nat) < (12 : Byte).toNat ∧
      (0 : Byte) = numberOf 0 := by decide

theorem witness_LayoutOutcome :
    let full : Vector Byte 12 := #v[32, 32, 32, 32, 0, 0, 0, 0, 0, 0, 0, 0]
    let past : Vector Byte 12 := #v[32, 32, 32, 32, 1, 0, 0, 0, 0, 0, 0, 0]
    Ready (one .halted) ∧ Ready (one .defined) ∧ (∀ w : WinId, full[w].toNat ≤ 32) ∧ (allWindows.map fun w => full[w].toNat).sum = 128 ∧
      (∀ w : WinId, past[w].toNat ≤ 32) ∧ (allWindows.map fun w => past[w].toNat).sum = 129 ∧
      (∃ w : WinId, 32 < (full.set 4 33)[w].toNat) ∧ (∃ w : WinId, ((one .halted).win w).state.claims = true) ∧
      (∀ w : WinId, ((one .defined).win w).state.claims = false) := by decide

/-- An active part whose module just holds the window's far range and takes its packets. -/
def justFits (st : WindowState) (d : Definition) (m : LinkMode) : State :=
  let s := up.setWin 0 { strictWin st with defn := some d, pages := 1, remaining := d.cls.budget }
  { s with
    arb := { s.arb with mode := m, cycleTimer := if m = .free then none else s.arb.cycleTimer },
    link := { s.link with capacity := 68, packetLimit := 64 } }

theorem witness_OpenTaken :
    let s := justFits .halted strictDef .cycled
    let p := justFits .defined periodicDef .free
    Ready s ∧ (s.win 0).state = .halted ∧ (s.win 0).pages = 1 ∧ s.link.state = .active ∧
      (strictDef.farBase.toNat + strictDef.size) / 1024 = s.link.capacity ∧
      strictDef.packetSize = s.link.packetLimit ∧ (p.win 0).defn = some periodicDef ∧
      periodicDef.cls.isPeriodic = true ∧ p.arb.mode = .free := by decide

theorem witness_HoldReleaseFenceUnfence :
    (Ready (busy .opened .read) ∧ ((busy .opened .read).win 0).state = .opened) ∧
      (Ready (busy .held .read) ∧ ((busy .held .read).win 0).state = .held) ∧
      (Ready (busy .fenced .read) ∧ ((busy .fenced .read).win 0).state = .fenced) ∧
      (Ready (one .halted) ∧ ((one .halted).win 0).state = .halted) := by decide

theorem witness_CloseAndFlush :
    (Ready (busy .opened .read) ∧ Ready (one .opened) ∧ Ready (busy .held .read)) ∧
      ((busy .opened .read).win 0).queue.getLast? = some 0 ∧ (busy .opened .read).slot 0 = some (head .read) ∧
      ((one .opened).win 0).queue = [] ∧ ((busy .held .read).win 0).queue ≠ [] := by decide

/-- One state for each of the five checks of OPEN. -/
theorem witness_WindowCommandRefusals :
    let s := justFits .defined strictDef .cycled
    (Ready s ∧ (s.win 0).defn = some strictDef) ∧ State.reset.link.state ≠ .active ∧
      (State.win (s.setWin 0 { strictWin .defined with pages := 0 }) 0).pages = 0 ∧
      67 < (strictDef.farBase.toNat + strictDef.size) / 1024 ∧ 63 < strictDef.packetSize ∧
      (one .unused |>.win 0).state ∉ [WindowState.defined, .halted] := by decide

theorem witness_EventUnitCommands :
    (11 : Nat) < (12 : Byte).toNat ∧ (12 : Byte) ≠ 0xFF ∧ 64 ≤ (64 : Byte).toNat ∧ (63 : Byte).toNat < 64 ∧
      512 ≤ (512 : BitVec 16).toNat ∧ (511 : BitVec 16).toNat < 512 ∧ (11 : Byte) = numberOf 11 ∧ Ready up := by decide

/-- The link in another state. -/
def linkIs (l : LinkState) (s : State) : State :=
  let timer : Option Nat := if l = .probing ∨ l = .recovering then some 0 else none
  { s with link := { s.link with state := l, probeTimer := timer, recoveryTimer := timer } }

theorem witness_AttachAndDetach :
    State.reset.link.state = .detached ∧ Ready State.reset ∧ up.link.state = .active ∧
      (linkIs .recovering up).link.state = .recovering ∧ (∀ w : WinId, (up.win w).state.claims = false) ∧
      (∃ w : WinId, ((one .halted).win w).state.claims = true) := by decide

/-- The parameters as a reset leaves them, each bound of the refusal, and a PERIODIC window that forbids FREE. -/
theorem witness_SetLinkOutcome :
    let p : LinkParams := ⟨0, 250, 2, 20, 50, 100⟩
    let s := justFits .opened periodicDef .cycled
    (up.arb.cycleLength = p.cycleLength.toNat ∧ up.arb.keepAliveInterval = p.keepAlive.toNat ∧
      up.eng.responseLimit = p.responseLimit.toNat ∧ up.link.recoveryLimit = p.recoveryLimit.toNat ∧
      up.acc.waitLimit = p.waitLimit.toNat ∧ up.arb.mode = .cycled) ∧
      ((s.win 0).isPeriodic = true ∧ (s.win 0).state.live = true) ∧ (99 : BitVec 16).toNat < 100 ∧
      2000 < (2001 : BitVec 16).toNat ∧ 15 < (16 : Byte).toNat ∧ (1 : Byte).toNat < 2 := by decide

/-- Each changed parameter at its boundary: the mode in both directions, a keep-alive timer at the new interval, a recovery
at the new limit in a lawful table, and a request that has waited the new limit. -/
theorem witness_SetLinkOutcome_changes :
    let free : State := { up with arb := { up.arb with mode := .free, cycleTimer := none, keepAliveTimer := some 1000 } }
    let b := linkIs .recovering (busy .opened .read)
    let r : State := { b with link := { b.link with recoveryTimer := some 49000 } }
    (Ready free ∧ free.arb.mode ≠ .cycled ∧ free.link.state = .active ∧ State.reset.link.state ≠ .active) ∧
      (Ready up ∧ up.arb.mode ≠ .free ∧ up.periodicLive = false) ∧
      (free.arb.keepAliveTimer = some 1000 ∧ (1 : Byte).toNat * 1000 ≤ 1000 ∧
        free.arb.keepAliveInterval ≠ (1 : Byte).toNat) ∧
      (Ready r ∧ r.link.state = .recovering ∧ r.link.recoveryTimer = some 49000 ∧
        (49 : BitVec 16).toNat * 1000 ≤ 49000 ∧ TransferLaw r) ∧
      ((waiting none).acc.presented = some ⟨readAt 0x9000 4 5, .tag, 99, none⟩ ∧ Ready (waiting none) ∧
        (99 : BitVec 16).toNat ≤ 99 ∧ (waiting none).acc.waitLimit ≠ (99 : BitVec 16).toNat) := by
  unfold TransferLaw
  decide

theorem witness_ModeChanges : up.link.state = .active ∧ State.reset.link.state ≠ .active := by decide

/-- A state that meets the hypotheses of each payload field: a presented request, and a window with a definition and an
exchange, and one without. -/
theorem witness_PayloadLayouts :
    let s := busy .opened .read
    up.acc.presented = none ∧ (s.win 0).defn = some strictDef ∧ (s.win 0).exchange = some (second .read) ∧
      (s.win 1).defn = none ∧ (s.win 1).exchange = none := by decide

/-- A NAK of the right and of a wrong length, and a packet of an unknown type. -/
theorem witness_LinkPacketFormats :
    (0x1636 : BitVec 16) = crc16 [0x91, 0x8B] ∧ (0x1637 : BitVec 16) ≠ crc16 [0x91, 0x8B] ∧
      rowOfPacket [0x91, 0x8B, 0x16, 0x36] = .nakReceived 11 true ∧
      (let c := crc16 [0x91, 0x8B, 0x00]
       rowOfPacket [0x91, 0x8B, 0x00, BitVec.ofNat 8 (c.toNat / 256), BitVec.ofNat 8 c.toNat] = .badCheckPacket) ∧
      (let c := crc16 [0x55]
       rowOfPacket [0x55, BitVec.ofNat 8 (c.toNat / 256), BitVec.ofNat 8 c.toNat] = .otherInboundPacket 0x55) := by decide

/-- A FLUSH running for window 0, and an ATTACH running. -/
def flushing : State :=
  let s := (busy .opened .read).setSlot 0 (some { head .read with flushMark := true })
  { s with cmd := { s.cmd with long := ⟨some .flush, 3, some 0, .running, .none⟩ } }

/-- An ATTACH running, its link PROBING. -/
def attaching : State :=
  let s := linkIs .probing State.reset
  { s with cmd := { s.cmd with long := ⟨some .attach, 3, none, .running, .none⟩ } }

theorem witness_AbortOutcome :
    up.cmd.long.state ≠ .running ∧ (syncing.cmd.long.code = some .openWindow ∧ syncing.cmd.long.window = some 0 ∧
      (syncing.win 0).state = .syncing ∧ (syncing.win 0).queue = [] ∧ syncing.acc.presented = none) ∧
      (flushing.cmd.long.code = some .flush ∧ flushing.cmd.long.window = some 0) ∧
      (attaching.cmd.long.code = some .attach ∧ attaching.link.state = .probing ∧
        attaching.cmd.long.state = .running) := by decide

/-- The tables fit together, with a READ of tag 5 outstanding at window 0. -/
theorem witness_ResetWindows_ResetLink_tables :
    TransferLaw (busy .opened .read) ∧ TagLaw (busy .opened .read) ∧
      ((busy .opened .read).tagEntry 5).dest = .window 0 ∧
      ∃ w : WinId, ((busy .opened .read).win w).state ≠ .unused := by
  unfold TransferLaw TagLaw
  decide

theorem witness_ResetWindows_ResetLink :
    syncing.cmd.long.state = .running ∧ ((busy .closing .read).win 0).state.live = true ∧ up.link.state ≠ .detached ∧
      (attaching.runsLong .attach = true ∧ attaching.link.state = .probing) ∧ (0 : Byte) ∉ resetTargets ∧
      (4 : Byte) ∉ resetTargets := by decide

/-- Byte counts 0 and 257, a crossing of 4 KiB at its first byte, a straddle at the window's last byte, and a HALTED
window. -/
theorem witness_RequestAnsweredError :
    let s := one .halted
    (s.acc.presented = none ∧ (s.tagEntry 5).dest = .none) ∧
      malformedRequest (readAt 0x1000 0 5) = true ∧ malformedRequest (readAt 0x1000 257 5) = true ∧
      malformedRequest (readAt 0x1FFF 2 5) = true ∧ malformedRequest (readAt 0x1FFF 1 5) = false ∧
      s.holder 0x1FFF = some 0 ∧ s.holder 0x2000 = none ∧ (s.win 0).state ∉ [WindowState.opened, .held] := by decide

/-- A straddle needs windows that meet off a 4 KiB boundary: window 0 cut to its first KiB. -/
theorem witness_RequestAnsweredError_straddle :
    let s := up.setWin 0 { strictWin .opened with defn := some { strictDef with size := 1024 } }
    s.holder 0x13FF = some 0 ∧ s.holder 0x1400 = none ∧ malformedRequest (readAt 0x13FF 2 5) = false := by decide

/-- A read that fills the area of two pages to its last byte, in the only free slot. -/
theorem witness_FarRequestTaken :
    let s := busy .held .read
    let r := readAt 0x1100 256 5
    let t := s.setSlot 0 (some { head .read with size := 256 })
    (t.acc.presented = none ∧ t.classify r = .far 0 ∧ (t.win 0).state = .held ∧ (t.win 0).defn = some strictDef) ∧
      (transferKind strictDef.cls r.op ≠ .postedWrite ∧ (t.tagEntry r.tag).dest = .window 0) ∧
      (t.slot 1 = none ∧ ∀ j : SlotId, j < 1 → t.slot j ≠ none) ∧
      t.reserved 0 + BusOp.count r.op = (t.win 0).pages * 256 := by decide

/-- The clauses of a local request: 15 and 16 outstanding, and a tag that is outstanding at a window. -/
theorem witness_RequestForwardedOrWaits_local :
    let s := busy .opened .read
    s.classify (readAt 0x9000 4 5) = .localMem ∧ (s.tagEntry 5).dest = .window 0 ∧ (s.tagEntry 6).dest = .none ∧
      (15 : Nat) < 16 ∧ (16 : Nat) ≤ 16 := by decide

/-- The clauses of a far request: its tag outstanding at its window or at another, no FREE slot, one byte too many. -/
theorem witness_RequestForwardedOrWaits_far :
    let s := (busy .opened .read).setSlot 0 (some { head .read with size := 256 })
    let full : State := { s with slots := Vector.replicate 32 (some (head .read)) }
    (s.classify (readAt 0x1000 256 5) = .far 0 ∧ (s.win 0).state.takes = true ∧ (s.win 0).defn = some strictDef) ∧
      ((s.tagEntry 5).dest = .window 0 ∧ ((s.setTag 5 ⟨.window 1, 1⟩).tagEntry 5).dest = .window 1) ∧
      (∀ i : SlotId, full.slot i ≠ none) ∧
      (State.win (s.setWin 0 { strictWin .opened with queue := [0], pages := 1 }) 0).pages * 256 <
        s.reserved 0 + BusOp.count (readAt 0x1000 1 5).op := by decide

/-- The clauses of a request that waits for its tag to be answered ERROR. -/
theorem witness_RequestForwardedOrWaits_tag :
    let s := (busy .opened .read).setWin 0 { strictWin .fenced with queue := [0] }
    s.classify (readAt 0x1000 0 5) = .malformed ∧ s.classify (readAt 0x1000 4 5) = .far 0 ∧
      (s.win 0).state.takes = false ∧ (s.tagEntry 5).dest ≠ .none := by decide

theorem witness_AttemptJudgesAfresh :
    up.acc.presented = none ∧ (waiting none).acc.presented.isSome = true ∧
      (waiting none).acc.presented.map (·.expired) = some none ∧
      (waiting (some .straddle)).acc.presented.map (·.expired) = some (some .straddle) := by decide

/-- R30, R34 and R40: a straddle whose limit expires behind its tag is counted in STRADDLES at its ERROR answer, when the
READ in front of it is answered, and not at the expiry. -/
theorem test_expired_straddle_counts_at_its_answer :
    let s := (busy .opened .read).setWin 0
      { (busy .opened .read).win 0 with defn := some { strictDef with size := 1024 } }
    let t := after (exec .waitLimitExpiry
      { s with acc := { s.acc with presented := some ⟨readAt 0x13FF 2 5, .tag, 99, none⟩ } })
    let u := after (exec (.dataReceived 0 true (List.replicate 64 1)) t)
    (t.ev.counters.straddles = 0 ∧ t.acc.presented.map (·.expired) = some (some .straddle)) ∧
      u.ev.counters.straddles = 1 ∧ u.out.answers.getLast? = some ⟨5, false, []⟩ := by decide

/-- R145: a far module comes back with too little memory for window 0, whose READ of tag 5 is answered ERROR, so the read of
tag 5 that waits for the PERIODIC window 1 is taken in that step, and its head is marked by the cycle start of the step. -/
theorem test_head_taken_at_recovery_is_marked :
    let far := { periodicDef with base := 0x4000, farBase := 0 }
    let b := linkIs .recovering (busy .opened .read)
    let s := b.setWin 1 { strictWin .opened with defn := some far, remaining := some 0 }
    let t := after (exec (.helloReplyReceived 4 256 false)
      { s with acc := { s.acc with presented := some ⟨readAt 0x4000 8 5, .tag, 9, none⟩ } })
    (t.win 0).state = .halted ∧ (t.headOf 1).map (·.2.cycleMark) = some true := by decide

/-- The clauses of the expiry: a local request that waits, a malformed one, and one for a FENCED window. -/
theorem witness_WaitLimitExpires :
    let s := waiting none
    let f := (busy .opened .read).setWin 0 { strictWin .fenced with queue := [0] }
    (s.acc.presented = some ⟨readAt 0x9000 4 5, .tag, 99, none⟩ ∧ s.acc.waitLimit ≠ 0 ∧ s.judge (readAt 0x9000 4 5) = .wait .tag ∧ s.classify (readAt 0x9000 4 5) = .localMem) ∧
      s.classify (readAt 0x1000 257 5) = .malformed ∧
      f.classify (readAt 0x1000 4 5) = .far 0 ∧ (f.win 0).state.takes = false := by decide

/-- The far clause of the expiry: a write one byte too long for the area. -/
theorem witness_WaitLimitExpires_far :
    let s := (busy .held .read).setSlot 0 (some { head .read with size := 512 })
    s.judge (writeAt 0x1000 1 7) = .wait .staging ∧ s.classify (writeAt 0x1000 1 7) = .far 0 ∧
      (s.win 0).state.takes = true := by decide

theorem witness_DownstreamResponsePassedBack :
    let s := after (exec (.requestPresented (readAt 0x9000 4 5)) up)
    (s.tagEntry 5).dest = .localMem ∧ 0 < s.acc.downstream ∧ (up.tagEntry 5).dest ≠ .localMem := by decide

/-- The clauses of an offer: a HELD window, an exchange already there, an empty queue, and a head without exchange. -/
theorem witness_OfferedPacket :
    let s := (busy .opened .read).setWin 0 { strictWin .opened with queue := [0], seqBit := true }
    ((busy .held .read).win 0).state ∉ [WindowState.opened, .fenced, .closing] ∧
      ((busy .opened .read).win 0).exchange.isSome = true ∧ ((one .opened).win 0).queue = [] ∧
      ((s.win 0).exchange = none ∧ (s.win 0).queue.head? = some 0 ∧ s.slot 0 = some (head .read)) := by decide

/-- The windows of the arbiter's choice: window 0 with its second packet READY, PERIODIC with a budget that it just fits, and
STRICT; and a budget one byte short. -/
theorem witness_ArbiterChoice :
    let ready := { second .read with state := .ready }
    let s := (busy .opened .read).setWin 0
      { strictWin .opened with queue := [0], seqBit := true, exchange := some ready }
    let p := fun n => s.setWin 0 { s.win 0 with defn := some periodicDef, remaining := some n }
    (s.arb.transmitter = none ∧ s.arb.marker = none ∧ s.link.state = .active) ∧
      ((s.win 0).exchange = some ready ∧ isCandidate s 0 = true ∧ (s.win 0).isPeriodic = false) ∧
      (∀ v : WinId, v ≠ 0 → (s.win v).exchange = none) ∧
      (isCandidate (p 64) 0 = true ∧ isCandidate (p 63) 0 = false ∧ ((p 64).win 0).isPeriodic = true) ∧
      ({ up.arb with marker := some .idle } : Arbiter).marker = some .idle := by decide

/-- The stray clauses: the link not ACTIVE, window number 12, an exchange of the wrong kind, and a reply at each bound. -/
theorem witness_StrayResponses :
    State.reset.link.state ≠ .active ∧ (∀ w : WinId, w.val ≠ (12 : BitVec 4).toNat) ∧
      Response.fits (.ack false) (second .read).body = false ∧ (0 : BitVec 32).toNat < 1 ∧
      4194304 < (4194305 : BitVec 32).toNat ∧ (31 : BitVec 16).toNat < 32 ∧ 256 < (257 : BitVec 16).toNat := by decide

/-- A transfer of 192 bytes, its second packet AWAITING. -/
def longer (k : TransferKind) : State := (busy .opened k).setSlot 0 (some { head k with size := 192 })

theorem witness_PacketSucceeds :
    ((longer .strictWrite).headOf 0 = some (0, { head .strictWrite with size := 192 }) ∧
      Settles (longer .strictWrite) 0 (second .strictWrite) true (.ack false) ∧
      (second .strictWrite).body = .write 0x10040 64 true ∧ (head .strictWrite).bytesDone + 64 ≠ 192) ∧
      ((longer .read).headOf 0 = some (0, { head .read with size := 192 }) ∧
        Settles (longer .read) 0 (second .read) true (.data (List.replicate 64 0)) ∧
        (second .read).body = .read 0x10040 64 true) := by
  unfold Settles
  decide

/-- The last ACK of a write of a CLOSING window. -/
theorem witness_HeadEnds_write :
    let s := busy .closing .strictWrite
    s.headOf 0 = some (0, head .strictWrite) ∧ (s.win 0).defn = some strictDef ∧
      Settles s 0 (second .strictWrite) true (.ack false) ∧ (second .strictWrite).body = .write 0x10040 64 true ∧
      (head .strictWrite).bytesDone + 64 = (head .strictWrite).size ∧ (head .strictWrite).kind ≠ .read := by
  unfold Settles
  decide

/-- The marked head of a running FLUSH. -/
theorem witness_HeadEnds_flush :
    flushing.headOf 0 = some (0, { head .read with flushMark := true }) ∧ flushing.runsLong .flush = true ∧
      Settles flushing 0 (second .read) true (.data (List.replicate 64 0)) := by
  unfold Settles
  decide

/-- The last DATA of a read, full and one byte short, under each short policy. -/
theorem witness_HeadEnds_read :
    let s := busy .opened .read
    let e := s.setWin 0 { s.win 0 with defn := some { strictDef with shortPolicy := .error } }
    (s.headOf 0 = some (0, head .read) ∧ (s.win 0).defn = some strictDef ∧ (head .read).kind = .read ∧
      Settles s 0 (second .read) true (.data (List.replicate 64 0)) ∧ (head .read).bytesDone + 64 = (head .read).size) ∧
      (Settles s 0 (second .read) true (.data (List.replicate 63 0)) ∧ strictDef.shortPolicy = .fill 0xFF) ∧
      (Settles e 0 (second .read) true (.data (List.replicate 63 0)) ∧ e.headOf 0 = some (0, head .read) ∧
        (e.win 0).defn.map (·.shortPolicy) = some .error) := by
  unfold Settles
  decide

theorem witness_SyncAcknowledgedAndNakBackoff_sync :
    (syncing.win 0).state = .syncing ∧ Settles syncing 0 ⟨.sync, .awaiting 0 20 0, 0, none, 0⟩ true (.ack true) ∧
      syncing.runsLong .openWindow = true ∧ syncing.cmd.long.window = some 0 := by
  unfold Settles
  decide

/-- A NAK that just fits the limit. -/
theorem witness_SyncAcknowledgedAndNakBackoff_nak :
    let s := busy .opened .read
    Settles s 0 (second .read) true .nak ∧ (s.win 0).defn = some strictDef ∧
      (second .read).nakUsed + strictDef.nakInterval = strictDef.nakLimit := by
  unfold Settles
  decide

/-- A REFUSE, a DATA one byte too long, and a NAK one microsecond over the limit. -/
theorem witness_FailureHalts :
    let s := busy .opened .read
    let x := { second .read with nakUsed := 51 }
    let n := s.setWin 0 { s.win 0 with exchange := some x }
    ((s.win 0).state ≠ .halted ∧ Settles s 0 (second .read) true .refuse) ∧
      (Settles s 0 (second .read) true (.data (List.replicate 65 0)) ∧ (second .read).body = .read 0x10040 64 true) ∧
      ((n.win 0).state ≠ .halted ∧ Settles n 0 x true .nak ∧ (n.win 0).defn = some strictDef ∧
        strictDef.nakLimit ≠ 0 ∧ strictDef.nakLimit < x.nakUsed + strictDef.nakInterval) := by
  unfold Settles
  decide

/-- A REFUSE for the window of a running FLUSH, with no request presented. -/
theorem witness_FailureHalts_flush :
    (flushing.win 0).state ≠ .halted ∧ Settles flushing 0 (second .read) true .refuse ∧ flushing.runsFor 0 = true ∧
      flushing.acc.presented = none := by
  unfold Settles
  decide

/-- A strike one below the limit: the wrong bit, the longest AWAITING, and the seventh expiry of a run. -/
theorem witness_StrikesBelowTheLimit :
    let s := busy .opened .read
    let run : State := { s with link := { s.link with timeoutRun := 6 } }
    ((run.win 0).exchange = some (second .read) ∧ (run.win 0).defn = some strictDef ∧ run.link.state = .active) ∧
      (second .read).strikes + 1 < strictDef.strikeLimit ∧ (second .read).body.bitAgrees false = false ∧
      Response.nak.fits (second .read).body = true ∧ run.link.timeoutRun + 1 < 8 ∧
      (∀ v : WinId, v ≠ 0 → (s.win v).awaitStamp = none) ∧ (∀ w : WinId, (up.win w).awaitStamp = none) := by decide

/-- A strike that reaches the limit of 2, at the seventh and at the eighth expiry of a run; and the eighth with a strike
below the limit. -/
theorem witness_StrikesAtTheLimit :
    let x := { second .read with strikes := 1 }
    let s := (busy .opened .read).setWin 0 { strictWin .opened with queue := [0], seqBit := true, exchange := some x }
    let run := fun (n : Nat) (s : State) => { s with link := { s.link with timeoutRun := n } }
    ((s.win 0).exchange = some x ∧ x.state = .awaiting 19 20 0 ∧ (s.win 0).defn = some strictDef ∧
        (s.win 0).state ≠ .halted ∧ strictDef.strikeLimit ≤ x.strikes + 1 ∧ s.link.state = .active) ∧
      (Response.nak.fits x.body = true ∧ x.body.bitAgrees false = false) ∧
      (∀ v : WinId, v ≠ 0 → (s.win v).awaitStamp = none) ∧
      (run 6 s).link.timeoutRun + 1 < 8 ∧ 8 ≤ (run 7 s).link.timeoutRun + 1 ∧
      (second .read).strikes + 1 < strictDef.strikeLimit := by decide

/-- A READ being sent, a packet of no window being sent, and a backoff at its end. -/
theorem witness_TransmissionAndBackoffEnd :
    let x := { second .read with state := .sending }
    let b := (busy .opened .read).setWin 0 { strictWin .opened with queue := [0], exchange := some x }
    let s : State := { b with arb := { b.arb with transmitter := some (.read 0 true 0x10040 64) } }
    (s.arb.transmitter.bind Packet.window = some 0 ∧ (s.win 0).exchange = some x ∧ x.state = .sending) ∧
      Packet.window .hello = none ∧ ((busy .opened .read).win 0).exchange.map (·.state) ≠ some .sending ∧
      ((backingOff.win 0).exchange.map (·.state) = some (.backoff 49) ∧ 49 ≤ strictDef.nakInterval) := by decide

theorem witness_CycleStarts :
    let s := (busy .opened .read).setWin 0 { strictWin .opened with defn := some periodicDef, queue := [0] }
    s.arb.cycleTimer = some ⟨249, 250⟩ ∧ s.arb.transmitter = none ∧ (s.win 0).isPeriodic = true ∧
      s.headOf 0 = some (0, head .read) ∧ periodicDef.cls = .periodic 64 ∧
      (s.setSlot 0 (some { head .read with cycleMark := true })).isLate 0 = true := by decide

/-- The probe timer with the recovery limit one microsecond off and at it, a keep-alive timer, and an ATTACH. -/
theorem witness_LinkTimersExpire :
    let s := { attaching with link := { attaching.link with probeTimer := some 999, recoveryTimer := some 49998 } }
    let r := { attaching with link := { attaching.link with probeTimer := some 999, recoveryTimer := some 49999 } }
    (State.elapse 1 s).link.recoveryDue = false ∧ (State.elapse 1 r).link.recoveryDue = true ∧
      attaching.link.recoveryTimer = some 0 ∧ attaching.runsLong .attach = true ∧
      ({ up.arb with keepAliveTimer := some 1999 } : Arbiter).keepAliveTimer = some 1999 := by decide

theorem witness_RecoveryGivenUp :
    let s := linkIs .recovering (busy .opened .read)
    s.link.state = .recovering ∧ s.link.recoveryTimer = some 0 ∧ (s.win 0).state.live = true ∧
      (s.win 1).state.live = false ∧ TransferLaw s := by
  unfold TransferLaw
  decide

/-- The bounds of an accepted reply, a window just outside the new capacity, and one just inside. -/
theorem witness_HelloReplyAccepted :
    let s := linkIs .recovering (busy .opened .read)
    (1 ≤ (1 : BitVec 32).toNat ∧ (4194304 : BitVec 32).toNat ≤ 4194304 ∧ 32 ≤ (32 : BitVec 16).toNat ∧
      (256 : BitVec 16).toNat ≤ 256) ∧ attaching.link.state = .probing ∧ s.link.state = .recovering ∧
      ((s.win 0).state.live = true ∧ (s.win 0).defn = some strictDef ∧ (s.win 0).state ≠ .syncing) ∧
      (67 : BitVec 32).toNat < (strictDef.farBase.toNat + strictDef.size) / 1024 ∧
      ¬(68 : BitVec 32).toNat < (strictDef.farBase.toNat + strictDef.size) / 1024 ∧ TransferLaw s := by
  unfold TransferLaw
  decide

theorem witness_SignalReports : up.link.state = .active ∧ State.reset.link.state ≠ .active := by decide

/-- A module of four bytes. -/
def tiny : FarModule :=
  { memory := [0, 0, 0, 0], packetLimit := 256, expected := Vector.replicate 12 false, freshness := .kept }

theorem witness_ResentWriteWrittenOnce :
    let m₁ := (tiny.write 2 [7, 8]).setBit 0 true
    Answers true tiny (.write 0 false 2 [7, 8]) (some (.ack 0 false false)) m₁ ∧
      Answers true m₁ (.write 0 false 2 [7, 8]) (some (.ack 0 false false)) m₁ :=
  ⟨.writeNew tiny 0 false 2 [7, 8] (by decide) (by decide) (by decide),
    .writeRepeat _ 0 false 2 [7, 8] (by decide) (by decide)⟩

/-- A state in which every law holds: a READ half done, a request waiting for its tag, and the DATA that ends the READ
in front of the queue. -/
def lawful : State := { waiting none with pending := [.dataReceived 0 true (List.replicate 64 1)] }

theorem lawful_steps : ∃ t, step lawful = .next t := ⟨_, rfl⟩

theorem witness_AttnAndBoundsAreKept : (AttnLaw lawful ∧ BoundsLaw lawful) ∧ ∃ t, step lawful = .next t :=
  ⟨by unfold BoundsLaw; decide, lawful_steps⟩

theorem lawful_overlap : OverlapLaw lawful := by
  have only : ∀ v : WinId, v ≠ 0 → (lawful.win v).state = .unused := by decide
  intro a v w hv hw
  have zero : ∀ u : WinId, reserves (lawful.win u) a = true → u = 0 := by
    intro u hu
    by_contra h
    simp [reserves, only u h] at hu
  rw [zero v hv, zero w hw]

theorem witness_WindowRecordsAndRangesFit :
    (ExchangeLaw lawful ∧ FaultLaw lawful ∧ DefinedLaw lawful ∧ OverlapLaw lawful) ∧ ∃ t, step lawful = .next t :=
  ⟨⟨by decide, by decide, by decide, lawful_overlap⟩, lawful_steps⟩

/-- The first and the last byte of window 0, and the byte before and the byte after. -/
theorem witness_WindowMatchAndClass :
    OverlapLaw lawful ∧ lawful.holder 0x1000 = some 0 ∧ lawful.holder 0x1FFF = some 0 ∧ lawful.holder 0xFFF = none ∧
      lawful.holder 0x2000 = none ∧ malformedRequest (readAt 0x1FFF 2 5) = true ∧
      malformedRequest (readAt 0x1F00 256 5) = false := ⟨lawful_overlap, by decide⟩

theorem witness_LinkAndLongCommandsAgree :
    (ExchangeLaw lawful ∧ LiveLinkLaw lawful ∧ ProbeLaw lawful ∧ SyncLaw lawful) ∧ ∃ t, step lawful = .next t :=
  ⟨by decide, lawful_steps⟩

theorem witness_BudgetsModeAndNakTimeAgree :
    (ExchangeLaw lawful ∧ BudgetLaw lawful ∧ ModeLaw lawful ∧ NakLaw lawful) ∧ ∃ t, step lawful = .next t :=
  ⟨by decide, lawful_steps⟩

theorem witness_TransmitterNeverIdlesWithACandidate :
    (SendingLaw lawful ∧ IdleLaw lawful) ∧ ∃ t, step lawful = .next t := ⟨by decide, lawful_steps⟩

theorem witness_RequestNeverWaitsNeedlessly : SettledLaw lawful ∧ ∃ t, step lawful = .next t :=
  ⟨by decide, lawful_steps⟩

theorem witness_QueuesSlotsAndStagingAgree : TransferLaw lawful ∧ ∃ t, step lawful = .next t :=
  ⟨by unfold TransferLaw; decide, lawful_steps⟩

theorem witness_TagTableTellsWhatIsOutstanding :
    (TransferLaw lawful ∧ TagLaw lawful) ∧ ∃ t, step lawful = .next t :=
  ⟨by unfold TransferLaw TagLaw; decide, lawful_steps⟩

theorem witness_ExchangeIsTheHeadsPacket :
    (TransferLaw lawful ∧ ExchangeLaw lawful ∧ HeadLaw lawful) ∧ ∃ t, step lawful = .next t :=
  ⟨by unfold TransferLaw HeadLaw; decide, lawful_steps⟩

theorem witness_TimersFitTheLinkState : TimerLaw lawful ∧ ∃ t, step lawful = .next t :=
  ⟨by unfold TimerLaw; decide, lawful_steps⟩

end Sys2Proof.Tests
end

section
/-! SUPPORT. Equality of states field by field, counters and tags under repetition, and the failure path as one record
(R113 to R116): what `haltWindow` leaves, written out. -/
namespace Sys2Proof.Machine
open Sys2Proof.Safety

/-! ### Equality of states -/

theorem State.windows_eq_iff {s t : State} : s.windows = t.windows ↔ ∀ w : WinId, s.win w = t.win w := by
  refine ⟨fun h w => by simp [State.win, h], fun h => Vector.ext fun i hi => ?_⟩
  simpa [State.win] using h ⟨i, hi⟩

theorem State.slots_eq_iff {s t : State} : s.slots = t.slots ↔ ∀ i : SlotId, s.slot i = t.slot i := by
  refine ⟨fun h w => by simp [State.slot, h], fun h => Vector.ext fun i hi => ?_⟩
  simpa [State.slot] using h ⟨i, hi⟩

theorem State.staging_eq_iff {s t : State} :
    s.staging = t.staging ↔ ∀ i : SlotId, s.reservation i = t.reservation i := by
  refine ⟨fun h w => by simp [State.reservation, h], fun h => Vector.ext fun i hi => ?_⟩
  simpa [State.reservation] using h ⟨i, hi⟩

theorem State.tags_eq_iff {s t : State} : s.acc.tags = t.acc.tags ↔ ∀ g : Tag, s.tagEntry g = t.tagEntry g := by
  refine ⟨fun h w => by simp [State.tagEntry, h], fun h => Vector.ext fun i hi => ?_⟩
  simpa [State.tagEntry] using h ⟨i, hi⟩

/-- Two states are equal when their windows, slots and reservations are, one by one, and every other block is. -/
theorem State.ext_blocks {s t : State} (hw : ∀ w : WinId, s.win w = t.win w) (hs : ∀ i : SlotId, s.slot i = t.slot i)
    (hr : ∀ i : SlotId, s.reservation i = t.reservation i) (hacc : s.acc = t.acc) (heng : s.eng = t.eng)
    (harb : s.arb = t.arb) (hlink : s.link = t.link) (hcmd : s.cmd = t.cmd) (hev : s.ev = t.ev) (hout : s.out = t.out)
    (hfree : s.freeUses = t.freeUses) (hpend : s.pending = t.pending) : s = t := by
  have h1 := State.windows_eq_iff.mpr hw
  have h2 := State.slots_eq_iff.mpr hs
  have h3 := State.staging_eq_iff.mpr hr
  cases s; cases t; simp_all

/-! ### Reading windows, slots and reservations of a state written out -/

section
variable (s : State)

@[simp] theorem State.modWin_id (w : WinId) : s.modWin w (fun x => x) = s :=
  State.ext_blocks (fun v => by rw [State.win_modWin]; split <;> simp_all) (fun _ => rfl) (fun _ => rfl) rfl rfl rfl rfl
    rfl rfl rfl rfl rfl

theorem State.modWin_modWin (w : WinId) (f g : Window → Window) :
    (s.modWin w f).modWin w g = s.modWin w fun x => g (f x) :=
  State.ext_blocks (fun v => by simp only [State.win_modWin]; split <;> simp_all) (fun _ => rfl) (fun _ => rfl) rfl rfl rfl
    rfl rfl rfl rfl rfl rfl

end

/-! ### Counters and tags under repetition -/

/-- A counter that grows by nothing stays. -/
@[simp] theorem grow_zero (c : Counter) : grow c 0 = c := by
  have : c.toNat ≤ counterMax := by have := c.isLt; unfold counterMax; omega
  apply BitVec.eq_of_toNat_eq
  rw [grow_toNat]; omega

/-- Two growths of a counter are one by their sum. -/
theorem grow_grow (c : Counter) (m n : Nat) : grow (grow c m) n = grow c (m + n) := by
  apply BitVec.eq_of_toNat_eq
  simp only [grow_toNat]; omega

@[simp] theorem WindowCounters.grow_zero (c : WindowCounters) (k : WindowCounter) : c.grow k 0 = c := by
  cases k <;> simp [WindowCounters.grow]

theorem WindowCounters.grow_grow (c : WindowCounters) (k : WindowCounter) (m n : Nat) :
    (c.grow k m).grow k n = c.grow k (m + n) := by
  cases k <;> simp [WindowCounters.grow, Machine.grow_grow]

/-- A tag's entry after `n` answers of it have left (R29). -/
def TagEntry.fall (e : TagEntry) (n : Nat) : TagEntry :=
  if n = 0 then e else if e.count ≤ n then ⟨.none, 0⟩ else ⟨e.dest, e.count - n⟩

@[simp] theorem TagEntry.fall_zero (e : TagEntry) : e.fall 0 = e := rfl

theorem TagEntry.fall_fall (e : TagEntry) (m n : Nat) : (e.fall m).fall n = e.fall (m + n) := by
  unfold TagEntry.fall
  grind

/-- A fall of a tag is a fall of its entry by one answer. -/
theorem State.tagEntry_tagFalls_eq (s : State) (t g : Tag) :
    (s.tagFalls t).tagEntry g = (s.tagEntry g).fall (if t = g then 1 else 0) := by
  rw [State.tagEntry_tagFalls]
  by_cases h : g = t
  · subst h; simp [TagEntry.fall]
  · simp [h, Ne.symm h]

/-- How many of these transfers are answered under a tag. -/
def strictCount (ts : List Transfer) (g : Tag) : Nat :=
  (ts.filter fun t => t.kind != .postedWrite && t.tag == g).length

theorem strictCount_append (ts us : List Transfer) (g : Tag) :
    strictCount (ts ++ us) g = strictCount ts g + strictCount us g := by simp [strictCount]

theorem tagsAfter_eq (s : State) (ts : List Transfer) :
    tagsAfter s ts = Vector.ofFn fun g => (s.tagEntry g).fall (strictCount ts g) := rfl

/-- With nothing to answer the tags stay. -/
@[simp] theorem tagsAfter_nil (s : State) : tagsAfter s [] = s.acc.tags :=
  Vector.ext fun i hi => by simp [tagsAfter, State.tagEntry]

/-- Two rounds of answers are one round of both. -/
theorem tagsAfter_tagsAfter {s t : State} {ts : List Transfer} (h : t.acc.tags = tagsAfter s ts) (us : List Transfer) :
    tagsAfter t us = tagsAfter s (ts ++ us) := by
  simp only [tagsAfter_eq]
  congr 1; funext g
  have : t.tagEntry g = (s.tagEntry g).fall (strictCount ts g) := by
    simp [State.tagEntry, h, tagsAfter_eq]
  rw [this, TagEntry.fall_fall, strictCount_append]

theorem tagsAfter_congr {s t : State} (h : t.acc.tags = s.acc.tags) (ts : List Transfer) :
    tagsAfter t ts = tagsAfter s ts := by
  simp only [tagsAfter_eq, State.tags_eq_iff.mp h]

theorem errorAnswers_append (ts us : List Transfer) : errorAnswers (ts ++ us) = errorAnswers ts ++ errorAnswers us := by
  simp [errorAnswers]

/-! ### Transfers that end without a success (R23, R113, R114) -/

section
variable (s : State)

/-- The part once the ERROR answers of these transfers have left and their tags have fallen. -/
def State.answerErrors (ts : List Transfer) : State :=
  { s with acc := { s.acc with tags := tagsAfter s ts }
           out := { s.out with answers := s.out.answers ++ errorAnswers ts } }

@[simp] theorem State.answerErrors_nil : s.answerErrors [] = s := by simp [State.answerErrors, errorAnswers]

theorem State.answerErrors_answerErrors (ts us : List Transfer) :
    (s.answerErrors ts).answerErrors us = s.answerErrors (ts ++ us) := by
  have h : tagsAfter (s.answerErrors ts) us = tagsAfter s (ts ++ us) := tagsAfter_tagsAfter rfl us
  simp only [State.answerErrors] at h ⊢
  simp [h, errorAnswers_append]

/-- A posted write that is dropped leaves nothing; a strict transfer is answered ERROR and its tag falls. -/
theorem State.dropTransfer_eq (t : Transfer) : s.dropTransfer t = s.answerErrors [t] := by
  by_cases hk : t.kind = .postedWrite
  · have h : tagsAfter s [t] = s.acc.tags := Vector.ext fun i hi => by simp [tagsAfter, State.tagEntry, hk]
    simp [State.dropTransfer, State.answerErrors, h, hk, errorAnswers]
  · have h : (s.answerTransfer t false []).acc.tags = tagsAfter s [t] := by
      have : tagsAfter s [t] = (s.answerErrors [t]).acc.tags := rfl
      rw [this, State.tags_eq_iff]
      intro g
      rw [State.answerTransfer, State.tagEntry_tagFalls_eq]
      by_cases hg : t.tag = g <;> simp [State.answerErrors, State.tagEntry, tagsAfter_eq, strictCount, hk, hg]
    simp only [State.dropTransfer, hk, if_false, State.answerErrors, ← h, errorAnswers]
    simp [hk]
    rfl

theorem State.foldl_dropTransfer (ts : List Transfer) : ts.foldl State.dropTransfer s = s.answerErrors ts := by
  induction ts generalizing s with
  | nil => simp
  | cons t ts ih => rw [List.foldl_cons, ih, State.dropTransfer_eq, State.answerErrors_answerErrors]; rfl

/-- A transfer that ends by failure is dropped, and a posted one is counted (R113, R114). -/
theorem State.failTransfer_eq (w : WinId) (k : WindowCounter) (t : Transfer) :
    s.failTransfer w k t =
      (s.answerErrors [t]).modWin w fun x =>
        { x with counters := x.counters.grow k (if t.kind = .postedWrite then 1 else 0) } := by
  rw [← State.dropTransfer_eq]
  by_cases hk : t.kind = .postedWrite
  · simp [State.failTransfer, State.dropTransfer, hk, State.countWindow]
  · simp [State.failTransfer, State.dropTransfer, hk]

/-- How many of these transfers are posted writes. -/
def postedCount (ts : List Transfer) : Nat := (ts.filter fun t => t.kind = .postedWrite).length

theorem State.foldl_failTransfer (w : WinId) (ts : List Transfer) :
    ts.foldl (fun s t => s.failTransfer w .discarded t) s =
      (s.answerErrors ts).modWin w fun x => { x with counters := x.counters.grow .discarded (postedCount ts) } := by
  induction ts generalizing s with
  | nil => simp [postedCount]
  | cons t ts ih =>
    have hc : postedCount (t :: ts) = (if t.kind = .postedWrite then 1 else 0) + postedCount ts := by
      by_cases h : t.kind = .postedWrite <;> simp [postedCount, h, Nat.add_comm]
    rw [List.foldl_cons, ih, State.failTransfer_eq, show t :: ts = [t] ++ ts from rfl,
      ← State.answerErrors_answerErrors]
    have comm : ∀ (u : State) (f : Window → Window), (u.modWin w f).answerErrors ts = (u.answerErrors ts).modWin w f :=
      fun _ _ => rfl
    rw [comm, State.modWin_modWin]
    simp only [WindowCounters.grow_grow, List.singleton_append, hc]

/-- A failing queue answers its strict transfers in queue order and counts its posted ones (R113, R114). -/
theorem State.failQueue_eq (w : WinId) (ts : List Transfer) :
    s.failQueue w ts =
      (s.answerErrors ts).modWin w fun x => { x with counters := failedCounters x.counters ts } := by
  cases ts with
  | nil => simp [State.failQueue, failedCounters, discardedOf]
  | cons t ts =>
    have comm : ∀ (u : State) (f : Window → Window), (u.modWin w f).answerErrors ts = (u.answerErrors ts).modWin w f :=
      fun _ _ => rfl
    rw [State.failQueue, State.foldl_failTransfer, State.failTransfer_eq, show t :: ts = [t] ++ ts from rfl,
      ← State.answerErrors_answerErrors, comm, State.modWin_modWin]
    by_cases hk : t.kind = .postedWrite <;> simp [failedCounters, discardedOf, postedCount, hk]

end
end Sys2Proof.Machine
end

section
/-! SUPPORT. The failure path written out as one state (R113 to R116), and obligation O40. -/
namespace Sys2Proof.Machine
open Sys2Proof.Safety

section
variable (s : State)

/-- Slots that become FREE one after another, each with its reservation (R44, R73). -/
def State.freeAll (q : List SlotId) : State := q.foldl (fun s i => s.freeSlot i) s

@[simp] theorem State.freeAll_nil : s.freeAll [] = s := rfl

theorem State.freeAll_cons (i : SlotId) (q : List SlotId) : s.freeAll (i :: q) = (s.freeSlot i).freeAll q := rfl

theorem State.slot_freeAll (q : List SlotId) (i : SlotId) : (s.freeAll q).slot i = if i ∈ q then none else s.slot i := by
  induction q generalizing s with
  | nil => simp
  | cons j q ih => rw [State.freeAll_cons, ih, State.slot_freeSlot]; by_cases h : i = j <;> by_cases hq : i ∈ q <;> simp [h, hq]

theorem State.reservation_freeAll (q : List SlotId) (i : SlotId) :
    (s.freeAll q).reservation i = if i ∈ q then [] else s.reservation i := by
  induction q generalizing s with
  | nil => simp
  | cons j q ih =>
    rw [State.freeAll_cons, ih, State.reservation_freeSlot]
    by_cases h : i = j <;> by_cases hq : i ∈ q <;> simp [h, hq]

/-- The freeing of slots writes nothing but slots and reservations. -/
theorem State.freeAll_frame (q : List SlotId) :
    s.freeAll q = { s with slots := (s.freeAll q).slots, staging := (s.freeAll q).staging } := by
  induction q generalizing s with
  | nil => rfl
  | cons j q ih => rw [State.freeAll_cons, ih]; rfl

variable (q : List SlotId)

@[simp] theorem State.freeAll_windows : (s.freeAll q).windows = s.windows := by rw [State.freeAll_frame]
@[simp] theorem State.freeAll_acc : (s.freeAll q).acc = s.acc := by rw [State.freeAll_frame]
@[simp] theorem State.freeAll_eng : (s.freeAll q).eng = s.eng := by rw [State.freeAll_frame]
@[simp] theorem State.freeAll_arb : (s.freeAll q).arb = s.arb := by rw [State.freeAll_frame]
@[simp] theorem State.freeAll_link : (s.freeAll q).link = s.link := by rw [State.freeAll_frame]
@[simp] theorem State.freeAll_cmd : (s.freeAll q).cmd = s.cmd := by rw [State.freeAll_frame]
@[simp] theorem State.freeAll_ev : (s.freeAll q).ev = s.ev := by rw [State.freeAll_frame]
@[simp] theorem State.freeAll_out : (s.freeAll q).out = s.out := by rw [State.freeAll_frame]
@[simp] theorem State.freeAll_freeUses : (s.freeAll q).freeUses = s.freeUses := by rw [State.freeAll_frame]
@[simp] theorem State.freeAll_pending : (s.freeAll q).pending = s.pending := by rw [State.freeAll_frame]
@[simp] theorem State.freeAll_win (w : WinId) : (s.freeAll q).win w = s.win w := by simp [State.win]
@[simp] theorem State.freeAll_tagEntry (g : Tag) : (s.freeAll q).tagEntry g = s.tagEntry g := by simp [State.tagEntry]

theorem State.freeAll_modWin (w : WinId) (f : Window → Window) : (s.modWin w f).freeAll q = (s.freeAll q).modWin w f := by
  induction q generalizing s with
  | nil => rfl
  | cons j q ih => rw [State.freeAll_cons, State.freeAll_cons, ← ih]; rfl

end

section
variable (s : State)

@[simp] theorem State.answerErrors_windows (ts : List Transfer) : (s.answerErrors ts).windows = s.windows := rfl
@[simp] theorem State.answerErrors_win (ts : List Transfer) (w : WinId) : (s.answerErrors ts).win w = s.win w := rfl
@[simp] theorem State.answerErrors_slot (ts : List Transfer) (i : SlotId) : (s.answerErrors ts).slot i = s.slot i := rfl
@[simp] theorem State.answerErrors_reservation (ts : List Transfer) (i : SlotId) :
    (s.answerErrors ts).reservation i = s.reservation i := rfl
@[simp] theorem State.answerErrors_cmd (ts : List Transfer) : (s.answerErrors ts).cmd = s.cmd := rfl
@[simp] theorem State.answerErrors_ev (ts : List Transfer) : (s.answerErrors ts).ev = s.ev := rfl
@[simp] theorem State.answerErrors_link (ts : List Transfer) : (s.answerErrors ts).link = s.link := rfl

/-- The long command that runs for a window ends FAILED with a cause, and COMMAND_DONE is pending; ATTN is not judged
(R63, R160). -/
def State.failLongFor (w : WinId) (cause : FaultCause) : State :=
  if s.runsFor w then
    { s with cmd := { s.cmd with long := { s.cmd.long with state := .failed, detail := .cause cause } }
             ev := { s.ev with devicePending := s.ev.devicePending ||| DeviceKind.commandDone.bit } }
  else s

theorem State.runsFor_iff (w : WinId) :
    s.runsFor w = true ↔ s.cmd.long.state = .running ∧ s.cmd.long.window = some w := by
  simp [State.runsFor]

theorem State.runsFor_congr {s t : State} (h : t.cmd = s.cmd) (w : WinId) : t.runsFor w = s.runsFor w := by
  simp [State.runsFor, h]

/-- What the failure path leaves of the part (R20, R63, R113 to R116): the answers and the tags of the window's queue,
its slots FREE, its record, the long command that ran for it FAILED, and ATTN at its level. -/
def State.haltedPart (w : WinId) (cause : FaultCause) (strike : Option StrikeKind) (failFar : Option FarAddr) : State :=
  let q := (s.win w).queue
  ((((s.answerErrors (s.transfersOf q)).freeAll q).setWin w (haltedRecord s w cause strike failFar)).failLongFor w
    cause).setAttn

/-- FAULT is raised, and DISCARD where posted writes were discarded: one writing of the pending set. -/
theorem State.raise_fault (w : WinId) (n : Nat) :
    (if n = 0 then s.raiseWindow w .fault else (s.raiseWindow w .fault).raiseWindow w .discard) =
      (s.modWin w fun x => { x with
        pending := x.pending ||| WindowKind.fault.bit ||| (if n = 0 then 0 else WindowKind.discard.bit) }).setAttn := by
  by_cases hn : n = 0
  · simp only [hn, if_true, BitVec.ofNat_eq_ofNat, BitVec.or_zero]; rfl
  · simp only [hn, if_false]
    rw [← State.modWin_modWin s w (fun x => { x with pending := x.pending ||| WindowKind.fault.bit })
      (fun x => { x with pending := x.pending ||| WindowKind.discard.bit })]
    rfl

/-- A long command that runs for the window completes FAILED. -/
theorem State.fail_long (w : WinId) (cause : FaultCause) :
    (if s.setAttn.runsFor w then s.setAttn.completeLong .failed (.cause cause) else s.setAttn) =
      (s.failLongFor w cause).setAttn := by
  rw [show s.setAttn.runsFor w = s.runsFor w from rfl]
  unfold State.failLongFor
  split
  · next h =>
    rw [State.completeLong_running _ (by simpa using ((s.runsFor_iff w).mp h).1)]
    rfl
  · rfl

/-- The failure path in one state. -/
theorem State.haltWindow_eq (w : WinId) (cause : FaultCause) (strike : Option StrikeKind) (failFar : Option FarAddr) :
    s.haltWindow w cause strike failFar = s.haltedPart w cause strike failFar := by
  unfold State.haltWindow State.haltedPart
  dsimp only
  rw [State.raise_fault, State.fail_long, State.failQueue_eq]
  change ((((((State.modWin _ _ _).freeAll _).modWin _ _).modWin _ _).failLongFor _ _).setAttn) = _
  rw [State.freeAll_modWin, State.modWin_modWin, State.modWin_modWin, State.modWin, State.freeAll_win]
  rfl

/-! ### The failure path, block by block -/

variable (w : WinId) (cause : FaultCause) (strike : Option StrikeKind) (failFar : Option FarAddr)

theorem State.failLongFor_frame :
    s.failLongFor w cause = { s with cmd := (s.failLongFor w cause).cmd, ev := (s.failLongFor w cause).ev } := by
  unfold State.failLongFor; split <;> rfl

theorem State.failLongFor_cmd :
    (s.failLongFor w cause).cmd =
      if s.runsFor w then { s.cmd with long := { s.cmd.long with state := .failed, detail := .cause cause } }
      else s.cmd := by unfold State.failLongFor; split <;> rfl

theorem State.failLongFor_ev :
    (s.failLongFor w cause).ev =
      { s.ev with devicePending := if s.runsFor w then s.ev.devicePending ||| DeviceKind.commandDone.bit
                                   else s.ev.devicePending } := by unfold State.failLongFor; split <;> rfl

/-- All that the failure path writes, the command unit and the event unit apart. -/
theorem State.haltWindow_frame :
    s.haltWindow w cause strike failFar =
      { ((s.answerErrors (s.transfersOf (s.win w).queue)).freeAll (s.win w).queue).setWin w
          (haltedRecord s w cause strike failFar) with
        cmd := (s.haltWindow w cause strike failFar).cmd, ev := (s.haltWindow w cause strike failFar).ev } := by
  rw [State.haltWindow_eq, State.haltedPart, State.failLongFor_frame]; rfl

/-- The window's record after its halt, and every other window's. -/
theorem State.haltWindow_win (v : WinId) :
    (s.haltWindow w cause strike failFar).win v =
      if v = w then haltedRecord s w cause strike failFar else s.win v := by
  rw [State.haltWindow_frame]
  exact (State.win_setWin _ w v _).trans (by simp)

theorem State.haltWindow_slot (i : SlotId) :
    (s.haltWindow w cause strike failFar).slot i = if i ∈ (s.win w).queue then none else s.slot i := by
  rw [State.haltWindow_frame]
  exact State.slot_freeAll _ _ i

theorem State.haltWindow_reservation (i : SlotId) :
    (s.haltWindow w cause strike failFar).reservation i =
      if i ∈ (s.win w).queue then [] else s.reservation i := by
  rw [State.haltWindow_frame]
  exact State.reservation_freeAll _ _ i

theorem State.haltWindow_acc :
    (s.haltWindow w cause strike failFar).acc =
      { s.acc with tags := tagsAfter s (s.transfersOf (s.win w).queue) } := by
  rw [State.haltWindow_frame]; exact State.freeAll_acc _ _

theorem State.haltWindow_out :
    (s.haltWindow w cause strike failFar).out =
      { s.out with answers := s.out.answers ++ errorAnswers (s.transfersOf (s.win w).queue) } := by
  rw [State.haltWindow_frame]; exact State.freeAll_out _ _

@[simp] theorem State.haltWindow_freeUses : (s.haltWindow w cause strike failFar).freeUses = s.freeUses := by
  rw [State.haltWindow_frame]; exact State.freeAll_freeUses _ _

theorem State.haltWindow_cmd :
    (s.haltWindow w cause strike failFar).cmd =
      if s.runsFor w then { s.cmd with long := { s.cmd.long with state := .failed, detail := .cause cause } }
      else s.cmd := by
  rw [State.haltWindow_eq, State.haltedPart, State.setAttn_cmd, State.failLongFor_cmd,
    State.runsFor_congr (t := State.setWin _ _ _) (s := s) (by simp)]
  simp only [State.setWin_cmd, State.freeAll_cmd, State.answerErrors_cmd]

theorem State.haltWindow_ev :
    (s.haltWindow w cause strike failFar).ev =
      { s.ev with
        devicePending := if s.runsFor w then s.ev.devicePending ||| DeviceKind.commandDone.bit else s.ev.devicePending
        attn := (s.haltWindow w cause strike failFar).attnLevel } := by
  have h : ∀ u : State, u.setAttn.ev = { u.ev with attn := u.setAttn.attnLevel } := fun _ => rfl
  rw [State.haltWindow_eq, State.haltedPart, h, State.failLongFor_ev,
    State.runsFor_congr (t := State.setWin _ _ _) (s := s) (by simp)]
  simp only [State.setWin_ev, State.freeAll_ev, State.answerErrors_ev]

end
end Sys2Proof.Machine

namespace Sys2Proof.Proofs
open Sys2Proof.Machine Sys2Proof.Safety

/-- Settles O40: the failure path is one state, read block by block. -/
theorem failurePath : Obligations.FailurePath := by
  unfold Obligations.FailurePath
  intro s w cause strike failFar
  have hcmd := s.haltWindow_cmd w cause strike failFar
  have hacc := s.haltWindow_acc w cause strike failFar
  refine ⟨by simp [State.haltWindow_win], fun v hv => by simp [State.haltWindow_win, hv],
    s.haltWindow_out w cause strike failFar,
    fun i => ⟨s.haltWindow_slot w cause strike failFar i, s.haltWindow_reservation w cause strike failFar i⟩,
    by rw [hacc], s.haltWindow_link w cause strike failFar, s.haltWindow_arb w cause strike failFar,
    s.haltWindow_eng w cause strike failFar, by rw [hacc], by rw [hacc], ?_, ?_,
    s.haltWindow_ev w cause strike failFar, by rw [hacc], ?_, s.haltWindow_freeUses w cause strike failFar,
    s.haltWindow_pending w cause strike failFar⟩ <;>
  · rw [hcmd]; split <;> rfl

end Sys2Proof.Proofs
end

section
/-! SUPPORT. The acceptance point's attempt (R25): what it can do, what it and the arbiter's choice leave (`AttemptKeeps`),
and when a step's effects cause it. -/
namespace Sys2Proof.Machine
open Sys2Proof.Safety

/-- The head of a queue is its first slot, with the transfer in it (R47). -/
theorem State.headOf_some {s : State} {w : WinId} {i : SlotId} {t : Transfer} (h : s.headOf w = some (i, t)) :
    (s.win w).queue.head? = some i ∧ s.slot i = some t := by
  unfold State.headOf at h
  split at h
  · simp at h
  · next j q hq =>
    cases ht : s.slot j with
    | none => simp [ht] at h
    | some u => simp_all

section
variable (s : State)

/-! ### What an attempt can do -/

/-- A request is taken only into a window that takes requests, whose tag permits it, into the lowest FREE slot, and only
with room in the window's area (R28 to R31). -/
theorem State.judge_take {r : BusRequest} {w : WinId} {i : SlotId} (h : s.judge r = .take w i) :
    s.classify r = .far w ∧ (s.win w).state.takes = true ∧ s.tagPermitsFar r w = true ∧ s.lowestFree = some i ∧
      s.reserved w + BusOp.count r.op ≤ (s.win w).area := by
  have notError : ∀ k, s.errorVerdict r.tag k ≠ .take w i := by
    intro k; unfold State.errorVerdict; split <;> simp
  unfold State.judge at h
  split at h
  · exact absurd h (notError _)
  · exact absurd h (notError _)
  · unfold State.judgeLocal at h
    dsimp only at h
    split at h
    · simp at h
    · split at h <;> simp at h
  · next v hc =>
    split at h
    · next ht =>
      unfold State.judgeFar at h
      split at h
      · simp at h
      · next hp =>
        split at h
        · simp at h
        · next j hj =>
          split at h
          · next hr =>
            obtain ⟨rfl, rfl⟩ : v = w ∧ j = i := by simpa using h
            exact ⟨hc, ht, by simpa using hp, hj, hr⟩
          · simp at h
    · exact absurd h (notError _)

/-- An attempt does nothing without a presented request. Otherwise it answers ERROR, records a reason to wait, forwards
the request, or takes it into a slot that is FREE (R25). -/
theorem State.attempt_cases :
    (s.acc.presented = none ∧ s.attempt = s) ∨ ∃ p, s.acc.presented = some p ∧
      ((∃ k, s.attempt = (s.note k).errorAnswer p.req.tag) ∨ (∃ r, s.attempt = s.waitFor p r) ∨
        s.attempt = s.forward p.req ∨
        ∃ w i, s.judge p.req = .take w i ∧ s.attempt = s.take p.req w i) := by
  unfold State.attempt
  split
  · next h => exact .inl ⟨h, rfl⟩
  · next p h =>
    refine .inr ⟨p, h, ?_⟩
    split
    · next k _ =>
      rcases s.attemptExpired_cases p k with ⟨-, e⟩ | ⟨-, e⟩
      · exact .inl ⟨k, e⟩
      · exact .inr (.inl ⟨_, e⟩)
    · cases hj : s.judge p.req with
      | error k => exact .inl ⟨k, rfl⟩
      | take w i => exact .inr (.inr (.inr ⟨w, i, rfl, rfl⟩))
      | forward => exact .inr (.inr (.inl rfl))
      | wait r => exact .inr (.inl ⟨r, rfl⟩)

/-- With no request presented an attempt does nothing. -/
theorem State.attempt_of_none (h : s.acc.presented = none) : s.attempt = s := by simp [State.attempt, h]

/-- A far request in its slot, answered or outstanding, before its packet is offered (R36, R45 to R47). -/
def State.taken (r : BusRequest) (w : WinId) (i : SlotId) : State :=
  let t := (s.win w).newTransfer w r
  let u := ((s.setSlot i (some t)).setReservation i (BusOp.copied r.op)).modWin w fun x => { x with queue := x.queue ++ [i] }
  (if t.kind = .postedWrite then u.answer ⟨r.tag, true, []⟩ else u.tagRises r.tag (.window w)).dispose

theorem State.take_eq (r : BusRequest) (w : WinId) (i : SlotId) :
    s.take r w i = ((s.taken r w i).offer w).choose := rfl

theorem State.taken_win (r : BusRequest) (w : WinId) (i : SlotId) (v : WinId) :
    (s.taken r w i).win v = if v = w then { s.win w with queue := (s.win w).queue ++ [i] } else s.win v := by
  unfold State.taken
  dsimp only
  split <;> simp only [State.dispose_win, State.answer_win, State.tagRises_win, State.win_modWin] <;> rfl

theorem State.taken_slot (r : BusRequest) (w : WinId) (i j : SlotId) :
    (s.taken r w i).slot j = if j = i then some ((s.win w).newTransfer w r) else s.slot j := by
  unfold State.taken
  dsimp only
  split <;> simp only [State.dispose_slot, State.answer_slot, State.tagRises_slot, State.modWin_slot,
    State.setReservation_slot, State.slot_setSlot]

theorem State.taken_reservation (r : BusRequest) (w : WinId) (i j : SlotId) :
    (s.taken r w i).reservation j = if j = i then BusOp.copied r.op else s.reservation j := by
  unfold State.taken
  dsimp only
  split <;> simp only [State.dispose_reservation, State.answer_reservation, State.tagRises_reservation,
    State.modWin_reservation, State.reservation_setReservation, State.setSlot_reservation]

/-- Of the other blocks a taking writes the acceptance point and what has left the part. -/
theorem State.taken_frame (r : BusRequest) (w : WinId) (i : SlotId) :
    s.taken r w i = { s with
      windows := (s.taken r w i).windows, slots := (s.taken r w i).slots, staging := (s.taken r w i).staging
      acc := { (s.taken r w i).acc with waitLimit := s.acc.waitLimit }
      out := { s.out with answers := (s.taken r w i).out.answers } } := by
  unfold State.taken
  dsimp only
  split <;> rfl

theorem State.taken_answers (r : BusRequest) (w : WinId) (i : SlotId) :
    s.out.answers <+: (s.taken r w i).out.answers := by
  unfold State.taken
  dsimp only
  split
  · exact List.prefix_append _ _
  · exact List.prefix_rfl

/-! ### What an offer and a choice write of the windows -/

/-- An offer writes the exchange of its window and nothing else. -/
theorem State.offer_win (w v : WinId) :
    (s.offer w).win v = if v = w then { s.win w with exchange := ((s.offer w).win w).exchange } else s.win v := by
  rcases s.offer_cases w with h | ⟨d, i, t, -, -, -, -, h⟩
  · rw [h]; split <;> simp_all
  · rw [h, State.win_modWin, State.win_modWin_self]

/-- A window without an exchange has nothing to send. -/
theorem State.sendExchange_of_none {v : WinId} (h : (s.win v).exchange = none) : s.sendExchange v = s := by
  simp [State.sendExchange, h]

/-- A sent exchange is SENDING, and a PERIODIC window has spent its length (R85, R127). -/
theorem State.sendExchange_win {v : WinId} {e : Exchange} (h : (s.win v).exchange = some e) (w : WinId) :
    (s.sendExchange v).win w =
      if w = v then { s.win v with
        exchange := some { e with state := .sending }
        remaining := if (s.win v).isPeriodic then (s.win v).remaining.map (· - e.body.cost) else (s.win v).remaining }
      else s.win w := by
  simp only [State.sendExchange, h]
  exact State.win_setWin s v w _

/-- A choice sends the exchange of one window, or writes no window. -/
theorem State.choose_sends :
    (∀ w, s.choose.win w = s.win w) ∨ ∃ v e, (s.win v).exchange = some e ∧ s.choose = s.sendExchange v := by
  have send : ∀ v, s.choose = s.sendExchange v →
      (∀ w, s.choose.win w = s.win w) ∨ ∃ v e, (s.win v).exchange = some e ∧ s.choose = s.sendExchange v := by
    intro v h
    cases he : (s.win v).exchange with
    | none => exact .inl fun w => by rw [h, s.sendExchange_of_none he]
    | some e => exact .inr ⟨v, e, he, h⟩
  rcases s.choose_cases with ⟨-, h⟩ | ⟨-, ⟨m, -, h⟩ | ⟨-, ⟨v, -, h⟩ | ⟨-, ⟨v, -, h⟩ | ⟨-, h⟩⟩⟩⟩
  · exact .inl fun w => by rw [h]
  · exact .inl fun w => by rw [h]; rfl
  · exact send v h
  · exact send v h
  · exact .inl fun w => by rw [h]

/-- A choice writes nothing of a window that has no exchange. -/
theorem State.choose_win_of_none {w : WinId} (h : (s.win w).exchange = none) : s.choose.win w = s.win w := by
  rcases s.choose_sends with hs | ⟨v, e, he, hs⟩
  · exact hs w
  · have hv : w ≠ v := fun hv => by simp [hv, he] at h
    rw [hs, s.sendExchange_win he, if_neg hv]

/-- Of the arbiter a choice writes the marker, the pointers and the transmitter. -/
theorem State.choose_arb :
    s.choose.arb = { s.arb with marker := s.choose.arb.marker, periodicPtr := s.choose.arb.periodicPtr,
                                generalPtr := s.choose.arb.generalPtr, transmitter := s.choose.arb.transmitter } := by
  have send : ∀ v, (s.sendExchange v).arb = { s.arb with
      marker := (s.sendExchange v).arb.marker, periodicPtr := (s.sendExchange v).arb.periodicPtr
      generalPtr := (s.sendExchange v).arb.generalPtr, transmitter := (s.sendExchange v).arb.transmitter } := by
    intro v
    unfold State.sendExchange
    split <;> rfl
  rcases s.choose_cases with ⟨-, h⟩ | ⟨-, ⟨m, -, h⟩ | ⟨-, ⟨v, -, h⟩ | ⟨-, ⟨v, -, h⟩ | ⟨-, h⟩⟩⟩⟩ <;> rw [h]
  · exact send v
  · exact send v

@[simp] theorem State.choose_slots : s.choose.slots = s.slots := by rw [State.choose_frame]
@[simp] theorem State.choose_staging : s.choose.staging = s.staging := by rw [State.choose_frame]
@[simp] theorem State.choose_acc : s.choose.acc = s.acc := by rw [State.choose_frame]
@[simp] theorem State.choose_eng : s.choose.eng = s.eng := by rw [State.choose_frame]
@[simp] theorem State.choose_link : s.choose.link = s.link := by rw [State.choose_frame]
@[simp] theorem State.choose_cmd : s.choose.cmd = s.cmd := by rw [State.choose_frame]
@[simp] theorem State.choose_ev : s.choose.ev = s.ev := by rw [State.choose_frame]
@[simp] theorem State.choose_out : s.choose.out = s.out := by rw [State.choose_frame]
@[simp] theorem State.choose_freeUses : s.choose.freeUses = s.freeUses := by rw [State.choose_frame]
@[simp] theorem State.choose_pending : s.choose.pending = s.pending := by rw [State.choose_frame]
@[simp] theorem State.choose_slot (i : SlotId) : s.choose.slot i = s.slot i := by simp [State.slot]
@[simp] theorem State.choose_reservation (i : SlotId) : s.choose.reservation i = s.reservation i := by
  simp [State.reservation]
@[simp] theorem State.choose_tagEntry (g : Tag) : s.choose.tagEntry g = s.tagEntry g := by simp [State.tagEntry]

@[simp] theorem State.offer_slots (w : WinId) : (s.offer w).slots = s.slots := by rw [State.offer_frame]
@[simp] theorem State.offer_staging (w : WinId) : (s.offer w).staging = s.staging := by rw [State.offer_frame]
@[simp] theorem State.offer_acc (w : WinId) : (s.offer w).acc = s.acc := by rw [State.offer_frame]
@[simp] theorem State.offer_eng (w : WinId) : (s.offer w).eng = s.eng := by rw [State.offer_frame]
@[simp] theorem State.offer_arb (w : WinId) : (s.offer w).arb = s.arb := by rw [State.offer_frame]
@[simp] theorem State.offer_link (w : WinId) : (s.offer w).link = s.link := by rw [State.offer_frame]
@[simp] theorem State.offer_cmd (w : WinId) : (s.offer w).cmd = s.cmd := by rw [State.offer_frame]
@[simp] theorem State.offer_ev (w : WinId) : (s.offer w).ev = s.ev := by rw [State.offer_frame]
@[simp] theorem State.offer_out (w : WinId) : (s.offer w).out = s.out := by rw [State.offer_frame]
@[simp] theorem State.offer_freeUses (w : WinId) : (s.offer w).freeUses = s.freeUses := by rw [State.offer_frame]
@[simp] theorem State.offer_pending (w : WinId) : (s.offer w).pending = s.pending := by rw [State.offer_frame]
@[simp] theorem State.offer_slot (w : WinId) (i : SlotId) : (s.offer w).slot i = s.slot i := by simp [State.slot]
@[simp] theorem State.offer_reservation (w : WinId) (i : SlotId) : (s.offer w).reservation i = s.reservation i := by
  simp [State.reservation]
@[simp] theorem State.offer_tagEntry (w : WinId) (g : Tag) : (s.offer w).tagEntry g = s.tagEntry g := by
  simp [State.tagEntry]

end

end Sys2Proof.Machine

namespace Sys2Proof.Safety
open Sys2Proof.Machine

/-! ### What an attempt and a choice leave -/

theorem AttemptKeeps.refl (s : State) : AttemptKeeps s s :=
  ⟨fun _ => ⟨rfl, List.prefix_rfl⟩, fun _ _ => ⟨rfl, rfl⟩, rfl, rfl, rfl, rfl, rfl, rfl, rfl, List.prefix_rfl, rfl, rfl, rfl,
    rfl⟩

theorem AttemptKeeps.trans {s t u : State} (h : AttemptKeeps s t) (k : AttemptKeeps t u) : AttemptKeeps s u := by
  obtain ⟨hw, hs, he, hl, hc, hm, hd, hsent, hclk, ha, hwl, harb, hf, hp⟩ := h
  obtain ⟨kw, ks, ke, kl, kc, km, kd, ksent, kclk, ka, kwl, karb, kf, kp⟩ := k
  refine ⟨fun w => ⟨?_, (hw w).2.trans (kw w).2⟩, fun i hi => ?_, ke.trans he, kl.trans hl, kc.trans hc, km.trans hm,
    kd.trans hd, ksent.trans hsent, kclk.trans hclk, ha.trans ka, kwl.trans hwl, ?_, kf.trans hf, kp.trans hp⟩
  · rw [(kw w).1, (hw w).1]
  · obtain ⟨e1, e2⟩ := hs i hi
    obtain ⟨e3, e4⟩ := ks i (e1 ▸ hi)
    exact ⟨e3.trans e1, e4.trans e2⟩
  · rw [karb, harb]

/-- What changes nothing but the presented request, the tags, the downstream count, the answers, what was forwarded and the
event unit's counters, pending set and ATTN is as an attempt leaves the part. -/
theorem AttemptKeeps.of_frame {s t : State}
    (h : t = { s with acc := { t.acc with waitLimit := s.acc.waitLimit }, ev := t.ev
                      out := { s.out with answers := t.out.answers, forwarded := t.out.forwarded } })
    (hm : t.ev.windowMask = s.ev.windowMask) (hd : t.ev.deviceMask = s.ev.deviceMask)
    (ha : s.out.answers <+: t.out.answers) : AttemptKeeps s t := by
  have hw : ∀ w, t.win w = s.win w := fun w => by rw [h]; rfl
  have hs : ∀ i, t.slot i = s.slot i := fun i => by rw [h]; rfl
  have hr : ∀ i, t.reservation i = s.reservation i := fun i => by rw [h]; rfl
  exact ⟨fun w => by rw [hw w]; exact ⟨rfl, List.prefix_rfl⟩, fun i _ => ⟨hs i, hr i⟩, by rw [h], by rw [h], by rw [h], hm,
    hd, by rw [h], by rw [h], ha, by rw [h], by rw [h], by rw [h], by rw [h]⟩

theorem AttemptKeeps.choose (s : State) : AttemptKeeps s s.choose := by
  refine ⟨fun w => ⟨?_, ?_⟩, fun i _ => ⟨s.choose_slot i, s.choose_reservation i⟩, by simp, by simp, by simp, by simp, by simp,
    by simp, by simp, by simp, by simp, s.choose_arb, by simp, by simp⟩
  · rw [s.choose_win w]
  · rw [s.choose_win w]

theorem AttemptKeeps.offer (s : State) (w : WinId) : AttemptKeeps s (s.offer w) := by
  refine ⟨fun v => ⟨?_, ?_⟩, fun i _ => ⟨by simp, by simp⟩, by simp, by simp, by simp, by simp, by simp,
    by simp, by simp, by simp, by simp, by simp, by simp, by simp⟩ <;>
  · rw [State.offer_win]; split <;> simp_all

theorem AttemptKeeps.taken (s : State) (r : BusRequest) {w : WinId} {i : SlotId} (h : s.slot i = none) :
    AttemptKeeps s (s.taken r w i) := by
  have ne : ∀ j, (s.slot j).isSome = true → j ≠ i := fun j hj e => by simp [e, h] at hj
  have frame := s.taken_frame r w i
  refine ⟨fun v => ?_, fun j hj => ⟨?_, ?_⟩, by rw [frame], by rw [frame], by rw [frame], by rw [frame], by rw [frame],
    by rw [frame], by rw [frame], s.taken_answers r w i, by rw [frame], by rw [frame], by rw [frame], by rw [frame]⟩
  · rw [State.taken_win]; split
    · next hv => subst hv; exact ⟨rfl, List.prefix_append _ _⟩
    · exact ⟨rfl, List.prefix_rfl⟩
  · simp [State.taken_slot, ne j hj]
  · simp [State.taken_reservation, ne j hj]

theorem AttemptKeeps.attempt (s : State) : AttemptKeeps s s.attempt := by
  rcases s.attempt_cases with ⟨-, h⟩ | ⟨p, -, ⟨k, h⟩ | ⟨r, h⟩ | h | ⟨w, i, hj, h⟩⟩ <;> rw [h]
  · exact .refl s
  · exact .of_frame (by cases k <;> rfl) (by cases k <;> rfl) (by cases k <;> rfl)
      (by cases k <;> exact List.prefix_append _ _)
  · exact .of_frame rfl rfl rfl List.prefix_rfl
  · exact .of_frame rfl rfl rfl List.prefix_rfl
  · obtain ⟨-, -, -, hi, -⟩ := s.judge_take hj
    rw [s.take_eq]
    exact ((AttemptKeeps.taken s p.req (s.lowestFree_some hi).1).trans (.offer _ w)).trans (.choose _)

end Sys2Proof.Safety

namespace Sys2Proof.Machine
open Sys2Proof.Safety

section
variable (s : State)

@[simp] theorem State.attempt_link : s.attempt.link = s.link := (AttemptKeeps.attempt s).2.2.2.1
@[simp] theorem State.attempt_eng : s.attempt.eng = s.eng := (AttemptKeeps.attempt s).2.2.1
@[simp] theorem State.attempt_cmd : s.attempt.cmd = s.cmd := (AttemptKeeps.attempt s).2.2.2.2.1
@[simp] theorem State.attempt_pending : s.attempt.pending = s.pending := by
  obtain ⟨-, -, -, -, -, -, -, -, -, -, -, -, -, h⟩ := AttemptKeeps.attempt s
  exact h

/-- An attempt writes nothing of a window without an exchange that takes no requests. -/
theorem State.attempt_win_of_idle {w : WinId} (hx : (s.win w).exchange = none) (ht : (s.win w).state.takes = false) :
    s.attempt.win w = s.win w := by
  rcases s.attempt_cases with ⟨-, h⟩ | ⟨p, -, ⟨k, h⟩ | ⟨r, h⟩ | h | ⟨v, i, hj, h⟩⟩ <;> rw [h]
  · cases k <;> rfl
  · rfl
  · rfl
  · obtain ⟨-, hv, -⟩ := s.judge_take hj
    have ne : w ≠ v := fun e => by rw [e, hv] at ht; exact absurd ht (by decide)
    have e1 : ((s.taken p.req v i).offer v).win w = s.win w := by
      simp [State.offer_win, State.taken_win, ne]
    rw [s.take_eq, State.choose_win_of_none _ (by rw [e1]; exact hx), e1]

/-- To the device's pending set an attempt only adds. -/
theorem State.attempt_devicePending : ∃ k, s.attempt.ev.devicePending = s.ev.devicePending ||| k := by
  rcases s.attempt_cases with ⟨-, h⟩ | ⟨p, -, ⟨k, h⟩ | ⟨r, h⟩ | h | ⟨v, i, -, h⟩⟩ <;> rw [h]
  · exact ⟨0, by simp⟩
  · cases k
    · exact ⟨_, rfl⟩
    · exact ⟨_, rfl⟩
    · exact ⟨0, BitVec.or_zero.symm⟩
    · exact ⟨0, BitVec.or_zero.symm⟩
  · exact ⟨0, BitVec.or_zero.symm⟩
  · exact ⟨0, BitVec.or_zero.symm⟩
  · refine ⟨0, ?_⟩
    rw [s.take_eq, s.taken_frame]
    simp

end

/-! ### When a step's effects cause an attempt (R25) -/

theorem State.windowsMoved_iff {old new : State} :
    State.windowsMoved old new = true ↔
      ∃ w : WinId, (new.win w).state ≠ (old.win w).state ∨ (new.win w).queue ≠ (old.win w).queue := by
  simp [State.windowsMoved, mem_allWindows]

/-- A window that has changed its state or its queue causes an attempt. -/
theorem State.attemptSince_of_moved {old new : State} {w : WinId}
    (h : (new.win w).state ≠ (old.win w).state ∨ (new.win w).queue ≠ (old.win w).queue) :
    new.attemptSince old = new.attempt := by
  rw [State.attemptSince, if_pos (State.windowsMoved_iff.mpr ⟨w, h⟩)]

/-- Where every window keeps its state and its queue there is none. -/
theorem State.attemptSince_of_still {old new : State}
    (h : ∀ w : WinId, (new.win w).state = (old.win w).state ∧ (new.win w).queue = (old.win w).queue) :
    new.attemptSince old = new := by
  have : ¬ State.windowsMoved old new = true := by
    rw [State.windowsMoved_iff]
    rintro ⟨w, h' | h'⟩
    · exact h' (h w).1
    · exact h' (h w).2
  rw [State.attemptSince, if_neg this]

theorem State.attemptSince_cases (new old : State) :
    new.attemptSince old = new.attempt ∨ new.attemptSince old = new := by
  unfold State.attemptSince; split <;> simp

end Sys2Proof.Machine

namespace Sys2Proof.Safety
open Sys2Proof.Machine

theorem AttemptKeeps.attemptSince (new old : State) : AttemptKeeps new (new.attemptSince old) := by
  rcases new.attemptSince_cases old with h | h <;> rw [h]
  · exact .attempt new
  · exact .refl new

end Sys2Proof.Safety
end

section
/-! SUPPORT. What one step can do to the window records, the slots, the link state and the long command together, as a
relation (`Change`) of ten kinds. Every command is a chain of such changes (`exec_changes`, next), so that a law of these
fields needs to be proved for each kind once. -/
namespace Sys2Proof.Proofs
open Sys2Proof.Machine Sys2Proof.Safety

/-! ### Kinds of change -/

/-- What the queues know of a transfer: its window, its place in the queue and the bytes it reserves. -/
def core (t : Transfer) : WinId × SlotState × Nat := (t.window, t.state, t.size)

/-- A window record of which nothing that the laws of windows, queues and links speak of has changed, but for an exchange
that fits if the one before did (R83). -/
structure QuietWin (x y : Window) : Prop where
  state : y.state = x.state
  defn : y.defn = x.defn
  fault : y.fault = x.fault
  pages : y.pages = x.pages
  queue : y.queue = x.queue
  fits : exchangeFits x = true → exchangeFits y = true

/-- A window that has halted (R20, R115): one that was in service, or had an exchange. -/
structure HaltsWin (x y : Window) : Prop where
  state : y.state = .halted
  fault : y.fault.isSome = true
  defn : y.defn = x.defn
  pages : y.pages = x.pages
  queue : y.queue = []
  exchange : y.exchange = none
  wasLive : x.state.live = true ∨ x.exchange.isSome = true

/-- Every slot as the queues know it has stayed. -/
def SlotsKept (s t : State) : Prop := ∀ i : SlotId, (t.slot i).map core = (s.slot i).map core

/-- How the link state may move while a set of windows halts: not at all; to DETACHED, with every window in service halted
unless it was PROBING; from PROBING to ACTIVE; and between ACTIVE and RECOVERING. -/
def LinkMove (H : WinId → Prop) (s t : State) : Prop :=
  t.link.state = s.link.state ∨
  (t.link.state = .detached ∧ (s.link.state ≠ .probing ∨ t.runsLong .attach = false) ∧
    ((∀ w : WinId, (s.win w).state.live = true → H w) ∨ s.link.state = .probing)) ∨
  (s.link.state = .probing ∧ t.link.state = .active ∧ t.runsLong .attach = false) ∨
  ((s.link.state = .active ∨ s.link.state = .recovering) ∧ (t.link.state = .active ∨ t.link.state = .recovering))

/-- How the long command may end while a set of windows halts: it stays, and runs for none of them; or it runs no more, and
was no OPEN of a window that stays SYNCING and no ATTACH of a link that stays PROBING. -/
def LongMove (H : WinId → Prop) (s t : State) : Prop :=
  (t.cmd.long = s.cmd.long ∧ ∀ w, H w → s.runsFor w = false) ∨
  (t.cmd.long.state ≠ .running ∧
    (∀ w, s.runsLong .openWindow = true → s.cmd.long.window = some w → (s.win w).state = .syncing → H w) ∧
    (s.runsLong .attach = true → t.link.state ≠ .probing ∨ ∃ w, H w))

/-- How a command moves one window without its queue: between OPEN, HELD, FENCED and CLOSING; out of service or out of
HALTED to DEFINED (R18, R19); and from DEFINED to UNUSED (R7). -/
inductive WinMove (x y : Window) : Prop
  | moves (old : x.state.carriesQueue = true) (new : y.state.carriesQueue = true) (defn : y.defn = x.defn)
      (fault : y.fault = x.fault) (fits : exchangeFits x = true → exchangeFits y = true)
  | closes (old : (x.state.carriesQueue = true ∧ x.queue = []) ∨ x.state = .halted) (new : y.state = .defined)
      (defn : y.defn = x.defn) (fault : y.fault = none ∨ (x.state ≠ .halted ∧ y.fault = x.fault))
      (exchange : y.exchange = none)
  | removes (old : x.state = .defined) (new : y.state = .unused) (defn : y.defn = none) (fault : y.fault = x.fault)
      (exchange : y.exchange = x.exchange)

/-- Nothing of the other windows, the slots and the link has changed. -/
structure OnlyWin (s t : State) (w : WinId) : Prop where
  others : ∀ v, v ≠ w → QuietWin (s.win v) (t.win v)
  slots : SlotsKept s t
  link : t.link.state = s.link.state
  pages : (t.win w).pages = (s.win w).pages
  queue : (t.win w).queue = (s.win w).queue

/-- One change of the window records, the slots, the link state and the long command. -/
inductive Change (s t : State) : Prop
  /-- Windows halt, the link moves, a long command ends; with no window halted and both kept, nothing moves. -/
  | settles (H : WinId → Prop)
      (halted : ∀ w, H w → HaltsWin (s.win w) (t.win w)) (quiet : ∀ w, ¬ H w → QuietWin (s.win w) (t.win w))
      (freed : ∀ w, H w → ∀ i ∈ (s.win w).queue, t.slot i = none)
      (slots : ∀ i, (∀ w, H w → i ∉ (s.win w).queue) → (t.slot i).map core = (s.slot i).map core)
      (link : LinkMove H s t) (long : LongMove H s t)
  /-- FLUSH or ATTACH starts to run (R61, R136). -/
  | starts (quiet : ∀ w, QuietWin (s.win w) (t.win w)) (slots : SlotsKept s t) (idle : s.cmd.long.state ≠ .running)
      (link : (t.link.state = s.link.state ∧ t.cmd.long.code = some .flush) ∨
        (s.link.state = .detached ∧ t.link.state = .probing ∧ t.runsLong .attach = true))
  /-- OPEN starts to run and its window is SYNCING (R11). -/
  | opens (w : WinId) (only : OnlyWin s t w) (idle : s.cmd.long.state ≠ .running)
      (old : (s.win w).state = .defined ∨ (s.win w).state = .halted) (new : (t.win w).state = .syncing)
      (defn : (t.win w).defn = (s.win w).defn) (fault : (t.win w).fault = none)
      (exchange : (t.win w).exchange.map (·.body) = some .sync) (active : s.link.state = .active)
      (runs : t.runsLong .openWindow = true) (window : t.cmd.long.window = some w)
  /-- A SYNC is acknowledged and OPEN completes (R12). -/
  | syncs (w : WinId) (only : OnlyWin s t w) (old : (s.win w).exchange.map (·.body) = some .sync)
      (new : (t.win w).state = .opened) (defn : (t.win w).defn = (s.win w).defn)
      (fault : (t.win w).fault = (s.win w).fault) (exchange : (t.win w).exchange = none)
      (long : (t.cmd.long = s.cmd.long ∧ ¬ (s.runsLong .openWindow = true ∧ s.cmd.long.window = some w)) ∨
        (t.cmd.long.state ≠ .running ∧ s.runsLong .openWindow = true ∧ s.cmd.long.window = some w))
  /-- A command moves one window. -/
  | moves (w : WinId) (only : OnlyWin s t w) (long : t.cmd.long = s.cmd.long) (move : WinMove (s.win w) (t.win w))
  /-- DEFINE writes a definition whose range meets that of no other window (R5, R6). -/
  | defines (w : WinId) (d : Definition) (only : OnlyWin s t w) (long : t.cmd.long = s.cmd.long)
      (old : (s.win w).state = .unused ∨ (s.win w).state = .defined) (new : (t.win w).state = .defined)
      (defn : (t.win w).defn = some d) (fault : (t.win w).fault = (s.win w).fault)
      (exchange : (t.win w).exchange = (s.win w).exchange) (apart : s.overlapsOther w d = false)
  /-- A request is taken into a slot (R36, R45 to R47). -/
  | takes (r : BusRequest) (w : WinId) (i : SlotId) (judged : s.judge r = .take w i) (result : t = s.taken r w i)
  /-- A head leaves its queue, its exchange already gone, and the next becomes head (steps 2 and 3 of R52). -/
  | pops (w : WinId) (i : SlotId) (head : (s.win w).queue.head? = some i) (none : (s.win w).exchange = none)
      (result : t = ((s.freeSlot i).modWin w fun x => { x with queue := x.queue.tail }).promote w)
  /-- LAYOUT writes the page counts while no window claims its range (R69, R70). -/
  | layout (f : WinId → Nat) (free : s.noneClaims = true) (result : t = s.mapWins fun w x => { x with pages := f w })
  /-- A reset of the window table: every record at its reset value, every slot FREE, no long command RUNNING and no link
  PROBING that ATTACH ran for (R23, R66, R162, R163). -/
  | clears (win : ∀ w, t.win w = .reset) (slots : ∀ i, t.slot i = none) (idle : t.cmd.long.state ≠ .running)
      (link : t.link.state = .detached ∨ (t.link.state = s.link.state ∧ ¬(s.runsLong .attach = true ∧ s.link.state = .probing)))

/-- A chain of changes. -/
def Changes : State → State → Prop := Relation.ReflTransGen Change

theorem Changes.refl (s : State) : Changes s s := Relation.ReflTransGen.refl

/-- A chain, and a chain before it. -/
theorem Changes.after {s t u : State} (k : Changes t u) (h : Changes s t) : Changes s u := Relation.ReflTransGen.trans h k

theorem Change.changes {s t : State} (h : Change s t) : Changes s t := Relation.ReflTransGen.single h

/-! ### Quiet changes -/

/-- Nothing of the window records but exchanges, and nothing of slots, link state and long command, has changed. -/
structure Quiet (s t : State) : Prop where
  win : ∀ w, QuietWin (s.win w) (t.win w)
  slots : SlotsKept s t
  link : t.link.state = s.link.state
  long : t.cmd.long = s.cmd.long

/-- Whether an exchange fits depends on its body only, and on the window's state and queue (R83). -/
theorem exchangeFits_congr {x y : Window} (hs : y.state = x.state) (hq : y.queue = x.queue)
    (hb : y.exchange.map (·.body) = x.exchange.map (·.body)) : exchangeFits y = exchangeFits x := by
  unfold exchangeFits
  cases hx : x.exchange <;> cases hy : y.exchange <;> simp_all

theorem exchangeFits_none {x : Window} (h : x.exchange = none) : exchangeFits x = true := by simp [exchangeFits, h]

theorem QuietWin.refl (x : Window) : QuietWin x x := ⟨rfl, rfl, rfl, rfl, rfl, id⟩

theorem QuietWin.of_eq {x y : Window} (h : y = x) : QuietWin x y := h ▸ .refl x

theorem QuietWin.trans {x y z : Window} (h : QuietWin x y) (k : QuietWin y z) : QuietWin x z :=
  ⟨k.state.trans h.state, k.defn.trans h.defn, k.fault.trans h.fault, k.pages.trans h.pages, k.queue.trans h.queue,
    fun hx => k.fits (h.fits hx)⟩

/-- A record that keeps the body of its exchange is quiet whatever else of the exchange changes. -/
theorem QuietWin.of_body {x y : Window} (hs : y.state = x.state) (hd : y.defn = x.defn) (hf : y.fault = x.fault)
    (hp : y.pages = x.pages) (hq : y.queue = x.queue) (hb : y.exchange.map (·.body) = x.exchange.map (·.body)) :
    QuietWin x y := ⟨hs, hd, hf, hp, hq, fun h => (exchangeFits_congr hs hq hb).trans h⟩

/-- A record that loses its exchange is quiet. -/
theorem QuietWin.of_none {x y : Window} (hs : y.state = x.state) (hd : y.defn = x.defn) (hf : y.fault = x.fault)
    (hp : y.pages = x.pages) (hq : y.queue = x.queue) (hx : y.exchange = none) : QuietWin x y :=
  ⟨hs, hd, hf, hp, hq, fun _ => exchangeFits_none hx⟩

theorem SlotsKept.of_eq {s t : State} (h : t.slots = s.slots) : SlotsKept s t := fun i => by simp [State.slot, h]

theorem Quiet.refl (s : State) : Quiet s s := ⟨fun _ => .refl _, fun _ => rfl, rfl, rfl⟩

/-- A quiet change, and a quiet change before it. -/
theorem Quiet.after {s t u : State} (k : Quiet t u) (h : Quiet s t) : Quiet s u :=
  ⟨fun w => (h.win w).trans (k.win w), fun i => (k.slots i).trans (h.slots i), k.link.trans h.link, k.long.trans h.long⟩

/-- What keeps the windows, the slots, the link state and the long command is quiet. -/
theorem Quiet.of_eq {s t : State} (hw : t.windows = s.windows) (hs : t.slots = s.slots)
    (hl : t.link.state = s.link.state) (hc : t.cmd.long = s.cmd.long) : Quiet s t :=
  ⟨fun w => .of_eq (State.windows_eq_iff.mp hw w), .of_eq hs, hl, hc⟩

theorem Quiet.change {s t : State} (h : Quiet s t) : Change s t :=
  .settles (fun _ => False) (fun _ h => h.elim) (fun w _ => h.win w) (fun _ h => h.elim) (fun i _ => h.slots i)
    (.inl h.link) (.inl ⟨h.long, fun _ h => h.elim⟩)

theorem Quiet.changes {s t : State} (h : Quiet s t) : Changes s t := h.change.changes

theorem Quiet.modWin (s : State) (w : WinId) {f : Window → Window} (h : QuietWin (s.win w) (f (s.win w))) :
    Quiet s (s.modWin w f) := by
  refine ⟨fun v => ?_, .of_eq rfl, rfl, rfl⟩
  rw [State.win_modWin]
  split
  · next e => subst e; exact h
  · exact .refl _

theorem Quiet.mapWins (s : State) {f : WinId → Window → Window} (h : ∀ w, QuietWin (s.win w) (f w (s.win w))) :
    Quiet s (s.mapWins f) :=
  ⟨fun w => by rw [State.win_mapWins]; exact h w, .of_eq rfl, rfl, rfl⟩

theorem Quiet.countWindow (s : State) (w : WinId) (k : WindowCounter) (n : Nat) : Quiet s (s.countWindow w k n) :=
  .modWin s w ⟨rfl, rfl, rfl, rfl, rfl, id⟩

theorem Quiet.raiseWindow (s : State) (w : WinId) (k : WindowKind) : Quiet s (s.raiseWindow w k) :=
  .after (t := s.modWin w fun x => { x with pending := x.pending ||| k.bit }) (.of_eq rfl rfl rfl rfl)
    (.modWin s w ⟨rfl, rfl, rfl, rfl, rfl, id⟩)

theorem Quiet.settleExchange (s : State) (w : WinId) : Quiet s (s.settleExchange w) :=
  .modWin s w (.of_none rfl rfl rfl rfl rfl rfl)

/-- A slot written with a transfer of the same window, place and size is quiet. -/
theorem Quiet.setSlot (s : State) (i : SlotId) {o : Option Transfer} (h : o.map core = (s.slot i).map core) :
    Quiet s (s.setSlot i o) := by
  refine ⟨fun w => .refl _, fun j => ?_, rfl, rfl⟩
  rw [State.slot_setSlot]
  split
  · next e => subst e; exact h
  · rfl

theorem exchangeFits_packet {x : Window} {e : Exchange} (hs : x.state.drains = true) (hq : x.queue ≠ [])
    (he : x.exchange = some e) (hb : e.body ≠ .sync) : exchangeFits x = true := by
  have hq' : x.queue.isEmpty = false := by simpa using hq
  have hb' : (e.body == ExchangeBody.sync) = false := by simpa using hb
  unfold exchangeFits
  rw [he]
  cases hx : x.state <;> simp_all [WindowState.drains, WindowState.live]

theorem packetBody_ne_sync (t : Transfer) (n : Nat) (b : Bool) : packetBody t n b ≠ .sync := by
  unfold packetBody; cases t.kind <;> simp

theorem Quiet.offer (s : State) (w : WinId) : Quiet s (s.offer w) := by
  rcases s.offer_cases w with h | ⟨d, i, t, hx, hd, hh, hs, h⟩ <;> rw [h]
  · exact .refl s
  · refine .modWin s w ⟨rfl, rfl, rfl, rfl, rfl, fun _ => ?_⟩
    have hq := (State.headOf_some hh).1
    exact exchangeFits_packet (e := .new (packetBody t d.packetSize (s.win w).seqBit)) hs
      (fun e => by simp only [] at e; simp [e] at hq) rfl (packetBody_ne_sync _ _ _)

theorem Quiet.choose (s : State) : Quiet s s.choose := by
  refine ⟨fun w => ?_, .of_eq (by simp), by simp, by simp⟩
  rcases s.choose_sends with h | ⟨v, e, he, h⟩
  · exact .of_eq (h w)
  · rw [h, s.sendExchange_win he]
    split
    · next e => subst e; exact .of_body rfl rfl rfl rfl rfl (by simp [he])
    · exact .refl _

end Sys2Proof.Proofs
end

section
/-! SUPPORT. The shared operations as chains of changes: the passing of time, cycles, attempts, ends of heads, the failure
path, strikes and responses. -/
namespace Sys2Proof.Proofs
open Sys2Proof.Machine Sys2Proof.Safety

/-! ### The passing of time and cycle starts -/

theorem Exchange.elapse_body (n i : Nat) (b : Bool) (x : Exchange) : (x.elapse n i b).body = x.body := by
  unfold Machine.Exchange.elapse; split <;> rfl

theorem QuietWin.elapse (n : Nat) (b : Bool) (x : Window) : QuietWin x (x.elapse n b) := by
  unfold Window.elapse
  split
  · next e d he hd => exact .of_body rfl rfl rfl rfl rfl (by simp [he, Exchange.elapse_body])
  · exact .refl x

theorem Quiet.elapse (s : State) (n : Nat) : Quiet s (s.elapse n) :=
  .after (t := s.mapWins fun _ x => x.elapse n (s.link.state = .active)) (.of_eq rfl rfl rfl rfl)
    (.mapWins s fun _ => .elapse _ _ _)

theorem Quiet.foldl {α : Type} {f : State → α → State} (h : ∀ s a, Quiet s (f s a)) (l : List α) (s : State) :
    Quiet s (l.foldl f s) :=
  foldl_invariant (fun t => Quiet s t) f (fun t a ht => (h t a).after ht) l s (.refl s)

theorem Quiet.markHead (s : State) (w : WinId) : Quiet s (s.markHead w) := by
  unfold State.markHead
  split
  · split
    · next i t h => exact .setSlot s i (by simp [(State.headOf_some h).2, core])
    · exact .refl s
  · exact .refl s

theorem Quiet.markHeads (s : State) : Quiet s s.markHeads := .foldl .markHead _ s

theorem Quiet.markNewHeads (s : State) : Quiet s s.markNewHeads := by
  rcases s.markNewHeads_cases with ⟨-, h⟩ | ⟨-, h⟩ <;> rw [h]
  · exact .markHeads s
  · exact .refl s

theorem Quiet.lateDetection (s : State) : Quiet s s.lateDetection := by
  refine .after (.markHeads _) (.foldl (fun u w => ?_) allWindows s)
  split
  · exact .after (.raiseWindow _ w .late) (.countWindow u w .late 1)
  · exact .refl u

theorem QuietWin.refill (x : Window) : QuietWin x x.refill := by
  unfold Window.refill
  split <;> exact ⟨rfl, rfl, rfl, rfl, rfl, id⟩

theorem Quiet.startCycle (s : State) : Quiet s s.startCycle := by
  unfold State.startCycle
  exact .after (.lateDetection _) (.after (.mapWins _ fun _ => .refill _) (.of_eq rfl rfl rfl rfl))

theorem Quiet.startTraffic (s : State) : Quiet s s.startTraffic := by
  unfold State.startTraffic
  split
  · exact .startCycle s
  · exact .of_eq rfl rfl rfl rfl

theorem Quiet.toCycled (s : State) : Quiet s s.toCycled := by
  unfold State.toCycled
  dsimp only
  split
  · exact .after (.startCycle _) (.of_eq rfl rfl rfl rfl)
  · exact .of_eq rfl rfl rfl rfl

/-! ### Attempts (R25) -/

theorem Quiet.note (s : State) (k : ErrorKind) : Quiet s (s.note k) := by
  cases k <;> exact .of_eq rfl rfl rfl rfl

theorem Quiet.errorAnswer (s : State) (g : Tag) : Quiet s (s.errorAnswer g) := .of_eq rfl rfl rfl rfl

theorem Quiet.waitFor (s : State) (p : Presented) (r : WaitReason) : Quiet s (s.waitFor p r) := .of_eq rfl rfl rfl rfl

theorem Quiet.forward (s : State) (r : BusRequest) : Quiet s (s.forward r) := .of_eq rfl rfl rfl rfl

theorem Changes.attempt (s : State) : Changes s s.attempt := by
  rcases s.attempt_cases with ⟨-, h⟩ | ⟨p, -, ⟨k, h⟩ | ⟨r, h⟩ | h | ⟨w, i, hj, h⟩⟩ <;> rw [h]
  · exact .refl s
  · exact (Quiet.after (.errorAnswer _ _) (.note s k)).changes
  · exact (Quiet.waitFor s p r).changes
  · exact (Quiet.forward s p.req).changes
  · exact .after (Quiet.after (.choose _) (.offer _ w)).changes (Change.takes p.req w i hj rfl).changes

theorem Changes.attemptSince (s old : State) : Changes s (s.attemptSince old) := by
  rcases s.attemptSince_cases old with h | h <;> rw [h]
  · exact .attempt s
  · exact .refl s

theorem Changes.settle (s : State) : Changes s s.settle := .after (Quiet.choose _).changes (.attempt s)

theorem Quiet.attemptExpired (s : State) (p : Presented) (k : ErrorKind) : Quiet s (s.attemptExpired p k) := by
  rcases s.attemptExpired_cases p k with ⟨-, h⟩ | ⟨-, h⟩ <;> rw [h]
  · exact .after (.errorAnswer _ _) (.note s k)
  · exact .waitFor s p .tag

theorem Quiet.countExpiry (s : State) (r : BusRequest) : Quiet s (s.countExpiry r) := by
  unfold State.countExpiry
  split
  · split
    · exact .of_eq rfl rfl rfl rfl
    · split
      · exact .after (.raiseWindow _ _ .wait) (.countWindow s _ .waitExpired 1)
      · exact .refl s
    · exact .refl s
    · exact .refl s
  · exact .refl s
  · exact .refl s
  · exact .refl s

theorem Quiet.expireWait (s : State) (p : Presented) : Quiet s (s.expireWait p) :=
  .after (.attemptExpired _ _ _) (.after (t := s.countExpiry p.req) (.of_eq rfl rfl rfl rfl) (.countExpiry s p.req))

/-! ### The failure path -/

/-- A window in service, or with an exchange, halts. -/
theorem HaltsWin.haltedRecord (s : State) (w : WinId) (c : FaultCause) (k : Option StrikeKind) (f : Option FarAddr)
    (h : (s.win w).state.live = true ∨ (s.win w).exchange.isSome = true) :
    HaltsWin (s.win w) (haltedRecord s w c k f) := ⟨rfl, rfl, rfl, rfl, rfl, rfl, h⟩

theorem runsLong_of_not_running {s : State} (h : s.cmd.long.state ≠ .running) (c : LongCode) : s.runsLong c = false := by
  simp [State.runsLong, h]

theorem runsFor_of_not_running {s : State} (h : s.cmd.long.state ≠ .running) (w : WinId) : s.runsFor w = false := by
  simp [State.runsFor, h]

/-- After a halt the long command has stayed and does not run for the window, or it ran for the window and has ended. -/
theorem haltWindow_long (s : State) (w : WinId) (c : FaultCause) (k : Option StrikeKind) (f : Option FarAddr) :
    ((s.haltWindow w c k f).cmd.long = s.cmd.long ∧ s.runsFor w = false) ∨
      ((s.haltWindow w c k f).cmd.long.state ≠ .running ∧ s.cmd.long.window = some w) := by
  rw [s.haltWindow_cmd]
  by_cases h : s.runsFor w = true
  · rw [if_pos h]; exact .inr ⟨by simp, ((s.runsFor_iff w).mp h).2⟩
  · rw [if_neg h]; exact .inl ⟨rfl, by simpa using h⟩

theorem Change.haltWindow (s : State) (w : WinId) (c : FaultCause) (k : Option StrikeKind) (f : Option FarAddr)
    (h : (s.win w).state.live = true ∨ (s.win w).exchange.isSome = true) : Change s (s.haltWindow w c k f) := by
  refine .settles (· = w) ?_ ?_ ?_ ?_ (.inl (by simp)) ?_
  · rintro _ rfl; rw [s.haltWindow_win, if_pos rfl]; exact .haltedRecord s _ c k f h
  · intro v hv; rw [s.haltWindow_win, if_neg hv]; exact .refl _
  · rintro _ rfl i hi; rw [s.haltWindow_slot, if_pos hi]
  · intro i hi; rw [s.haltWindow_slot, if_neg (hi w rfl)]
  · rcases haltWindow_long s w c k f with ⟨h1, h2⟩ | ⟨h1, h2⟩
    · exact .inl ⟨h1, by rintro _ rfl; exact h2⟩
    · exact .inr ⟨h1, fun v _ hv _ => by simpa [h2, eq_comm] using hv, fun _ => .inr ⟨w, rfl⟩⟩

theorem Change.failExchange (s : State) (w : WinId) (x : Exchange) (c : FaultCause) (k : Option StrikeKind)
    (h : (s.win w).state.live = true ∨ (s.win w).exchange.isSome = true) : Change s (s.failExchange w x c k) := by
  unfold State.failExchange
  split
  · exact .haltWindow s w _ _ _ h
  · exact .haltWindow s w _ _ _ h
  · exact .haltWindow s w _ _ _ h

theorem Changes.foldl {α : Type} {f : State → α → State} (h : ∀ s a, Changes s (f s a)) (l : List α) (s : State) :
    Changes s (l.foldl f s) :=
  foldl_invariant (fun t => Changes s t) f (fun t a ht => (h t a).after ht) l s (.refl s)

/-- A fold that halts windows in service is a chain of halts. -/
theorem Changes.haltFold (s : State) (p : State → WinId → Bool) (c : FaultCause)
    (hp : ∀ s w, p s w = true → (s.win w).state.live = true) :
    Changes s (allWindows.foldl (fun s w => if p s w then s.haltWindow w c none none else s) s) := by
  refine .foldl (fun u w => ?_) _ s
  split
  · next h => exact (Change.haltWindow u w _ _ _ (.inl (hp u w h))).changes
  · exact .refl u

theorem Changes.recoveryCheck (s : State) (fresh : Bool) : Changes s (s.recoveryCheck fresh) := by
  unfold State.recoveryCheck
  dsimp only
  refine .after (.haltFold _ (fun s w => (s.win w).state.live && s.outOfRange w) _ fun s w h => ?_) ?_
  · simp only [Bool.and_eq_true] at h; exact h.1
  · split
    · exact .haltFold s (fun s w => (s.win w).state.carriesQueue) _ fun s w h => by
        simp only [WindowState.carriesQueue, Bool.and_eq_true] at h; exact h.1
    · exact .refl s

/-! ### The ends of a head -/

theorem Quiet.answerTransfer (s : State) (t : Transfer) (ok : Bool) (data : List Byte) :
    Quiet s (s.answerTransfer t ok data) := .of_eq rfl rfl rfl rfl

/-- A FLUSH that completes ends (R62). -/
theorem Change.completeDone_flush (s : State) : Change s (s.completeDone .flush) := by
  have hwin : (s.completeDone .flush).windows = s.windows := by rw [s.completeDone_frame]
  have hslot : (s.completeDone .flush).slots = s.slots := by rw [s.completeDone_frame]
  have hlink : (s.completeDone .flush).link = s.link := by rw [s.completeDone_frame]
  refine .settles (fun _ => False) (fun _ h => h.elim) (fun w _ => .of_eq (State.windows_eq_iff.mp hwin w))
    (fun _ h => h.elim) (fun i _ => by simp [State.slot, hslot]) (.inl (by rw [hlink])) ?_
  unfold State.completeDone
  by_cases h : s.runsLong .flush = true
  · have hs : s.cmd.long.state = .running ∧ s.cmd.long.code = some .flush := by simpa [State.runsLong] using h
    rw [if_pos h, s.completeLong_running hs.1]
    exact .inr ⟨by simp, fun w ho => by simp [State.runsLong, hs.2] at ho, fun ho => by simp [State.runsLong, hs.2] at ho⟩
  · rw [if_neg h]; exact .inl ⟨rfl, fun _ h => h.elim⟩

/-- A change of one window record writes no other window, no slot and no link. -/
theorem OnlyWin.modWin (s : State) (w : WinId) {f : Window → Window} (hp : (f (s.win w)).pages = (s.win w).pages)
    (hq : (f (s.win w)).queue = (s.win w).queue) : OnlyWin s (s.modWin w f) w :=
  ⟨fun v hv => .of_eq (s.win_modWin_of_ne hv f), .of_eq rfl, rfl, by simpa using hp, by simpa using hq⟩

theorem Changes.finishClosing (s : State) (w : WinId) : Changes s (s.finishClosing w) := by
  unfold State.finishClosing
  dsimp only
  split
  · next h =>
    obtain ⟨hs, hq⟩ : (s.win w).state = .closing ∧ (s.win w).queue = [] := by simpa using h
    refine .after (Quiet.raiseWindow _ w .closed).changes (Change.changes (.moves w (.modWin s w rfl rfl) rfl
      (.closes (.inl ⟨by rw [hs]; rfl, hq⟩) ?_ ?_ (.inr ⟨?_, ?_⟩) ?_)))
    all_goals simp [hs]
  · exact .refl s

theorem Changes.answerStrict (s : State) (t : Transfer) (ok : Bool) (data : List Byte) :
    Changes s (if t.kind = .postedWrite then s else s.answerTransfer t ok data) := by
  split
  · exact .refl s
  · exact (Quiet.answerTransfer s t ok data).changes

theorem Changes.completeFlush (s : State) (b : Bool) : Changes s (if b then s.completeDone .flush else s) := by
  split
  · exact (Change.completeDone_flush s).changes
  · exact .refl s

theorem Changes.endHead {s : State} {w : WinId} {i : SlotId} (t : Transfer) (ok : Bool) (data : List Byte)
    (hq : (s.win w).queue.head? = some i) (hx : (s.win w).exchange = none) : Changes s (s.endHead w i t ok data) := by
  unfold State.endHead
  dsimp only
  refine .after (Quiet.offer _ w).changes (.after (.finishClosing _ w) (.after (.completeFlush _ _)
    (.after (Quiet.after (.countWindow _ w .bytes _) (.countWindow _ w .transfers 1)).changes
      (.after (Change.changes (.pops w i ?_ ?_ rfl)) (.answerStrict s t ok data)))))
  · split <;> simpa using hq
  · split <;> simpa using hx

theorem Quiet.setReservation (s : State) (i : SlotId) (bs : List Byte) : Quiet s (s.setReservation i bs) :=
  .of_eq rfl rfl rfl rfl

/-- The progress of a head is quiet. -/
theorem Quiet.progress {s : State} {w : WinId} {i : SlotId} {t : Transfer} (h : s.headOf w = some (i, t)) (n : Nat) :
    Quiet s (s.setSlot i (some { t with bytesDone := n })) :=
  .setSlot s i (by simp [(State.headOf_some h).2, core])

@[simp] theorem State.settleExchange_win_self (s : State) (w : WinId) :
    (s.settleExchange w).win w = { s.win w with exchange := none, seqBit := !(s.win w).seqBit } := by
  simp [State.settleExchange]

theorem Changes.packetSucceeds (s : State) (w : WinId) (len : Nat) : Changes s (s.packetSucceeds w len) := by
  unfold State.packetSucceeds
  dsimp only
  split
  · exact (Quiet.settleExchange s w).changes
  · next i t h =>
    have moved := (Quiet.progress h (t.bytesDone + len)).after (.settleExchange s w)
    split
    · exact .after (.endHead _ _ _ (by simpa using (State.headOf_some h).1) (by simp)) moved.changes
    · exact .after (Quiet.offer _ w).changes moved.changes

theorem Changes.endShort (s : State) (w : WinId) (received : Nat) : Changes s (s.endShort w received) := by
  unfold State.endShort
  dsimp only
  split
  · exact (Quiet.settleExchange s w).changes
  · next i t h =>
    have hq := (State.headOf_some h).1
    have moved := Quiet.after (.countWindow _ w .shortReads 1)
      ((Quiet.progress h (t.bytesDone + received)).after (.settleExchange s w))
    split
    · refine .after (.endHead _ _ _ ?_ ?_) (.after (Quiet.raiseWindow _ w .short).changes
        (.after (Quiet.setReservation _ i _).changes moved.changes))
      · simpa [State.win_raiseWindow, State.win_countWindow] using hq
      · simp [State.win_raiseWindow, State.win_countWindow]
    · refine .after (.endHead _ _ _ ?_ ?_) moved.changes
      · simpa [State.win_countWindow] using hq
      · simp [State.win_countWindow]

theorem Quiet.goodPacket (s : State) : Quiet s s.goodPacket := .of_eq rfl rfl rfl rfl

theorem Quiet.stray (s : State) : Quiet s s.stray := .of_eq rfl rfl rfl rfl

theorem Quiet.placeRead (s : State) (w : WinId) (data : List Byte) : Quiet s (s.placeRead w data) := by
  unfold State.placeRead
  split
  · exact .refl s
  · exact .of_eq rfl rfl rfl rfl

/-! ### Strikes and responses -/

theorem Changes.strike (s : State) (w : WinId) (k : StrikeKind) : Changes s (s.strike w k) := by
  unfold State.strike
  split
  · next x d hx hd =>
    dsimp only
    have quiet : Quiet s (((s.countWindow w .strikes 1).modWin w fun y =>
        { y with exchange := some { x with state := .ready, strikes := x.strikes + 1, lastStrike := some k } })) :=
      .after (.modWin _ w (.of_body rfl rfl rfl rfl rfl (by simp [State.win_countWindow, hx]))) (.countWindow s w .strikes 1)
    split
    · exact quiet.changes
    · exact .after (Change.failExchange _ w _ _ _ (.inr (by simp))).changes quiet.changes
  · exact .refl s

theorem Changes.takeNak {s : State} {w : WinId} {x : Exchange} (hx : (s.win w).exchange = some x) :
    Changes s (s.takeNak w x) := by
  unfold State.takeNak
  split
  · exact .refl s
  · next d hd =>
    dsimp only
    have quiet : Quiet s ((s.countWindow w .naks 1).modWin w fun y =>
        { y with exchange := some { x with state := .backoff 0, strikes := 0 } }) :=
      .after (.modWin _ w (.of_body rfl rfl rfl rfl rfl (by simp [State.win_countWindow, hx]))) (.countWindow s w .naks 1)
    split
    · exact .after (Change.failExchange _ w _ _ _ (.inr (by simp))).changes quiet.changes
    · exact quiet.changes

theorem Changes.takeRefuse {s : State} {w : WinId} {x : Exchange} (hx : (s.win w).exchange = some x) :
    Changes s (s.takeRefuse w x) := (Change.failExchange s w x _ _ (.inr (by simp [hx]))).changes

theorem State.placeRead_win (s : State) (w v : WinId) (data : List Byte) : (s.placeRead w data).win v = s.win v := by
  unfold State.placeRead; split <;> rfl

theorem Changes.takeData {s : State} {w : WinId} {x : Exchange} (hx : (s.win w).exchange = some x) (data : List Byte) :
    Changes s (s.takeData w x data) := by
  unfold State.takeData
  split
  · split
    · exact .after (.packetSucceeds _ w _) (Quiet.placeRead s w data).changes
    · split
      · exact .after (.endShort _ w _) (Quiet.placeRead s w data).changes
      · exact (Change.failExchange s w x _ _ (.inr (by simp [hx]))).changes
  · exact .refl s
  · exact .refl s

/-- An acknowledged SYNC opens its window and completes OPEN (R12). -/
theorem Change.syncAcknowledged {s : State} {w : WinId} (hx : (s.win w).exchange.map (·.body) = some .sync) :
    Change s (s.syncAcknowledged w) := by
  have only : OnlyWin s (s.modWin w fun x => { x with state := .opened, exchange := none, seqBit := false }) w :=
    .modWin s w rfl rfl
  have self := s.win_modWin_self w fun x => { x with state := .opened, exchange := none, seqBit := false }
  unfold State.syncAcknowledged State.completeDone
  dsimp only
  split
  · next hw =>
    split
    · next ho =>
      have hr : s.cmd.long.state = .running := by
        simp only [State.runsLong, Bool.and_eq_true, decide_eq_true_eq] at ho; exact ho.1
      rw [State.completeLong_running (s.modWin w _) hr]
      exact .syncs w ⟨only.others, only.slots, rfl, only.pages, only.queue⟩ hx (congrArg Window.state self :)
        (congrArg Window.defn self :) (congrArg Window.fault self :) (congrArg Window.exchange self :) (.inr ⟨by simp, ho, hw⟩)
    · next ho => exact .syncs w only hx (by simp) (by simp) (by simp) (by simp) (.inl ⟨rfl, fun h => ho h.1⟩)
  · next hw => exact .syncs w only hx (by simp) (by simp) (by simp) (by simp) (.inl ⟨rfl, fun h => hw h.2⟩)

theorem Changes.takeAck {s : State} {w : WinId} {x : Exchange} (hx : (s.win w).exchange = some x) :
    Changes s (s.takeAck w x) := by
  unfold State.takeAck
  split
  · exact .packetSucceeds s w _
  · next hb => exact (Change.syncAcknowledged (by simp [hx, hb])).changes
  · exact .refl s

theorem Changes.takeResponse {s : State} {w : WinId} {x : Exchange} (hx : (s.win w).exchange = some x) (r : Response) :
    Changes s (s.takeResponse w x r) := by
  cases r with
  | ack _ => exact .takeAck hx
  | nak => exact .takeNak hx
  | refuse => exact .takeRefuse hx
  | data bytes => exact .takeData hx bytes

/-- A response settles only the exchange that the window has (R94). -/
theorem State.matchResponse_settles {s : State} {f : BitVec 4} {bit : Bool} {r : Response} {w : WinId} {x : Exchange}
    (h : s.matchResponse f bit r = .settles w x) : (s.win w).exchange = some x := by
  unfold State.matchResponse at h
  split at h
  · simp at h
  · split at h
    · simp at h
    · next y hy =>
      split at h
      · split at h
        · simp at h
        · split at h
          · obtain ⟨rfl, rfl⟩ := Match.settles.inj h
            exact hy
          · simp at h
      · simp at h
      · simp at h
      · simp at h

theorem Changes.receive (s : State) (f : BitVec 4) (bit : Bool) (r : Response) : Changes s (s.receive f bit r) := by
  unfold State.receive
  dsimp only
  split
  · exact (Quiet.after (.stray _) (.goodPacket s)).changes
  · exact .after (Quiet.choose _).changes (.after (.attemptSince _ _) (.after (.strike _ _ _) (Quiet.goodPacket s).changes))
  · next w x h =>
    have before := Changes.after (.attemptSince _ s.goodPacket)
      (.after (.takeResponse (State.matchResponse_settles h) r) (Quiet.goodPacket s).changes)
    split
    · exact .after (Quiet.choose _).changes before
    · exact .after (Quiet.choose _).changes before
    · exact before
    · exact before

end Sys2Proof.Proofs
end

section
/-! SUPPORT. Several windows that halt together (R115, R147, R149): the failure path of each in window order. -/
namespace Sys2Proof.Machine
open Sys2Proof.Safety

/-- The windows of a list that have a cause halt with it, one after another. -/
def State.haltEach (s : State) (cause : WinId → Option FaultCause) (l : List WinId) : State :=
  l.foldl (fun s w => match cause w with
    | some c => s.haltWindow w c none none
    | none => s) s

section
variable (s : State) (cause : WinId → Option FaultCause)

@[simp] theorem State.haltEach_nil : s.haltEach cause [] = s := rfl

theorem State.haltEach_cons_some {w : WinId} {c : FaultCause} (h : cause w = some c) (l : List WinId) :
    s.haltEach cause (w :: l) = (s.haltWindow w c none none).haltEach cause l := by simp [State.haltEach, h]

theorem State.haltEach_cons_none {w : WinId} (h : cause w = none) (l : List WinId) :
    s.haltEach cause (w :: l) = s.haltEach cause l := by simp [State.haltEach, h]

/-- What every halt keeps, the halts together keep. -/
theorem State.haltEach_keeps {γ : Type} (g : State → γ) (h : ∀ (s : State) w c, g (s.haltWindow w c none none) = g s)
    (l : List WinId) : g (s.haltEach cause l) = g s := by
  refine foldl_keeps g _ (fun s w => ?_) l s
  split
  · exact h s w _
  · rfl

@[simp] theorem State.haltEach_link (l : List WinId) : (s.haltEach cause l).link = s.link :=
  s.haltEach_keeps cause State.link (fun s w c => s.haltWindow_link w c none none) l
@[simp] theorem State.haltEach_arb (l : List WinId) : (s.haltEach cause l).arb = s.arb :=
  s.haltEach_keeps cause State.arb (fun s w c => s.haltWindow_arb w c none none) l
@[simp] theorem State.haltEach_eng (l : List WinId) : (s.haltEach cause l).eng = s.eng :=
  s.haltEach_keeps cause State.eng (fun s w c => s.haltWindow_eng w c none none) l
@[simp] theorem State.haltEach_pending (l : List WinId) : (s.haltEach cause l).pending = s.pending :=
  s.haltEach_keeps cause State.pending (fun s w c => s.haltWindow_pending w c none none) l
@[simp] theorem State.haltEach_freeUses (l : List WinId) : (s.haltEach cause l).freeUses = s.freeUses :=
  s.haltEach_keeps cause State.freeUses (fun s w c => s.haltWindow_freeUses w c none none) l

/-- A window outside the list, or without a cause, stays. -/
theorem State.haltEach_win_of_not {l : List WinId} {v : WinId} (h : v ∉ l ∨ cause v = none) :
    (s.haltEach cause l).win v = s.win v := by
  induction l generalizing s with
  | nil => rfl
  | cons w l ih =>
    have hl : v ∉ l ∨ cause v = none := h.imp_left fun h => fun hv => h (List.mem_cons_of_mem _ hv)
    cases hc : cause w with
    | none => rw [s.haltEach_cons_none cause hc, ih _ hl]
    | some c =>
      have hv : v ≠ w := by rintro rfl; simp [hc] at h
      rw [s.haltEach_cons_some cause hc, ih _ hl, State.haltWindow_win, if_neg hv]

/-- A window with a cause has its halted record, as written from a state in which it had its first one. -/
theorem State.haltEach_win_of_mem {l : List WinId} (hn : l.Nodup) {v : WinId} {c : FaultCause} (hv : v ∈ l)
    (hc : cause v = some c) :
    ∃ u : State, u.win v = s.win v ∧ (s.haltEach cause l).win v = haltedRecord u v c none none := by
  induction l generalizing s with
  | nil => simp at hv
  | cons w l ih =>
    obtain ⟨hw, hn⟩ := List.nodup_cons.mp hn
    by_cases e : v = w
    · subst e
      exact ⟨s, rfl, by rw [s.haltEach_cons_some cause hc, State.haltEach_win_of_not _ _ (.inl hw)]; simp [State.haltWindow_win]⟩
    · have hv : v ∈ l := (List.mem_cons.mp hv).resolve_left e
      cases hcw : cause w with
      | none => rw [s.haltEach_cons_none cause hcw]; exact ih s hn hv
      | some cw =>
        obtain ⟨u, hu, h⟩ := ih (s.haltWindow w cw none none) hn hv
        exact ⟨u, by rw [hu, State.haltWindow_win, if_neg e], by rw [s.haltEach_cons_some cause hcw, h]⟩

/-- The slots of the queues of the halted windows are FREE, and every other slot stays. -/
theorem State.haltEach_slot {l : List WinId} (hn : l.Nodup) (i : SlotId) :
    (s.haltEach cause l).slot i =
      if ∃ w ∈ l, (cause w).isSome = true ∧ i ∈ (s.win w).queue then none else s.slot i := by
  induction l generalizing s with
  | nil => simp
  | cons w l ih =>
    obtain ⟨hw, hn⟩ := List.nodup_cons.mp hn
    cases hc : cause w with
    | none => rw [s.haltEach_cons_none cause hc, ih s hn]; simp [hc]
    | some c =>
      rw [s.haltEach_cons_some cause hc, ih _ hn, State.haltWindow_slot]
      have other : ∀ v ∈ l, ((s.haltWindow w c none none).win v) = s.win v := fun v hv => by
        rw [State.haltWindow_win, if_neg (by rintro rfl; exact hw hv)]
      have same : (∃ v ∈ l, (cause v).isSome = true ∧ i ∈ ((s.haltWindow w c none none).win v).queue) ↔
          ∃ v ∈ l, (cause v).isSome = true ∧ i ∈ (s.win v).queue :=
        exists_congr fun v => and_congr_right fun hv => by rw [other v hv]
      by_cases h1 : i ∈ (s.win w).queue <;>
        by_cases h2 : ∃ v ∈ l, (cause v).isSome = true ∧ i ∈ (s.win v).queue <;> simp [same, h1, h2, hc]

/-- The long command stays and runs for none of the halted windows, or it ran for one of them and runs no more. -/
theorem State.haltEach_long (l : List WinId) :
    ((s.haltEach cause l).cmd.long = s.cmd.long ∧ ∀ w ∈ l, (cause w).isSome = true → s.runsFor w = false) ∨
      ((s.haltEach cause l).cmd.long.state ≠ .running ∧
        ∃ w ∈ l, (cause w).isSome = true ∧ s.runsFor w = true) := by
  induction l generalizing s with
  | nil => simp
  | cons w l ih =>
    cases hc : cause w with
    | none => rw [s.haltEach_cons_none cause hc]; simpa [hc] using ih s
    | some c =>
      rw [s.haltEach_cons_some cause hc]
      have hcmd := s.haltWindow_cmd w c none none
      by_cases hr : s.runsFor w = true
      · rw [if_pos hr] at hcmd
        have idle : ∀ v, (s.haltWindow w c none none).runsFor v = false := fun v => by simp [State.runsFor, hcmd]
        rcases ih (s.haltWindow w c none none) with ⟨h, -⟩ | ⟨h, -⟩
        · exact .inr ⟨by rw [h, hcmd]; simp, w, by simp, by simp [hc], hr⟩
        · exact .inr ⟨h, w, by simp, by simp [hc], hr⟩
      · rw [if_neg hr] at hcmd
        have same : ∀ v, (s.haltWindow w c none none).runsFor v = s.runsFor v := fun v => State.runsFor_congr hcmd v
        rcases ih (s.haltWindow w c none none) with ⟨h, h'⟩ | ⟨h, v, hv, hcv, hrv⟩
        · refine .inl ⟨by rw [h, hcmd], fun v hv hcv => ?_⟩
          rcases List.mem_cons.mp hv with rfl | hv
          · simpa using hr
          · rw [← same v]; exact h' v hv hcv
        · exact .inr ⟨h, v, List.mem_cons_of_mem _ hv, hcv, by rw [← same v]; exact hrv⟩

theorem allWindows_nodup : allWindows.Nodup := by decide

/-- The loss of the link halts each window that was in service at its beginning (log 11). -/
theorem State.haltAllLive_eq (c : FaultCause) :
    s.haltAllLive c = s.haltEach (fun w => if (s.win w).state.live then some c else none) allWindows := by
  have step : ∀ (l : List WinId) (u : State), l.Nodup → (∀ w ∈ l, u.win w = s.win w) →
      l.foldl (fun s w => if (s.win w).state.live then s.haltWindow w c none none else s) u =
        u.haltEach (fun w => if (s.win w).state.live then some c else none) l := by
    intro l
    induction l with
    | nil => intros; rfl
    | cons w l ih =>
      intro u hn hu
      obtain ⟨hw, hn⟩ := List.nodup_cons.mp hn
      have hwin := hu w (by simp)
      by_cases hl : (s.win w).state.live = true
      · rw [u.haltEach_cons_some _ (c := c) (by simp [hl]), List.foldl_cons, hwin, if_pos hl]
        refine ih _ hn fun v hv => ?_
        rw [State.haltWindow_win, if_neg (by rintro rfl; exact hw hv), hu v (by simp [hv])]
      · rw [u.haltEach_cons_none _ (by simp [hl]), List.foldl_cons, hwin, if_neg hl]
        exact ih _ hn fun v hv => hu v (by simp [hv])
  exact step allWindows s allWindows_nodup fun _ _ => rfl

end
end Sys2Proof.Machine
end

section
/-! SUPPORT. Every command is a chain of changes (`exec_changes`), and so is every step (`step_changes`). -/
namespace Sys2Proof.Proofs
open Sys2Proof.Machine Sys2Proof.Safety

/-! ### The loss of every window in service -/

/-- All windows in service halt, the link is DETACHED, and the long command has ended or stays. -/
theorem Change.haltAllLive {s b t : State} (c : FaultCause) (hb : ∀ w, b.win w = s.win w) (hbs : ∀ i, b.slot i = s.slot i)
    (hw : ∀ w, t.win w = (b.haltAllLive c).win w) (hs : ∀ i, t.slot i = (b.haltAllLive c).slot i)
    (link : t.link.state = .detached) (probing : s.link.state ≠ .probing ∨ t.runsLong .attach = false)
    (long : LongMove (fun w => (s.win w).state.live = true) s t) : Change s t := by
  rw [b.haltAllLive_eq] at hw hs
  refine .settles (fun w => (s.win w).state.live = true) (fun w hl => ?_) (fun w hl => ?_) (fun w hl i hi => ?_) (fun i hi => ?_)
    (.inr (.inl ⟨link, probing, .inl fun _ h => h⟩)) long
  · obtain ⟨u, hu, h⟩ := b.haltEach_win_of_mem allWindows_nodup (mem_allWindows w)
      (cause := fun w => if (b.win w).state.live then some c else none) (c := c) (by simp [hb, hl])
    rw [hw, h, ← hb, ← hu]
    exact .haltedRecord u w c none none (.inl (by rw [hu, hb]; exact hl))
  · rw [hw, b.haltEach_win_of_not _ (.inr (by simp [hb, hl])), hb]
    exact .refl _
  · rw [hs, b.haltEach_slot _ allWindows_nodup, if_pos ⟨w, mem_allWindows w, by simp [hb, hl], by rw [hb]; exact hi⟩]
  · rw [hs, b.haltEach_slot _ allWindows_nodup, if_neg, hbs]
    rintro ⟨w, -, hl, hiw⟩
    have hl : (s.win w).state.live = true := by
      by_contra hn; simp [hb, hn] at hl
    exact hi w hl (by rw [← hb]; exact hiw)

theorem LongMove.haltAllLive {s b t : State} (c : FaultCause) (hb : ∀ w, b.win w = s.win w) (hc : b.cmd = s.cmd)
    (ht : t.cmd = (b.haltAllLive c).cmd) : LongMove (fun w => (s.win w).state.live = true) s t := by
  have runs : ∀ w, b.runsFor w = s.runsFor w := fun w => State.runsFor_congr hc w
  rcases b.haltEach_long (fun w => if (b.win w).state.live then some c else none) allWindows with ⟨h, h'⟩ | ⟨h, w, -, hl, hr⟩
  · refine .inl ⟨by rw [ht, b.haltAllLive_eq, h, hc], fun w hl => ?_⟩
    rw [← runs]; exact h' w (mem_allWindows w) (by simp [hb, hl])
  · have hl : (s.win w).state.live = true := by
      by_contra hn; simp [hb, hn] at hl
    refine .inr ⟨by rw [ht, b.haltAllLive_eq]; exact h, fun v _ hv _ => ?_, fun _ => .inr ⟨w, hl⟩⟩
    have hw := ((s.runsFor_iff w).mp (by rw [← runs]; exact hr)).2
    obtain rfl : v = w := by simpa [hw, eq_comm] using hv
    exact hl

theorem Change.giveUpRecovery {s : State} (h : s.link.state = .recovering) : Change s s.giveUpRecovery := by
  unfold State.giveUpRecovery
  refine .haltAllLive .linkLost (b := s.toDetached.raiseDevice .linkDown) (fun _ => rfl) (fun _ => rfl) (fun _ => rfl)
    (fun _ => rfl) ?_ (.inl (by simp [h]))
    (.haltAllLive .linkLost (b := s.toDetached.raiseDevice .linkDown) (fun _ => rfl) rfl rfl)
  rw [State.haltAllLive_eq, State.haltEach_link]; rfl

theorem completeLong_not_running (s : State) (st : LongState) (d : LongDetail) (h : st ≠ .running) :
    (s.completeLong st d).cmd.long.state ≠ .running := by
  by_cases hr : s.cmd.long.state = .running
  · rw [s.completeLong_running hr]; simpa using h
  · rw [s.completeLong_idle hr]; exact hr

/-- A long command that has stopped runs no more after several halts. -/
theorem haltAllLive_not_running {s : State} (c : FaultCause) (h : s.cmd.long.state ≠ .running) :
    (s.haltAllLive c).cmd.long = s.cmd.long := by
  rw [s.haltAllLive_eq]
  rcases s.haltEach_long (fun w => if (s.win w).state.live then some c else none) allWindows with ⟨h', -⟩ | ⟨-, w, -, -, hr⟩
  · exact h'
  · exact absurd ((s.runsFor_iff w).mp hr).1 h

theorem Change.resetLink (s : State) :
    Change s (((s.completeLong .aborted .resetLink).haltAllLive .linkLost).toDetached) := by
  have hb := s.completeLong_frame .aborted .resetLink
  have idle := completeLong_not_running s .aborted .resetLink (by simp)
  have stays := haltAllLive_not_running .linkLost idle
  have stopped : (((s.completeLong .aborted .resetLink).haltAllLive .linkLost).toDetached).cmd.long.state ≠ .running := by
    rw [State.toDetached_cmd, stays]; exact idle
  refine .haltAllLive .linkLost (b := s.completeLong .aborted .resetLink) (fun w => by rw [hb]; rfl) (fun i => by rw [hb]; rfl)
    (State.toDetached_win _) (State.toDetached_slot _) rfl (.inr (runsLong_of_not_running stopped _)) (.inr ⟨stopped, fun w _ _ h => ?_, fun _ => .inl ?_⟩)
  · simp [h, WindowState.live]
  · simp [State.toDetached, State.quietArbiter]

theorem Quiet.raiseDevice (s : State) (k : DeviceKind) : Quiet s (s.raiseDevice k) := .of_eq rfl rfl rfl rfl

theorem Changes.resetLink (s : State) : Changes s s.resetLink := by
  unfold State.resetLink
  dsimp only
  refine .after (.attemptSince _ _) (.after (t := if s.link.state = .detached then
    ((s.completeLong .aborted .resetLink).haltAllLive .linkLost).toDetached else _)
    (Quiet.changes (.of_eq rfl rfl rfl rfl)) ?_)
  split
  · exact (Change.resetLink s).changes
  · exact .after (Quiet.raiseDevice _ .linkDown).changes (Change.resetLink s).changes

/-! ### ABORT and the resets -/

/-- ABORT ends the long command with what it owned (R161). -/
theorem Change.abort {s : State} (h : s.cmd.long.state = .running) :
    Change s (s.completeLong .aborted .abort).abortOwner := by
  have hb := s.completeLong_running h .aborted .abort
  generalize hu : s.completeLong .aborted .abort = u at hb ⊢
  have hw : ∀ w, u.win w = s.win w := fun w => by rw [hb]; rfl
  have hs : ∀ i, u.slot i = s.slot i := fun i => by rw [hb]; rfl
  have hl : u.link = s.link := by rw [hb]; rfl
  have hcode : u.cmd.long.code = s.cmd.long.code ∧ u.cmd.long.window = s.cmd.long.window := by rw [hb]; exact ⟨rfl, rfl⟩
  have idle : u.cmd.long.state ≠ .running := by rw [hb]; simp
  have runs : ∀ c, s.runsLong c = true ↔ s.cmd.long.code = some c := fun c => by simp [State.runsLong, h]
  -- the part with the command ended and nothing else changed, where ABORT finds nothing of it to end
  have nothing : ∀ t : State, (∀ w, QuietWin (s.win w) (t.win w)) → SlotsKept s t → t.cmd = u.cmd →
      (t.link.state = s.link.state ∧ s.cmd.long.code ≠ some .attach ∨ s.cmd.long.code = some .attach ∧
        (t.link.state = s.link.state ∧ s.link.state ≠ .probing ∨ t.link.state = .detached ∧ s.link.state = .probing)) →
      (∀ w, s.cmd.long.code = some .openWindow → s.cmd.long.window = some w → (s.win w).state ≠ .syncing) →
      Change s t := by
    intro t tw ts tc tl tsync
    have stopped : t.cmd.long.state ≠ .running := by rw [tc]; exact idle
    refine .settles (fun _ => False) (fun _ h => h.elim) (fun w _ => tw w) (fun _ h => h.elim) (fun i _ => ts i) ?_
      (.inr ⟨stopped, fun w ho hwin hsync => tsync w ((runs _).mp ho) hwin hsync, fun ha => .inl ?_⟩)
    · rcases tl with ⟨e, -⟩ | ⟨-, ⟨e, -⟩ | ⟨e, hp⟩⟩
      · exact .inl e
      · exact .inl e
      · exact .inr (.inl ⟨e, .inr (runsLong_of_not_running stopped _), .inr hp⟩)
    · rcases tl with ⟨-, e⟩ | ⟨-, ⟨e, hp⟩ | ⟨e, -⟩⟩
      · exact absurd ((runs _).mp ha) e
      · rw [e]; exact hp
      · rw [e]; simp
  unfold State.abortOwner
  rw [hcode.1, hcode.2]
  split
  · next w hc hwin =>
    split
    · next hsync =>
      rw [hw] at hsync
      have stays : (u.haltWindow w .aborted none none).cmd = u.cmd := by
        rw [u.haltWindow_cmd, if_neg (by simp [runsFor_of_not_running idle w])]
      refine .settles (· = w) ?_ ?_ ?_ ?_ (.inl (by rw [State.haltWindow_link, hl]))
        (.inr ⟨by rw [stays]; exact idle, fun v _ hv _ => by simpa [hwin, eq_comm] using hv, fun ha => ?_⟩)
      · rintro _ rfl
        rw [u.haltWindow_win, if_pos rfl, ← hw]
        exact .haltedRecord u _ _ _ _ (.inl (by rw [hw, hsync]; rfl))
      · intro v hv; rw [u.haltWindow_win, if_neg hv, hw]; exact .refl _
      · rintro _ rfl i hi; rw [u.haltWindow_slot, if_pos (by rw [hw]; exact hi)]
      · intro i hi; rw [u.haltWindow_slot, if_neg (by rw [hw]; exact hi w rfl), hs]
      · exact absurd ((runs _).mp ha) (by simp [hc])
    · next hsync =>
      refine nothing u (fun v => .of_eq (hw v)) (fun i => by rw [hs]) rfl (.inl ⟨by rw [hl], by simp [hc]⟩) ?_
      intro v _ hv
      obtain rfl : w = v := by simpa [hwin] using hv
      rw [← hw]; exact hsync
  · next hc =>
    unfold State.endProbe
    split
    · next hp =>
      rw [hl] at hp
      exact nothing u.toDetached (fun v => .of_eq (hw v)) (fun i => by rw [State.toDetached_slot, hs]) rfl
        (.inr ⟨hc, .inr ⟨rfl, hp⟩⟩) (fun v hv => by simp [hc] at hv)
    · next hp =>
      rw [hl] at hp
      exact nothing u (fun v => .of_eq (hw v)) (fun i => by rw [hs]) rfl
        (.inr ⟨hc, .inl ⟨by rw [hl], hp⟩⟩) (fun v hv => by simp [hc] at hv)
  · next w hc hwin =>
    have unmark : Quiet u (u.unmarkFlush w) := by
      refine .foldl (fun v i => .setSlot v i ?_) _ u
      cases v.slot i <;> simp [core]
    exact nothing _ (fun v => (QuietWin.of_eq (hw v)).trans (unmark.win v)) (fun i => (unmark.slots i).trans (by rw [hs]))
      (foldl_keeps State.cmd (fun s i => s.modSlot i _) (fun _ _ => rfl) _ u)
      (.inl ⟨unmark.link.trans (by rw [hl]), by simp [hc]⟩) (fun v hv => by simp [hc] at hv)
  · next hattach hopen hflush =>
    exact nothing u (fun v => .of_eq (hw v)) (fun i => by rw [hs]) rfl (.inl ⟨by rw [hl], hattach⟩)
      (fun v hc hv => (hopen v hc hv).elim)

/-- The window table is cleared: the records, the slots, and the command that ran (R23, R162). -/
theorem Changes.resetWindows (s : State) : Changes s s.resetWindows := by
  unfold State.resetWindows
  dsimp only
  have idle := completeLong_not_running s .aborted .resetWindows (by simp)
  have linkKept : (s.completeLong .aborted .resetWindows).link = s.link := by rw [s.completeLong_frame]
  generalize s.completeLong .aborted .resetWindows = u at idle linkKept ⊢
  have drop : ∀ v : State, v.dropAllTransfers.link = v.link ∧ v.dropAllTransfers.cmd = v.cmd := fun v =>
    foldl_invariant (fun t => t.link = v.link ∧ t.cmd = v.cmd) _ (fun t w ht => by
      rw [State.foldl_dropTransfer]; exact ht) allWindows v ⟨rfl, rfl⟩
  refine .after (.attemptSince _ _) (Change.changes (.clears (fun w => by simp) (fun i => by simp) ?_ ?_))
  · rw [State.setAttn_cmd, State.clearSlots_cmd, State.clearWindows_cmd, (drop _).2]
    split
    · unfold State.endProbe; split <;> exact idle
    · exact idle
  · rw [State.setAttn_link, State.clearSlots_link, State.clearWindows_link, (drop _).1]
    by_cases ha : s.runsLong .attach = true
    · rw [if_pos ha]
      unfold State.endProbe
      rw [linkKept]
      split
      · exact .inl rfl
      · next hp => exact .inr ⟨by rw [linkKept], fun h => hp h.2⟩
    · rw [if_neg ha]
      exact .inr ⟨by rw [linkKept], fun h => ha h.1⟩

theorem State.reset_win (w : WinId) : State.reset.win w = .reset := by simp [State.reset, State.win]

theorem State.reset_slot (i : SlotId) : State.reset.slot i = none := by simp [State.reset, State.slot]

/-- A reset of the whole part (R163). -/
theorem Change.resetAll {s t : State} (hw : t.windows = State.reset.windows) (hs : t.slots = State.reset.slots)
    (hl : t.link.state = .detached) (hc : t.cmd.long.state ≠ .running) : Change s t :=
  .clears (fun w => (State.windows_eq_iff.mp hw w).trans (State.reset_win w))
    (fun i => (State.slots_eq_iff.mp hs i).trans (State.reset_slot i)) hc (.inl hl)

/-! ### Commands of the management port -/

/-- What a judged frame leaves is a chain of changes. -/
def JudgedChanges (s : State) : Judged → Prop
  | .refuse _ => True
  | .done t _ => Changes s t
  | .pending t => Changes s t

theorem Quiet.setResult (s : State) (r : ResultRecord) : Quiet s (s.setResult r) := .of_eq rfl rfl rfl rfl

theorem Quiet.endTransaction (s : State) : Quiet s s.endTransaction := .of_eq rfl rfl rfl rfl

theorem Changes.command {s : State} (q c : Byte) {judge : State → Judged}
    (h : JudgedChanges s.endTransaction (judge s.endTransaction)) : Changes s (s.command q c judge) := by
  refine .after (t := s.endTransaction) ?_ (Quiet.endTransaction s).changes
  show Changes _ (s.endTransaction.conclude q c (judge s.endTransaction))
  cases hj : judge s.endTransaction with
  | refuse r => exact (Quiet.setResult _ _).changes
  | done t p => rw [hj] at h; exact .after (Quiet.setResult _ _).changes h
  | pending t => rw [hj] at h; exact .after (Quiet.setResult _ _).changes h

theorem Changes.commandUnlessBusy (s : State) (q c : Byte) {judge : State → Judged}
    (h : ∀ u, Ready u → JudgedChanges u (judge u)) : Changes s (s.commandUnlessBusy q c judge) := by
  by_cases hr : s.cmd.long.state = .running
  · rw [s.commandUnlessBusy_busy hr]
    exact (Quiet.after (.setResult _ _) (.endTransaction s)).changes
  · rw [s.commandUnlessBusy_free hr]
    exact .command q c (h _ (by simpa using hr))

theorem JudgedChanges.onWindow {s : State} {b : Byte} {judge : WinId → Judged} (h : ∀ w, JudgedChanges s (judge w)) :
    JudgedChanges s (onWindow b judge) := by
  unfold Machine.onWindow
  split
  · trivial
  · exact h _

theorem JudgedChanges.onTarget {s : State} {b : Byte} {judge : Target → Judged} (h : ∀ t, JudgedChanges s (judge t)) :
    JudgedChanges s (onTarget b judge) := by
  unfold Machine.onTarget
  split
  · trivial
  · exact h _

theorem OnlyWin.enter (s : State) (w : WinId) (st : WindowState) : OnlyWin s (s.enter w st) w := .modWin s w rfl rfl

/-- A window in service with a queue moves between OPEN, HELD, FENCED and CLOSING. -/
theorem Change.enter {s : State} {w : WinId} {st : WindowState} (old : (s.win w).state.carriesQueue = true)
    (new : st.carriesQueue = true) : Change s (s.enter w st) := by
  refine .moves w (.enter s w st) rfl (.moves old ?_ ?_ ?_ ?_) <;> simp only [State.enter, State.win_modWin_self]
  · exact new
  · intro h
    unfold exchangeFits at h ⊢
    cases hx : (s.win w).exchange with
    | none => rfl
    | some e =>
      have inService : ∀ a : WindowState, a.carriesQueue = true → a.live = true ∧ (a == .syncing) = false := by
        intro a; cases a <;> decide
      obtain ⟨ho, hs⟩ := inService _ old
      obtain ⟨hn, hs'⟩ := inService _ new
      simpa [hx, ho, hs, hn, hs'] using h

theorem Changes.liftHold (s : State) (w : WinId) (b : Bool) : Changes s (s.liftHold w b) := by
  unfold State.liftHold
  split
  · exact .after (.settle _) (Quiet.offer s w).changes
  · exact .attempt s

theorem Changes.closeNow {s : State} {w : WinId}
    (h : ((s.win w).state.carriesQueue = true ∧ (s.win w).queue = []) ∨ (s.win w).state = .halted) :
    Changes s (s.closeNow w) := by
  refine .after (Quiet.raiseWindow _ w .closed).changes
    (Change.changes (.moves w (.modWin s w rfl rfl) rfl (.closes h ?_ ?_ (.inl ?_) ?_))) <;> simp

end Sys2Proof.Proofs
end

section
/-! SUPPORT. Every command is a chain of changes (`exec_changes`), and so is every step (`step_changes`). -/
namespace Sys2Proof.Proofs
open Sys2Proof.Machine Sys2Proof.Safety

/-! ### The window commands -/

theorem changes_define (b : Byte) (p : DefineParams) (s : State) : JudgedChanges s (judgeDefine b p s) := by
  refine .onWindow fun w => ?_
  split
  · trivial
  · next d hd =>
    dsimp only
    split
    · trivial
    · next hst =>
      split
      · trivial
      · next ho =>
        have change : Change s (s.modWin w fun x => { x with state := .defined, defn := some d, remaining := d.freshBudget }) := by
          refine .defines w d (.modWin s w rfl rfl) rfl ?_ ?_ ?_ ?_ ?_ (by simpa using ho)
          · tauto
          all_goals simp
        show Changes s (ite _ _ _)
        split
        · exact .after (.attempt _) change.changes
        · exact change.changes

theorem changes_undefine (b : Byte) (s : State) : JudgedChanges s (judgeUndefine b s) := by
  refine .onWindow fun w => ?_
  split
  · trivial
  · next hst =>
    refine Changes.after (.attempt _) (Change.changes (.moves w (.modWin s w rfl rfl) rfl (.removes ?_ ?_ ?_ ?_ ?_)))
    · simpa using hst
    all_goals simp

theorem changes_layout (counts : Vector Byte 12) (s : State) : JudgedChanges s (judgeLayout counts s) := by
  unfold judgeLayout
  split
  · trivial
  · split
    · trivial
    · next hn =>
      split
      · trivial
      · exact Change.changes (.layout (fun w => counts[w].toNat) (by simpa using hn) rfl)

/-- A quiet change of a state in which OPEN has started is one of the state before the start. -/
theorem Quiet.startLong {s t : State} (h : Quiet s t) (c : LongCode) (q : Byte) (w : Option WinId) :
    Quiet (s.startLong c q w) (t.startLong c q w) := ⟨h.win, h.slots, h.link, rfl⟩

theorem openRefusal_none {s : State} {w : WinId} (h : s.openRefusal w = none) :
    ∃ d, (s.win w).defn = some d ∧ ((s.win w).state = .defined ∨ (s.win w).state = .halted) ∧ s.link.state = .active ∧
      (s.win w).pages ≠ 0 ∧ d.farEnd ≤ s.link.capacity ∧ d.packetSize ≤ s.link.packetLimit := by
  unfold State.openRefusal at h
  dsimp only at h
  split at h
  · simp at h
  · next d hd =>
    refine ⟨d, hd, ?_⟩
    grind

theorem changes_open (q b : Byte) (s : State) (hr : Ready s) : JudgedChanges s (judgeOpen q b s) := by
  refine .onWindow fun w => ?_
  split
  · trivial
  · next h =>
    obtain ⟨d, hd, hst, hl, -⟩ := openRefusal_none h
    have opens : Change s ((s.modWin w fun x =>
        { x with state := .syncing, fault := none, exchange := some (.new .sync) }).startLong .openWindow q (some w)) := by
      have self := s.win_modWin_self w fun x => { x with state := .syncing, fault := none, exchange := some (.new .sync) }
      have only := OnlyWin.modWin s w (f := fun x => { x with state := .syncing, fault := none, exchange := some (.new .sync) })
        rfl rfl
      refine .opens w ⟨only.others, only.slots, rfl, only.pages, only.queue⟩ hr hst ?_ ?_ ?_ ?_ hl rfl rfl <;>
        simp [Machine.Exchange.new]
    refine Changes.after (.settle _) (.after (t := State.startLong _ .openWindow q (some w)) ?_ opens.changes)
    refine (Quiet.startLong ?_ _ _ _).changes
    unfold State.takeOpen
    dsimp only
    split
    · exact .after (.raiseDevice _ _) (.toCycled _)
    · exact .refl _

theorem changes_hold (b : Byte) (s : State) : JudgedChanges s (judgeHold b s) := by
  refine .onWindow fun w => ?_
  split
  · trivial
  · next h =>
    have h : (s.win w).state = .opened := by simpa using h
    exact Changes.after (.attempt _) (Change.enter (by rw [h]; rfl) rfl).changes

theorem changes_release (b : Byte) (s : State) : JudgedChanges s (judgeRelease b s) := by
  refine .onWindow fun w => ?_
  split
  · trivial
  · next h =>
    have h : (s.win w).state = .held := by simpa using h
    exact Changes.after (.liftHold _ w _) (Change.enter (by rw [h]; rfl) rfl).changes

theorem changes_fence (b : Byte) (s : State) : JudgedChanges s (judgeFence b s) := by
  refine .onWindow fun w => ?_
  dsimp only
  split
  · trivial
  · next h =>
    have h : (s.win w).state.carriesQueue = true := by
      rcases (show (s.win w).state = .opened ∨ (s.win w).state = .held by tauto) with h | h <;> rw [h] <;> rfl
    exact Changes.after (.liftHold _ w _) (Change.enter h rfl).changes

theorem changes_unfence (b : Byte) (s : State) : JudgedChanges s (judgeUnfence b s) := by
  refine .onWindow fun w => ?_
  split
  · trivial
  · next h =>
    have h : (s.win w).state = .fenced := by simpa using h
    exact Changes.after (.attempt _) (Change.enter (by rw [h]; rfl) rfl).changes

/-- CLOSE of a window in service closes it at once, or lets its queue drain (R18). -/
theorem changes_closeInService {s : State} {w : WinId} (h : (s.win w).state.carriesQueue = true) :
    JudgedChanges s (if (s.win w).queue.isEmpty then .done (s.closeNow w).attempt []
      else .done ((s.enter w .closing).liftHold w ((s.win w).state = .held)) []) := by
  split
  · next hq => exact Changes.after (.attempt _) (.closeNow (.inl ⟨h, by simpa using hq⟩))
  · exact Changes.after (.liftHold _ w _) (Change.enter h rfl).changes

theorem changes_close (b : Byte) (s : State) : JudgedChanges s (judgeClose b s) := by
  refine .onWindow fun w => ?_
  have inService := fun h => changes_closeInService (s := s) (w := w) h
  dsimp only
  cases hst : (s.win w).state with
  | opened => simpa [hst] using inService (by rw [hst]; rfl)
  | held => simpa [hst] using inService (by rw [hst]; rfl)
  | fenced => simpa [hst] using inService (by rw [hst]; rfl)
  | halted => exact Changes.after (.attempt _) (.closeNow (.inr hst))
  | unused => trivial
  | defined => trivial
  | syncing => trivial
  | closing => trivial

theorem changes_flush (q b : Byte) (s : State) (hr : Ready s) : JudgedChanges s (judgeFlush q b s) := by
  refine .onWindow fun w => ?_
  dsimp only
  split
  · trivial
  · split
    · exact Changes.refl s
    · next i hi =>
      refine Changes.after (t := s.modSlot i fun t => { t with flushMark := true })
        (Change.changes (.starts (fun _ => .refl _) (fun _ => rfl) hr (.inl ⟨rfl, rfl⟩))) (Quiet.changes (.setSlot s i ?_))
      cases s.slot i <;> rfl

theorem changes_readWindow (b : Byte) (s : State) : JudgedChanges s (judgeReadWindow b s) := by
  refine .onWindow fun w => ?_
  show Changes s (ite _ _ _)
  split
  · exact Quiet.changes (.of_eq rfl rfl rfl rfl)
  · exact .refl s

theorem changes_readFault (b : Byte) (s : State) : JudgedChanges s (judgeReadFault b s) := .onWindow fun _ => Changes.refl s

/-! ### The event unit -/

theorem changes_readCounters (b : Byte) (s : State) : JudgedChanges s (judgeReadCounters b s) :=
  .onTarget fun _ => Changes.refl s

theorem changes_clearCounters (b : Byte) (s : State) : JudgedChanges s (judgeClearCounters b s) := by
  refine .onTarget fun t => ?_
  cases t with
  | window w =>
    exact Quiet.changes (.modWin s w (f := fun x => { x with counters := .zero }) ⟨rfl, rfl, rfl, rfl, rfl, id⟩)
  | device => exact Quiet.changes (.of_eq rfl rfl rfl rfl)

theorem changes_setMasks (wm : Byte) (dm : BitVec 16) (s : State) : JudgedChanges s (judgeSetMasks wm dm s) := by
  unfold judgeSetMasks
  split
  · exact Quiet.changes (.of_eq rfl rfl rfl rfl)
  · trivial

theorem changes_ackEvents (b : Byte) (k : BitVec 16) (s : State) : JudgedChanges s (judgeAckEvents b k s) := by
  refine .onTarget fun t => ?_
  cases t with
  | window w =>
    dsimp only
    split
    · next ks _ =>
      exact Quiet.changes (.after (t := s.modWin w fun x => { x with pending := x.pending &&& ~~~ks })
        (.of_eq rfl rfl rfl rfl) (.modWin s w ⟨rfl, rfl, rfl, rfl, rfl, id⟩))
    · trivial
  | device =>
    dsimp only
    split
    · exact Quiet.changes (.of_eq rfl rfl rfl rfl)
    · trivial

/-! ### The link commands -/

theorem changes_attach (q : Byte) (s : State) (hr : Ready s) : JudgedChanges s (judgeAttach q s) := by
  unfold judgeAttach
  split
  · trivial
  · next h =>
    exact Changes.after (Quiet.choose _).changes (Change.changes
      (.starts (fun _ => .refl _) (fun _ => rfl) hr (.inr ⟨by simpa using h, rfl, rfl⟩)))

theorem noneClaims_iff {s : State} : s.noneClaims = true ↔ ∀ w : WinId, (s.win w).state.claims = false := by
  simp [State.noneClaims, mem_allWindows]

theorem live_claims {st : WindowState} (h : st.live = true) : st.claims = true := by cases st <;> simp_all [WindowState.live, WindowState.claims]

/-- A link that is not PROBING goes to DETACHED while no window is in service. -/
theorem Change.toDetached {s : State} (hp : s.link.state ≠ .probing) (h : ∀ w, (s.win w).state.live = false) :
    Change s s.toDetached :=
  .settles (fun _ => False) (fun _ h => h.elim) (fun _ _ => .refl _) (fun _ h => h.elim) (fun _ _ => rfl)
    (.inr (.inl ⟨rfl, .inl hp, .inl fun w hl => by simp [h w] at hl⟩)) (.inl ⟨rfl, fun _ h => h.elim⟩)

theorem changes_detach (s : State) : JudgedChanges s (judgeDetach s) := by
  unfold judgeDetach
  split
  · trivial
  · next hl =>
    split
    · trivial
    · next hn =>
      have free := noneClaims_iff.mp (by simpa using hn)
      refine Changes.after (Quiet.raiseDevice _ _).changes (Change.toDetached (fun h => hl (by simp [h])) fun w => ?_).changes
      by_contra hlive
      have := live_claims (by simpa using hlive)
      simp [free w] at this

theorem Quiet.setMode (s : State) (m : LinkMode) : Quiet s (s.setMode m) := by
  unfold State.setMode
  split
  · exact .refl s
  · split
    · split
      · exact .after (.choose _) (.toCycled s)
      · exact .toCycled s
    · exact .of_eq rfl rfl rfl rfl

theorem Quiet.idleDue (s : State) : Quiet s s.idleDue := .of_eq rfl rfl rfl rfl

theorem Quiet.keepAliveChanged (s : State) (old : Nat) : Quiet s (s.keepAliveChanged old) := by
  unfold State.keepAliveChanged
  split
  · exact .refl s
  · split
    · split
      · exact .after (.choose _) (.idleDue s)
      · exact .refl s
    · exact .refl s

theorem Changes.recoveryLimitChanged (s : State) (old : Nat) : Changes s (s.recoveryLimitChanged old) := by
  unfold State.recoveryLimitChanged
  split
  · exact .refl s
  · next h =>
    have hl : s.link.state = .recovering := by tauto
    split
    · split
      · exact .after (.attemptSince _ s) (Change.giveUpRecovery hl).changes
      · exact .refl s
    · exact .refl s

theorem Changes.waitLimitChanged (s : State) (old : Nat) : Changes s (s.waitLimitChanged old) := by
  unfold State.waitLimitChanged
  split
  · exact .refl s
  · split
    · exact .refl s
    · split
      · exact (Quiet.expireWait s _).changes
      · exact .attempt s

theorem Quiet.writeSettings (s : State) (p : LinkSettings) : Quiet s (s.writeSettings p) := .of_eq rfl rfl rfl rfl

theorem changes_setLink (p : LinkParams) (s : State) : JudgedChanges s (judgeSetLink p s) := by
  unfold judgeSetLink
  split
  · trivial
  · split
    · trivial
    · exact Changes.after (.waitLimitChanged _ _) (.after (.recoveryLimitChanged _ _)
        (Quiet.after (.keepAliveChanged _ _) (.after (.setMode _ _) (.writeSettings s _))).changes)

/-! ### The control commands -/

theorem changes_abort (s : State) : JudgedChanges s (judgeAbort s) := by
  unfold judgeAbort
  split
  · trivial
  · next h => exact Changes.after (.attemptSince _ s) (Change.abort (by simpa using h)).changes

theorem changes_reset {s : State} (own target : Byte) {effect : State → State} (h : Changes s (effect s)) :
    JudgedChanges s (judgeReset own target effect s) := by
  unfold judgeReset
  split
  · exact h
  · trivial

theorem Changes.resetAll (s : State) : Changes s s.resetAll := by
  refine Change.changes (.resetAll rfl rfl rfl ?_)
  unfold State.resetAll LongRecord.afterResetAll
  dsimp only
  split <;> simp [LongRecord.reset]

/-! ### The bus, the link and the timers -/

theorem changes_requestPresented (r : BusRequest) (s : State) :
    ∃ t, execRequestPresented r s = .next t ∧ Changes s t := by
  unfold execRequestPresented
  split
  · exact ⟨s, rfl, .refl s⟩
  · exact ⟨_, rfl, .after (.attempt _) (Quiet.changes (.of_eq rfl rfl rfl rfl))⟩

theorem changes_waitLimitExpiry (s : State) : ∃ t, execWaitLimitExpiry s = .next t ∧ Changes s t := by
  unfold execWaitLimitExpiry
  split
  · exact ⟨s, rfl, .refl s⟩
  · split
    · exact ⟨s, rfl, .refl s⟩
    · exact ⟨_, rfl, Quiet.changes (.after (.expireWait _ _) (.elapse s _))⟩

theorem changes_downstreamResponse (g : Tag) (ok : Bool) (data : List Byte) (s : State) :
    ∃ t, execDownstreamResponse g ok data s = .next t ∧ Changes s t := by
  unfold execDownstreamResponse
  split
  · exact ⟨_, rfl, .after (.attempt _) (Quiet.changes (.of_eq rfl rfl rfl rfl))⟩
  · exact ⟨s, rfl, .refl s⟩

/-- ATTACH completes as its link becomes ACTIVE (R139). -/
theorem Changes.attached {s : State} (h : s.link.state = .probing) (c l : Nat) : Changes s (s.attached c l) := by
  unfold State.attached
  dsimp only
  refine .after (Quiet.choose _).changes (.after (Quiet.startTraffic _).changes ?_)
  generalize hu : (s.toActive c l).raiseDevice .linkUp = u
  have hw : ∀ w, u.win w = s.win w := fun w => by rw [← hu]; rfl
  have hs : ∀ i, u.slot i = s.slot i := fun i => by rw [← hu]; rfl
  have hc : u.cmd = s.cmd := by rw [← hu]; rfl
  have hl : u.link.state = .active := by rw [← hu]; rfl
  have frame := u.completeDone_frame .attach
  have runs : ∀ c, u.runsLong c = s.runsLong c := fun c => by simp [State.runsLong, hc]
  have long : ((u.completeDone .attach).cmd.long = s.cmd.long ∧ s.runsLong .attach = false) ∨
      ((u.completeDone .attach).cmd.long.state ≠ .running ∧ s.cmd.long.code = some .attach) := by
    unfold State.completeDone
    by_cases ha : u.runsLong .attach = true
    · have hr : u.cmd.long.state = .running ∧ u.cmd.long.code = some .attach := by simpa [State.runsLong] using ha
      rw [if_pos ha, u.completeLong_running hr.1]
      exact .inr ⟨by simp, by rw [← hc]; exact hr.2⟩
    · rw [if_neg ha]
      exact .inl ⟨by rw [hc], by rw [← runs]; simpa using ha⟩
  refine Change.changes (.settles (fun _ => False) (fun _ h => h.elim) (fun w _ => .of_eq ?_) (fun _ h => h.elim)
    (fun i _ => ?_) (.inr (.inr (.inl ⟨h, ?_, ?_⟩))) ?_)
  · rw [frame]; exact hw w
  · rw [frame]; exact congrArg (Option.map core) (hs i)
  · rw [frame]; exact hl
  · rcases long with ⟨e, ha⟩ | ⟨e, -⟩
    · rw [← ha]; simp [State.runsLong, e]
    · exact runsLong_of_not_running e _
  · rcases long with ⟨e, -⟩ | ⟨e, ha⟩
    · exact .inl ⟨e, fun _ h => h.elim⟩
    · exact .inr ⟨e, fun w ho => by simp [State.runsLong, ha] at ho, fun _ => .inl (by rw [frame]; simp [hl])⟩

/-- The link moves between ACTIVE and RECOVERING, and nothing else does. -/
theorem Change.activity {s t : State} (hw : ∀ w, QuietWin (s.win w) (t.win w)) (hs : SlotsKept s t)
    (hc : t.cmd.long = s.cmd.long) (h : s.link.state = .active ∨ s.link.state = .recovering)
    (h' : t.link.state = .active ∨ t.link.state = .recovering) : Change s t :=
  .settles (fun _ => False) (fun _ h => h.elim) (fun w _ => hw w) (fun _ h => h.elim) (fun i _ => hs i)
    (.inr (.inr (.inr ⟨h, h'⟩))) (.inl ⟨hc, fun _ h => h.elim⟩)

theorem Changes.recovered {s : State} (h : s.link.state = .recovering) (c l : Nat) (fresh : Bool) :
    Changes s (s.recovered c l fresh) := by
  have active : Change s ((s.toActive c l).raiseDevice .recovered) :=
    .activity (fun _ => .refl _) (fun _ => rfl) rfl (.inr h) (.inl rfl)
  unfold State.recovered
  dsimp only
  exact .after (Quiet.after (.choose _) (.markNewHeads _)).changes (.after (.attemptSince _ s)
    (.after (Quiet.startTraffic _).changes (.after (.recoveryCheck _ fresh) active.changes)))

theorem changes_helloReply (c : BitVec 32) (l : BitVec 16) (fresh : Bool) (s : State) :
    ∃ t, execHelloReplyReceived c l fresh s = .next t ∧ Changes s t := by
  have stray : Changes s s.goodPacket.stray := Quiet.changes (.after (.stray _) (.goodPacket s))
  unfold execHelloReplyReceived
  dsimp only
  split
  · split
    · next h => exact ⟨_, rfl, .after (.attached h _ _) (Quiet.goodPacket s).changes⟩
    · next h => exact ⟨_, rfl, .after (.recovered h _ _ fresh) (Quiet.goodPacket s).changes⟩
    · exact ⟨_, rfl, stray⟩
    · exact ⟨_, rfl, stray⟩
  · exact ⟨_, rfl, stray⟩

theorem changes_badCheckPacket (s : State) : ∃ t, execBadCheckPacket s = .next t ∧ Changes s t := by
  unfold execBadCheckPacket
  split
  · exact ⟨_, rfl, .after (Quiet.choose _).changes (.after (.attemptSince _ s) (.strike s _ _))⟩
  · exact ⟨_, rfl, (Quiet.stray s).changes⟩

theorem QuietWin.rewind (x : Window) : QuietWin x { x with exchange := x.exchange.map Exchange.rewind } := by
  refine .of_body rfl rfl rfl rfl rfl ?_
  cases x.exchange with
  | none => rfl
  | some e => cases hs : e.state <;> simp [Machine.Exchange.rewind, hs]

theorem Change.enterRecovering {s : State} (h : s.link.state = .active) : Change s s.enterRecovering := by
  refine .activity (fun w => ?_) (.of_eq rfl) rfl (.inl h) (.inr rfl)
  unfold State.enterRecovering
  dsimp only
  rw [State.helloDue_win, State.quietArbiter_win, State.win_mapWins]
  exact .rewind _

theorem changes_lossOfSignal (s : State) : ∃ t, execLossOfSignal s = .next t ∧ Changes s t := by
  have cleared : Changes s { s with link := { s.link with signalPresent := false } } :=
    Quiet.changes (.of_eq rfl rfl rfl rfl)
  unfold execLossOfSignal
  dsimp only
  split
  · next h => exact ⟨_, rfl, .after (Quiet.choose _).changes (.after (Change.enterRecovering (by exact h)).changes cleared)⟩
  · exact ⟨_, rfl, cleared⟩

theorem Changes.countTimeout (s : State) : Changes s s.countTimeout := by
  unfold State.countTimeout
  split
  · next h =>
    have grown : Changes s { s with link := { s.link with timeoutRun := s.link.timeoutRun + 1 } } :=
      Quiet.changes (.of_eq rfl rfl rfl rfl)
    dsimp only
    split
    · exact .after (Change.enterRecovering (by exact h)).changes grown
    · exact grown
  · exact .refl s

theorem Quiet.countDevice (s : State) (k : DeviceCounter) (n : Nat) : Quiet s (s.countDevice k n) := .of_eq rfl rfl rfl rfl

theorem changes_responseLimitExpiry (w : WinId) (s : State) : ∃ t, execResponseLimitExpiry w s = .next t ∧ Changes s t := by
  unfold execResponseLimitExpiry
  split
  · exact ⟨s, rfl, .refl s⟩
  · split
    · exact ⟨_, rfl, .after (Quiet.choose _).changes (.after (.attemptSince _ _) (.after (.countTimeout _)
        (.after (.strike _ w _) (Quiet.after (.countDevice _ _ _) (.elapse s _)).changes)))⟩
    · exact ⟨s, rfl, .refl s⟩
    · exact ⟨s, rfl, .refl s⟩
    · exact ⟨s, rfl, .refl s⟩

theorem changes_nakIntervalEnd (w : WinId) (s : State) : ∃ t, execNakIntervalEnd w s = .next t ∧ Changes s t := by
  unfold execNakIntervalEnd
  split
  · exact ⟨s, rfl, .refl s⟩
  · split
    · exact ⟨_, rfl, Quiet.changes (.after (.choose _) (.after
        (.modWin _ w (.of_body rfl rfl rfl rfl rfl (by simp [Function.comp_def]))) (.elapse s _)))⟩
    · exact ⟨s, rfl, .refl s⟩
    · exact ⟨s, rfl, .refl s⟩
    · exact ⟨s, rfl, .refl s⟩

theorem Quiet.startAwaiting (s : State) (w : WinId) : Quiet s (s.startAwaiting w) := by
  unfold State.startAwaiting
  split
  · next x hx =>
    split
    · dsimp only
      exact .after (t := s.modWin w fun y => { y with exchange := some { x with state := .awaiting 0 _ _ } })
        (.of_eq rfl rfl rfl rfl) (.modWin s w (.of_body rfl rfl rfl rfl rfl (by simp [hx])))
    · exact .refl s
  · exact .refl s

theorem changes_transmissionEnd (s : State) : ∃ t, execTransmissionEnd s = .next t ∧ Changes s t := by
  unfold execTransmissionEnd
  split
  · exact ⟨s, rfl, .refl s⟩
  · dsimp only
    split
    · exact ⟨_, rfl, Quiet.changes (.after (.choose _) (.after (.startAwaiting _ _) (.of_eq rfl rfl rfl rfl)))⟩
    · exact ⟨_, rfl, Quiet.changes (.after (.choose _) (.of_eq rfl rfl rfl rfl))⟩

theorem changes_cycleStart (s : State) : ∃ t, execCycleStart s = .next t ∧ Changes s t := by
  unfold execCycleStart
  split
  · exact ⟨s, rfl, .refl s⟩
  · exact ⟨_, rfl, Quiet.changes (.after (.choose _) (.after (.startCycle _) (.elapse s _)))⟩

theorem changes_keepAliveExpiry (s : State) : ∃ t, execKeepAliveExpiry s = .next t ∧ Changes s t := by
  unfold execKeepAliveExpiry
  split
  · exact ⟨s, rfl, .refl s⟩
  · exact ⟨_, rfl, Quiet.changes (.after (.choose _) (.after (.idleDue _) (.elapse s _)))⟩

theorem Quiet.helloDue (s : State) : Quiet s s.helloDue := .of_eq rfl rfl rfl rfl

theorem changes_probeTimerExpiry (s : State) : ∃ t, execProbeTimerExpiry s = .next t ∧ Changes s t := by
  unfold execProbeTimerExpiry
  split
  · exact ⟨s, rfl, .refl s⟩
  · dsimp only
    split
    · exact ⟨_, rfl, (Quiet.elapse s _).changes⟩
    · exact ⟨_, rfl, Quiet.changes (.after (.choose _) (.after (.helloDue _) (.elapse s _)))⟩

/-- ATTACH fails as its link leaves PROBING for DETACHED (R140). -/
theorem Change.noReply {s : State} (h : s.link.state = .probing) :
    Change s (if s.toDetached.runsLong .attach then s.toDetached.completeLong .failed .noReply else s.toDetached) := by
  have runs : s.toDetached.runsLong .attach = s.runsLong .attach := rfl
  by_cases ha : s.runsLong .attach = true
  · have hr : s.cmd.long.state = .running ∧ s.cmd.long.code = some .attach := by simpa [State.runsLong] using ha
    rw [runs, if_pos ha, s.toDetached.completeLong_running hr.1]
    exact .settles (fun _ => False) (fun _ h => h.elim) (fun _ _ => .refl _) (fun _ h => h.elim) (fun _ _ => rfl)
      (.inr (.inl ⟨rfl, .inr (runsLong_of_not_running (by simp) _), .inr h⟩))
      (.inr ⟨by simp, fun w ho => by simp [State.runsLong, hr.2] at ho, fun _ => .inl (by simp [State.toDetached, State.quietArbiter])⟩)
  · rw [runs, if_neg ha]
    exact .settles (fun _ => False) (fun _ h => h.elim) (fun _ _ => .refl _) (fun _ h => h.elim) (fun _ _ => rfl)
      (.inr (.inl ⟨rfl, .inr (by rw [runs]; simpa using ha), .inr h⟩)) (.inl ⟨rfl, fun _ h => h.elim⟩)

theorem changes_attachNoReply (s : State) : ∃ t, execAttachNoReply s = .next t ∧ Changes s t := by
  unfold execAttachNoReply
  split
  · next h _ => exact ⟨_, rfl, .after (Change.noReply (by exact h)).changes (Quiet.elapse s _).changes⟩
  · exact ⟨s, rfl, .refl s⟩

theorem changes_recoveryLimitExpiry (s : State) : ∃ t, execRecoveryLimitExpiry s = .next t ∧ Changes s t := by
  unfold execRecoveryLimitExpiry
  split
  · next h _ => exact ⟨_, rfl, .after (.attemptSince _ s) (.after (Change.giveUpRecovery (by exact h)).changes (Quiet.elapse s _).changes)⟩
  · exact ⟨s, rfl, .refl s⟩

/-! ### Every command and every step -/

/-- Every command answers a next state that a chain of changes leads to. -/
theorem exec_changes (c : Instr) (s : State) : ∃ t, exec c s = .next t ∧ Changes s t := by
  cases c with
  | pinReset => exact ⟨_, rfl, Change.changes (.resetAll rfl rfl rfl (by simp [State.reset, LongRecord.reset]))⟩
  | getStatus q => exact ⟨_, rfl, .command q _ (Changes.refl _)⟩
  | define q w p => exact ⟨_, rfl, .commandUnlessBusy s q _ fun u _ => changes_define w p u⟩
  | undefine q w => exact ⟨_, rfl, .commandUnlessBusy s q _ fun u _ => changes_undefine w u⟩
  | layout q n => exact ⟨_, rfl, .commandUnlessBusy s q _ fun u _ => changes_layout n u⟩
  | openWindow q w => exact ⟨_, rfl, .commandUnlessBusy s q _ fun u hu => changes_open q w u hu⟩
  | hold q w => exact ⟨_, rfl, .commandUnlessBusy s q _ fun u _ => changes_hold w u⟩
  | release q w => exact ⟨_, rfl, .commandUnlessBusy s q _ fun u _ => changes_release w u⟩
  | fence q w => exact ⟨_, rfl, .commandUnlessBusy s q _ fun u _ => changes_fence w u⟩
  | unfence q w => exact ⟨_, rfl, .commandUnlessBusy s q _ fun u _ => changes_unfence w u⟩
  | close q w => exact ⟨_, rfl, .commandUnlessBusy s q _ fun u _ => changes_close w u⟩
  | flush q w => exact ⟨_, rfl, .commandUnlessBusy s q _ fun u hu => changes_flush q w u hu⟩
  | readWindow q w => exact ⟨_, rfl, .commandUnlessBusy s q _ fun u _ => changes_readWindow w u⟩
  | readFault q w => exact ⟨_, rfl, .commandUnlessBusy s q _ fun u _ => changes_readFault w u⟩
  | readCounters q b => exact ⟨_, rfl, .commandUnlessBusy s q _ fun u _ => changes_readCounters b u⟩
  | clearCounters q b => exact ⟨_, rfl, .commandUnlessBusy s q _ fun u _ => changes_clearCounters b u⟩
  | attach q => exact ⟨_, rfl, .commandUnlessBusy s q _ fun u hu => changes_attach q u hu⟩
  | detach q => exact ⟨_, rfl, .commandUnlessBusy s q _ fun u _ => changes_detach u⟩
  | setLink q p => exact ⟨_, rfl, .commandUnlessBusy s q _ fun u _ => changes_setLink p u⟩
  | setMasks q wm dm => exact ⟨_, rfl, .commandUnlessBusy s q _ fun u _ => changes_setMasks wm dm u⟩
  | readEvents q => exact ⟨_, rfl, .commandUnlessBusy s q _ fun u _ => Changes.refl u⟩
  | ackEvents q b k => exact ⟨_, rfl, .commandUnlessBusy s q _ fun u _ => changes_ackEvents b k u⟩
  | abort q => exact ⟨_, rfl, .command q _ (changes_abort _)⟩
  | resetBlockWindows q b => exact ⟨_, rfl, .command q _ (changes_reset 1 b (.resetWindows _))⟩
  | resetBlockLink q b => exact ⟨_, rfl, .command q _ (changes_reset 2 b (.resetLink _))⟩
  | resetBlockAll q b => exact ⟨_, rfl, .command q _ (changes_reset 3 b (.resetAll _))⟩
  | frameError q b d => exact ⟨_, rfl, Quiet.changes (.after (.setResult _ _) (.endTransaction s))⟩
  | frameDiscarded => exact ⟨_, rfl, (Quiet.endTransaction s).changes⟩
  | requestPresented r => exact changes_requestPresented r s
  | acceptanceAttempt => exact ⟨_, rfl, .attempt s⟩
  | waitLimitExpiry => exact changes_waitLimitExpiry s
  | downstreamResponse g ok data => exact changes_downstreamResponse g ok data s
  | ackReceived f b m => exact ⟨_, rfl, .receive s f b _⟩
  | nakReceived f b => exact ⟨_, rfl, .receive s f b _⟩
  | refuseReceived f b => exact ⟨_, rfl, .receive s f b _⟩
  | dataReceived f b data => exact ⟨_, rfl, .receive s f b _⟩
  | helloReplyReceived c l fresh => exact changes_helloReply c l fresh s
  | badCheckPacket => exact changes_badCheckPacket s
  | otherInboundPacket ty => exact ⟨_, rfl, Quiet.changes (.after (.stray _) (.goodPacket s))⟩
  | responseLimitExpiry w => exact changes_responseLimitExpiry w s
  | nakIntervalEnd w => exact changes_nakIntervalEnd w s
  | transmissionEnd => exact changes_transmissionEnd s
  | cycleStart => exact changes_cycleStart s
  | keepAliveExpiry => exact changes_keepAliveExpiry s
  | probeTimerExpiry => exact changes_probeTimerExpiry s
  | attachNoReply => exact changes_attachNoReply s
  | recoveryLimitExpiry => exact changes_recoveryLimitExpiry s
  | lossOfSignal => exact changes_lossOfSignal s
  | signalPresent => exact ⟨_, rfl, Quiet.changes (.of_eq rfl rfl rfl rfl)⟩
  | chipSelectFalls => exact ⟨_, rfl, Quiet.changes (.of_eq rfl rfl rfl rfl)⟩
  | resultTransaction n => exact ⟨_, rfl, Quiet.changes (.of_eq rfl rfl rfl rfl)⟩

/-- A step is a chain of changes. -/
theorem step_changes {s t : State} (h : step s = .next t) : Changes s t := by
  unfold step at h
  split at h
  · obtain rfl := Host.Outcome.next.inj h
    exact (Quiet.elapse s 1).changes
  · next c rest hp =>
    obtain ⟨u, hu, hc⟩ := exec_changes c { s with pending := rest }
    obtain rfl : u = t := Host.Outcome.next.inj (hu.symm.trans h)
    exact hc.after (Quiet.changes (.of_eq rfl rfl rfl rfl))

/-- A law that every change keeps is kept by every step. -/
theorem Kept.of_change {law : State → Prop} (h : ∀ s t, law s → Change s t → law t) : Kept law := by
  intro s t hs hst
  have chain : Changes s t := step_changes hst
  clear hst
  induction chain with
  | refl => exact hs
  | tail _ hc ih => exact h _ _ ih hc

end Sys2Proof.Proofs
end

section
/-! SUPPORT. The laws of window records, ranges, link state and long command (R3, R10 to R13, R21, R83, R135, R136), kept by
every change; obligations O52 and O53. -/
namespace Sys2Proof.Proofs
open Sys2Proof.Machine Sys2Proof.Safety

/-! ### What R83 says of a window with an exchange -/

theorem live_of_fits {x : Window} (h : exchangeFits x = true) (hx : x.exchange.isSome = true) : x.state.live = true := by
  obtain ⟨e, he⟩ := Option.isSome_iff_exists.mp hx
  simp only [exchangeFits, he, Bool.and_eq_true] at h
  exact h.1.1

theorem syncing_of_fits {x : Window} (h : exchangeFits x = true) (hx : x.exchange.map (·.body) = some .sync) :
    x.state = .syncing := by
  obtain ⟨e, he, hb⟩ := Option.map_eq_some_iff.mp hx
  simp only [exchangeFits, he, hb, Bool.and_eq_true] at h
  simpa using h.1.2

theorem exchangeFits_sync {x : Window} (hs : x.state = .syncing) (hx : x.exchange.map (·.body) = some .sync) :
    exchangeFits x = true := by
  obtain ⟨e, he, hb⟩ := Option.map_eq_some_iff.mp hx
  simp [exchangeFits, he, hb, hs, WindowState.live]

theorem none_of_fits {x : Window} (h : exchangeFits x = true) (hl : x.state.live = false) : x.exchange = none := by
  by_contra hn
  have := live_of_fits h (Option.isSome_iff_ne_none.mpr hn)
  simp [hl] at this

theorem exchangeFits_append {x : Window} (i : SlotId) (h : exchangeFits x = true) :
    exchangeFits { x with queue := x.queue ++ [i] } = true := by
  unfold exchangeFits at h ⊢
  cases hx : x.exchange with
  | none => simp
  | some e => simp_all

/-- A window that halts was in service. -/
theorem HaltsWin.live {x y : Window} (h : HaltsWin x y) (hx : exchangeFits x = true) : x.state.live = true :=
  h.wasLive.elim id (live_of_fits hx)

theorem promote_win (s : State) (w v : WinId) : (s.promote w).win v = s.win v := by
  unfold State.promote; split <;> rfl

/-- A head that leaves its queue changes only that queue, among the records. -/
theorem win_pop (s : State) (w : WinId) (i : SlotId) (v : WinId) :
    (((s.freeSlot i).modWin w fun x => { x with queue := x.queue.tail }).promote w).win v =
      if v = w then { s.win w with queue := (s.win w).queue.tail } else s.win v := by
  rw [promote_win]
  exact State.win_modWin (s.freeSlot i) w v _

/-- Every change keeps R83. -/
theorem ExchangeLaw.change {s t : State} (hx : ExchangeLaw s) (h : Change s t) : ExchangeLaw t := by
  intro v
  cases h with
  | settles H halted quiet =>
    by_cases hv : H v
    · exact exchangeFits_none (halted v hv).exchange
    · exact (quiet v hv).fits (hx v)
  | starts quiet => exact (quiet v).fits (hx v)
  | opens w only _ _ new _ _ exchange =>
    by_cases hv : v = w
    · subst hv; exact exchangeFits_sync new exchange
    · exact (only.others v hv).fits (hx v)
  | syncs w only _ _ _ _ exchange =>
    by_cases hv : v = w
    · subst hv; exact exchangeFits_none exchange
    · exact (only.others v hv).fits (hx v)
  | moves w only _ move =>
    by_cases hv : v = w
    · subst hv
      cases move with
      | moves _ _ _ _ fits => exact fits (hx v)
      | closes _ _ _ _ exchange => exact exchangeFits_none exchange
      | removes old _ _ _ exchange =>
        exact exchangeFits_none (exchange.trans (none_of_fits (hx v) (by rw [old]; rfl)))
    · exact (only.others v hv).fits (hx v)
  | defines w d only _ old _ _ _ exchange =>
    by_cases hv : v = w
    · subst hv
      exact exchangeFits_none (exchange.trans (none_of_fits (hx v) (by rcases old with h | h <;> rw [h] <;> rfl)))
    · exact (only.others v hv).fits (hx v)
  | takes r w i _ result =>
    rw [result, State.taken_win]
    split
    · next e => subst e; exact exchangeFits_append i (hx v)
    · exact hx v
  | pops w i _ none result =>
    rw [result, win_pop]
    split
    · exact exchangeFits_none none
    · exact hx v
  | layout f _ result =>
    rw [result, State.win_mapWins]
    exact (exchangeFits_congr rfl rfl rfl).trans (hx v)
  | clears win => rw [win v]; rfl

/-! ### Fault records and definitions (R21, section 1.1) -/

/-- A window has a fault record exactly when it is HALTED, and a definition exactly when it is not UNUSED. -/
def RecordFits (x : Window) : Prop :=
  x.fault.isSome = (x.state == .halted) ∧ x.defn.isSome = (x.state != .unused)

theorem RecordFits.congr {x y : Window} (h : RecordFits x) (hs : y.state = x.state) (hf : y.fault = x.fault)
    (hd : y.defn = x.defn) : RecordFits y := by
  unfold RecordFits; rw [hs, hf, hd]; exact h

theorem RecordFits.quiet {x y : Window} (h : RecordFits x) (q : QuietWin x y) : RecordFits y :=
  h.congr q.state q.fault q.defn

/-- A record that moves between two states other than UNUSED and HALTED keeps its definition and has no fault record. -/
theorem RecordFits.moved {x y : Window} (h : RecordFits x) (old : x.state ≠ .unused) (new : y.state ≠ .unused)
    (run : y.state ≠ .halted) (hd : y.defn = x.defn) (hf : y.fault = none ∨ (x.state ≠ .halted ∧ y.fault = x.fault)) :
    RecordFits y := by
  obtain ⟨h1, h2⟩ := h
  refine ⟨?_, by rw [hd, h2, bne_iff_ne.mpr old, bne_iff_ne.mpr new]⟩
  rcases hf with e | ⟨hx, e⟩
  · simp [e, run]
  · rw [e, h1]; simp [hx, run]

theorem RecordFits.winMove {x y : Window} (h : RecordFits x) (m : WinMove x y) : RecordFits y := by
  have inService : ∀ a : WindowState, a.carriesQueue = true → a ≠ .unused ∧ a ≠ .halted := by
    intro a; cases a <;> decide
  cases m with
  | moves old new defn fault =>
    exact h.moved (inService _ old).1 (inService _ new).1 (inService _ new).2 defn (.inr ⟨(inService _ old).2, fault⟩)
  | closes old new defn fault =>
    refine h.moved ?_ (by simp [new]) (by simp [new]) defn fault
    rcases old with ⟨old, -⟩ | old
    · exact (inService _ old).1
    · simp [old]
  | removes old new defn fault => exact ⟨by rw [fault, h.1, old, new]; rfl, by rw [defn, new]; rfl⟩

theorem RecordFits.change {s t : State} (hx : ExchangeLaw s) (hr : ∀ w, RecordFits (s.win w)) (h : Change s t) (v : WinId) :
    RecordFits (t.win v) := by
  have notUnused : ∀ {a : WindowState}, a.live = true → a ≠ .unused ∧ a ≠ .halted := by
    intro a; cases a <;> decide
  cases h with
  | settles H halted quiet =>
    by_cases hv : H v
    · have hh := halted v hv
      exact ⟨by rw [hh.fault, hh.state]; rfl, by
        rw [hh.defn, hh.state, (hr v).2, bne_iff_ne.mpr (notUnused (hh.live (hx v))).1]; rfl⟩
    · exact (hr v).quiet (quiet v hv)
  | starts quiet => exact (hr v).quiet (quiet v)
  | opens w only _ old new defn fault =>
    by_cases hv : v = w
    · subst hv
      exact (hr v).moved (by rcases old with h | h <;> simp [h]) (by simp [new]) (by simp [new]) defn (.inl fault)
    · exact (hr v).quiet (only.others v hv)
  | syncs w only old new defn fault =>
    by_cases hv : v = w
    · subst hv
      have hs := syncing_of_fits (hx v) old
      exact (hr v).moved (by simp [hs]) (by simp [new]) (by simp [new]) defn (.inr ⟨by simp [hs], fault⟩)
    · exact (hr v).quiet (only.others v hv)
  | moves w only _ move =>
    by_cases hv : v = w
    · subst hv; exact (hr v).winMove move
    · exact (hr v).quiet (only.others v hv)
  | defines w d only _ old new defn fault =>
    by_cases hv : v = w
    · subst hv
      refine ⟨?_, by rw [defn, new]; rfl⟩
      rw [fault, (hr v).1, new]
      rcases old with h | h
      · rw [h]; rfl
      · rw [h]
    · exact (hr v).quiet (only.others v hv)
  | takes r w i _ result =>
    rw [result, State.taken_win]
    split
    · next e => subst e; exact (hr v).congr rfl rfl rfl
    · exact hr v
  | pops w i _ _ result =>
    rw [result, win_pop]
    split
    · next e => subst e; exact (hr v).congr rfl rfl rfl
    · exact hr v
  | layout f _ result => rw [result, State.win_mapWins]; exact (hr v).congr rfl rfl rfl
  | clears win => rw [win v]; exact ⟨rfl, rfl⟩

/-! ### Ranges (R3) -/

theorem reserves_congr {x y : Window} (hs : y.state = .unused ∨ x.state ≠ .unused) (hd : y.state = .unused ∨ y.defn = x.defn)
    (a : Nat) (h : reserves y a = true) : reserves x a = true := by
  simp only [reserves, Bool.and_eq_true, bne_iff_ne] at h ⊢
  rw [← hd.resolve_left h.1]
  exact ⟨hs.resolve_left h.1, h.2⟩

theorem reserves_quiet {x y : Window} (q : QuietWin x y) (a : Nat) (h : reserves y a = true) : reserves x a = true := by
  simpa [reserves, q.state, q.defn] using h

theorem reserves_winMove {x y : Window} (m : WinMove x y) (a : Nat) (h : reserves y a = true) : reserves x a = true := by
  cases m with
  | moves old _ defn => exact reserves_congr (.inr fun e => by simp [e, WindowState.carriesQueue, WindowState.live] at old) (.inr defn) a h
  | closes old _ defn =>
    refine reserves_congr (.inr fun e => ?_) (.inr defn) a h
    simp [e, WindowState.carriesQueue, WindowState.live] at old
  | removes _ new => exact reserves_congr (.inl new) (.inl new) a h

/-- A change reserves no new address, but for the window of a DEFINE. -/
theorem reserves_change {s t : State} (hx : ExchangeLaw s) (h : Change s t) :
    (∀ v a, reserves (t.win v) a = true → reserves (s.win v) a = true) ∨
      ∃ w d, (∀ v, v ≠ w → ∀ a, reserves (t.win v) a = true → reserves (s.win v) a = true) ∧
        (t.win w).defn = some d ∧ s.overlapsOther w d = false := by
  have onlyOne : ∀ {w}, OnlyWin s t w → (∀ a, reserves (t.win w) a = true → reserves (s.win w) a = true) →
      ∀ v a, reserves (t.win v) a = true → reserves (s.win v) a = true := by
    intro w only hw v a ha
    by_cases hv : v = w
    · subst hv; exact hw a ha
    · exact reserves_quiet (only.others v hv) a ha
  cases h with
  | settles H halted quiet =>
    refine .inl fun v a ha => ?_
    by_cases hv : H v
    · have hh := halted v hv
      refine reserves_congr (.inr fun e => ?_) (.inr hh.defn) a ha
      have := hh.live (hx v)
      simp [e, WindowState.live] at this
    · exact reserves_quiet (quiet v hv) a ha
  | starts quiet => exact .inl fun v a ha => reserves_quiet (quiet v) a ha
  | opens w only _ old _ defn =>
    exact .inl (onlyOne only fun a ha => reserves_congr (.inr fun e => by simp [e] at old) (.inr defn) a ha)
  | syncs w only old _ defn =>
    have hs := syncing_of_fits (hx w) old
    exact .inl (onlyOne only fun a ha => reserves_congr (.inr (by simp [hs])) (.inr defn) a ha)
  | moves w only _ move => exact .inl (onlyOne only fun a ha => reserves_winMove move a ha)
  | defines w d only _ _ _ defn _ _ apart =>
    exact .inr ⟨w, d, fun v hv a ha => reserves_quiet (only.others v hv) a ha, defn, apart⟩
  | takes r w i _ result =>
    refine .inl fun v a ha => ?_
    rw [result, State.taken_win] at ha
    split at ha
    · next e => subst e; exact ha
    · exact ha
  | pops w i _ _ result =>
    refine .inl fun v a ha => ?_
    rw [result, win_pop] at ha
    split at ha
    · next e => subst e; exact ha
    · exact ha
  | layout f _ result =>
    refine .inl fun v a ha => ?_
    rw [result, State.win_mapWins] at ha
    exact ha
  | clears win => exact .inl fun v a ha => by rw [win v] at ha; simp [reserves, Window.reset] at ha

theorem overlaps_iff (d e : Definition) : d.overlaps e = true ↔ ∃ a, d.covers a = true ∧ e.covers a = true := by
  simp only [Definition.overlaps, Definition.covers, decide_eq_true_eq, Bool.and_eq_true]
  refine ⟨fun h => ⟨max d.base.toNat e.base.toNat, ?_⟩, fun ⟨a, h⟩ => ?_⟩ <;> omega

/-- A definition whose range meets that of no other window shares no address with one (R5). -/
theorem not_reserves_of_apart {s : State} {w v : WinId} {d : Definition} (h : s.overlapsOther w d = false) (hv : v ≠ w)
    {a : Nat} (ha : d.covers a = true) : reserves (s.win v) a = false := by
  by_contra hr
  have hr : reserves (s.win v) a = true := by simpa using hr
  simp only [reserves, Bool.and_eq_true] at hr
  cases hd : (s.win v).defn with
  | none => simp [hd] at hr
  | some e =>
    have meets : d.overlaps e = true := (overlaps_iff d e).mpr ⟨a, ha, by simpa [hd] using hr.2⟩
    have : s.overlapsOther w d = true :=
      List.any_eq_true.mpr ⟨v, mem_allWindows v, by simp [hv, hd, meets, by simpa using hr.1]⟩
    simp [h] at this

theorem OverlapLaw.change {s t : State} (hx : ExchangeLaw s) (ho : OverlapLaw s) (h : Change s t) : OverlapLaw t := by
  intro a v w hv hw
  rcases reserves_change hx h with mono | ⟨u, d, mono, hd, apart⟩
  · exact ho a v w (mono v a hv) (mono w a hw)
  · have covers : reserves (t.win u) a = true → d.covers a = true := fun hu => by
      simp only [reserves, hd, Bool.and_eq_true] at hu
      exact hu.2
    by_cases hvu : v = u <;> by_cases hwu : w = u
    · rw [hvu, hwu]
    · have := not_reserves_of_apart apart hwu (covers (hvu ▸ hv))
      simp [mono w hwu a hw] at this
    · have := not_reserves_of_apart apart hvu (covers (hwu ▸ hw))
      simp [mono v hvu a hv] at this
    · exact ho a v w (mono v hvu a hv) (mono w hwu a hw)

/-- Settles O52: every change keeps each part of the law. -/
theorem windowRecordsAndRangesFit : Obligations.WindowRecordsAndRangesFit := by
  refine ⟨Kept.of_change fun s t h c => ?_, Kept.of_change fun s t h c => ⟨ExchangeLaw.change h.1 c, OverlapLaw.change h.1 h.2 c⟩⟩
  obtain ⟨hx, hf, hd⟩ := h
  have fits := RecordFits.change hx (fun w => ⟨hf w, hd w⟩) c
  exact ⟨ExchangeLaw.change hx c, fun w => (fits w).1, fun w => (fits w).2⟩

end Sys2Proof.Proofs
end

section
/-! SUPPORT. The link state, the window states and the long command agree (R10 to R13, R135, R136): obligation O53. -/
namespace Sys2Proof.Proofs
open Sys2Proof.Machine Sys2Proof.Safety

/-- The four laws that are kept together. -/
structure Agree (s : State) : Prop where
  exchange : ExchangeLaw s
  live : LiveLinkLaw s
  probe : ProbeLaw s
  sync : SyncLaw s

theorem runsLong_iff {s : State} {c : LongCode} :
    s.runsLong c = true ↔ s.cmd.long.state = .running ∧ s.cmd.long.code = some c := by simp [State.runsLong]

theorem runsLong_congr {s t : State} (h : t.cmd.long = s.cmd.long) (c : LongCode) : t.runsLong c = s.runsLong c := by
  simp [State.runsLong, h]

/-- Only one long command runs. -/
theorem runsLong_unique {s : State} {c d : LongCode} (h : s.runsLong c = true) (ne : d ≠ c) : s.runsLong d = false := by
  have hc := (runsLong_iff.mp h).2
  simp [State.runsLong, hc, ne.symm]

section
variable {s : State} (a : Agree s)
include a

theorem Agree.probing_iff : s.link.state = .probing ↔ s.runsLong .attach = true := by
  have h : (s.link.state == .probing) = s.runsLong .attach := a.probe
  rw [← h]; simp

theorem Agree.syncing_iff (w : WinId) :
    (s.win w).state = .syncing ↔ s.runsLong .openWindow = true ∧ s.cmd.long.window = some w := by
  have h := a.sync w
  rw [Bool.eq_iff_iff] at h
  simpa using h

/-- A PROBING link has no window in service. -/
theorem Agree.not_probing {w : WinId} (h : (s.win w).state.live = true) : s.link.state ≠ .probing := by
  rcases a.live w h with e | e <;> simp [e]

/-- Where no long command runs no window is SYNCING. -/
theorem Agree.not_syncing (h : s.cmd.long.state ≠ .running) (w : WinId) : (s.win w).state ≠ .syncing := fun e =>
  h (runsLong_iff.mp ((a.syncing_iff w).mp e).1).1

end

/-- The laws of link and long command, in the form in which a change is judged. -/
theorem Agree.of_iff {t : State} (hx : ExchangeLaw t) (hl : LiveLinkLaw t)
    (hp : t.link.state = .probing ↔ t.runsLong .attach = true)
    (hs : ∀ w, (t.win w).state = .syncing ↔ t.runsLong .openWindow = true ∧ t.cmd.long.window = some w) : Agree t := by
  refine ⟨hx, hl, ?_, fun w => ?_⟩
  · show (t.link.state == .probing) = t.runsLong .attach
    rw [Bool.eq_iff_iff]; simpa using hp
  · rw [Bool.eq_iff_iff]; simpa using hs w

theorem halted_not_live {x y : Window} (h : HaltsWin x y) : y.state.live = false ∧ y.state ≠ .syncing := by
  rw [h.state]; exact ⟨rfl, by simp⟩

/-- Windows that halt, a link that moves and a long command that ends keep the laws. -/
theorem Agree.settles {s t : State} (a : Agree s) (hx : ExchangeLaw t) (H : WinId → Prop)
    (halted : ∀ w, H w → HaltsWin (s.win w) (t.win w)) (quiet : ∀ w, ¬ H w → QuietWin (s.win w) (t.win w))
    (link : LinkMove H s t) (long : LongMove H s t) : Agree t := by
  have wasLive : ∀ w, H w → (s.win w).state.live = true := fun w hw => (halted w hw).live (a.exchange w)
  -- a window in service after the change was in service before it, and did not halt
  have stillLive : ∀ w, (t.win w).state.live = true → ¬ H w ∧ (s.win w).state.live = true := fun w hw => by
    have hn : ¬ H w := fun h => by simp [(halted_not_live (halted w h)).1] at hw
    exact ⟨hn, by rw [← (quiet w hn).state]; exact hw⟩
  refine .of_iff hx (fun w hw => ?_) ?_ (fun w => ?_)
  · obtain ⟨hn, hl⟩ := stillLive w hw
    rcases link with e | ⟨-, -, h | h⟩ | ⟨h, -⟩ | ⟨-, h⟩
    · rw [e]; exact a.live w hl
    · exact absurd (h w hl) hn
    · exact absurd h (a.not_probing hl)
    · exact absurd h (a.not_probing hl)
    · exact h
  · rcases long with ⟨e, -⟩ | ⟨idle, -, cond⟩
    · rw [runsLong_congr e]
      rcases link with e' | ⟨h, h' | h', -⟩ | ⟨-, h, h'⟩ | ⟨h, h'⟩
      · rw [e']; exact a.probing_iff
      · rw [← a.probing_iff]; simp [h, h']
      · rw [runsLong_congr e] at h'; simp [h, h']
      · rw [runsLong_congr e] at h'; simp [h, h']
      · rw [← a.probing_iff]
        rcases h with h | h <;> rcases h' with h' | h' <;> simp [h, h']
    · rw [runsLong_of_not_running idle]
      simp only [Bool.false_eq_true, iff_false]
      rcases link with e' | ⟨h, -⟩ | ⟨-, h, -⟩ | ⟨-, h | h⟩
      · intro hp
        rcases cond (a.probing_iff.mp (by rw [← e']; exact hp)) with h | ⟨w, hw⟩
        · exact h hp
        · exact a.not_probing (wasLive w hw) (by rw [← e']; exact hp)
      all_goals simp [h]
  · rcases long with ⟨e, notFor⟩ | ⟨idle, cond, -⟩
    · rw [runsLong_congr e, e]
      by_cases hw : H w
      · have := notFor w hw
        simp only [(halted_not_live (halted w hw)).2, false_iff, not_and]
        intro ho hwin
        rw [(s.runsFor_iff w).mpr ⟨(runsLong_iff.mp ho).1, hwin⟩] at this
        simp at this
      · rw [(quiet w hw).state]; exact a.syncing_iff w
    · rw [runsLong_of_not_running idle]
      simp only [Bool.false_eq_true, false_and, iff_false]
      intro hs
      have hn : ¬ H w := fun h => (halted_not_live (halted w h)).2 hs
      rw [(quiet w hn).state] at hs
      obtain ⟨ho, hwin⟩ := (a.syncing_iff w).mp hs
      exact hn (cond w ho hwin hs)

/-- A change that keeps every window state, the link state and the long command keeps the laws. -/
theorem Agree.congr {s t : State} (a : Agree s) (hx : ExchangeLaw t) (hs : ∀ w, (t.win w).state = (s.win w).state)
    (hl : t.link.state = s.link.state) (hc : t.cmd.long = s.cmd.long) : Agree t := by
  refine .of_iff hx (fun w hw => ?_) ?_ (fun w => ?_)
  · rw [hl]; exact a.live w (by rw [← hs w]; exact hw)
  · rw [hl, runsLong_congr hc]; exact a.probing_iff
  · rw [hs, runsLong_congr hc, hc]; exact a.syncing_iff w

/-- A change of one window, in or out of service but not SYNCING, keeps the laws. -/
theorem Agree.one {s t : State} (a : Agree s) (hx : ExchangeLaw t) {w : WinId} (only : OnlyWin s t w)
    (hc : t.cmd.long = s.cmd.long) (old : (s.win w).state ≠ .syncing) (new : (t.win w).state ≠ .syncing)
    (hl : (t.win w).state.live = true → (s.win w).state.live = true) : Agree t := by
  refine .of_iff hx (fun v hv => ?_) ?_ (fun v => ?_)
  · rw [only.link]
    by_cases e : v = w
    · subst e; exact a.live v (hl hv)
    · exact a.live v (by rw [← (only.others v e).state]; exact hv)
  · rw [only.link, runsLong_congr hc]; exact a.probing_iff
  · rw [runsLong_congr hc, hc, ← a.syncing_iff]
    by_cases e : v = w
    · subst e; simp [old, new]
    · rw [(only.others v e).state]

theorem Agree.change {s t : State} (a : Agree s) (c : Change s t) : Agree t := by
  have hx : ExchangeLaw t := ExchangeLaw.change a.exchange c
  have inService : ∀ st : WindowState, st.carriesQueue = true → st.live = true ∧ st ≠ .syncing := by
    intro st; cases st <;> decide
  cases c with
  | settles H halted quiet _ _ link long => exact a.settles hx H halted quiet link long
  | starts quiet _ idle link =>
    have noneSyncing : ∀ w, (t.win w).state ≠ .syncing := fun w => by rw [(quiet w).state]; exact a.not_syncing idle w
    rcases link with ⟨e, hc⟩ | ⟨hs, ht, hr⟩
    · refine .of_iff hx (fun w hw => ?_) ?_ (fun w => ?_)
      · rw [e]; exact a.live w (by rw [← (quiet w).state]; exact hw)
      · rw [e, a.probing_iff, runsLong_of_not_running idle]; simp [State.runsLong, hc]
      · simp [noneSyncing w, State.runsLong, hc]
    · refine .of_iff hx (fun w hw => ?_) (by simp [ht, hr]) (fun w => ?_)
      · have := a.live w (by rw [← (quiet w).state]; exact hw)
        simp [hs] at this
      · simp [noneSyncing w, runsLong_unique hr (d := .openWindow) (by simp)]
  | opens w only idle _ new _ _ _ active runs window =>
    refine .of_iff hx (fun v _ => .inl (only.link.trans active)) ?_ (fun v => ?_)
    · simp [only.link, active, runsLong_unique runs (d := .attach) (by simp)]
    · simp only [runs, window, true_and, Option.some.injEq]
      by_cases e : v = w
      · subst e; simp [new]
      · rw [(only.others v e).state]
        simp [a.not_syncing idle v, Ne.symm e]
  | syncs w only old new _ _ _ long =>
    have hs := syncing_of_fits (a.exchange w) old
    obtain ⟨ho, hw⟩ := (a.syncing_iff w).mp hs
    have idle : t.cmd.long.state ≠ .running := by
      rcases long with ⟨-, h⟩ | ⟨h, -⟩
      · exact absurd ⟨ho, hw⟩ h
      · exact h
    refine .of_iff hx (fun v hv => ?_) ?_ (fun v => ?_)
    · rw [only.link]; exact a.live w (by rw [hs]; rfl)
    · rw [only.link, a.probing_iff, runsLong_of_not_running idle, runsLong_unique ho (by simp)]
    · rw [runsLong_of_not_running idle]
      by_cases e : v = w
      · subst e; simp [new]
      · rw [(only.others v e).state, a.syncing_iff, hw]
        simp [Ne.symm e]
  | moves w only long move =>
    cases move with
    | moves old new => exact a.one hx only long (inService _ old).2 (inService _ new).2 fun _ => (inService _ old).1
    | closes old new =>
      refine a.one hx only long ?_ (by simp [new]) (by simp [new, WindowState.live])
      rcases old with ⟨old, -⟩ | old
      · exact (inService _ old).2
      · simp [old]
    | removes old new => exact a.one hx only long (by simp [old]) (by simp [new]) (by simp [new, WindowState.live])
  | defines w d only long old new =>
    exact a.one hx only long (by rcases old with h | h <;> simp [h]) (by simp [new]) (by simp [new, WindowState.live])
  | takes r w i _ result =>
    subst result
    exact a.congr hx (fun v => by rw [State.taken_win]; split <;> simp_all) (by rw [State.taken_frame]) (by rw [State.taken_frame])
  | pops w i _ _ result =>
    subst result
    refine a.congr hx (fun v => by rw [win_pop]; split <;> simp_all) ?_ ?_ <;> rw [State.promote_frame] <;> rfl
  | layout f _ result => subst result; exact a.congr hx (fun v => by rw [State.win_mapWins]) rfl rfl
  | clears win _ idle link =>
    have unused : ∀ w, (t.win w).state = .unused := fun w => by rw [win w]; rfl
    refine .of_iff hx (fun w hw => by simp [unused w, WindowState.live] at hw) ?_
      (fun w => by simp [unused w, runsLong_of_not_running idle])
    rw [runsLong_of_not_running idle]
    rcases link with h | ⟨e, h⟩
    · simp [h]
    · simp only [Bool.false_eq_true, iff_false, e]
      exact fun hp => h ⟨a.probing_iff.mp hp, hp⟩

/-- Settles O53: every change keeps the four laws together. -/
theorem linkAndLongCommandsAgree : Obligations.LinkAndLongCommandsAgree :=
  Kept.of_change fun _ _ ⟨hx, hl, hp, hs⟩ c =>
    have a := Agree.change ⟨hx, hl, hp, hs⟩ c
    ⟨a.exchange, a.live, a.probe, a.sync⟩

end Sys2Proof.Proofs
end

section
/-! SUPPORT. Queues, slots and reservations agree (R8, R44 to R47, R72): obligation O57. -/
namespace Sys2Proof.Machine

/-- The bytes that a slot's transfer reserves. -/
def State.sizeAt (s : State) (i : SlotId) : Nat := ((s.slot i).map (·.size)).getD 0

theorem State.reserved_eq (s : State) (w : WinId) : s.reserved w = (((s.win w).queue).map s.sizeAt).sum := by
  unfold State.reserved State.transfersOf
  induction (s.win w).queue with
  | nil => rfl
  | cons i q ih => cases h : s.slot i <;> simp_all [State.sizeAt]

theorem State.reserved_of_nil {s : State} {w : WinId} (h : (s.win w).queue = []) : s.reserved w = 0 := by
  simp [State.reserved_eq, h]

/-- Once the front of a queue is FREE and gone, the next of it, if any, is HEAD (R47, R52). -/
theorem State.slot_pop (s : State) (w : WinId) (i j : SlotId) :
    (((s.freeSlot i).modWin w fun x => { x with queue := x.queue.tail }).promote w).slot j =
      if (s.win w).queue.tail.head? = some j then
        (if j = i then none else s.slot j).map fun t => { t with state := .head }
      else if j = i then none else s.slot j := by
  unfold State.promote
  rw [State.win_modWin_self, State.freeSlot_win]
  cases (s.win w).queue.tail with
  | nil => simp [State.slot_freeSlot]
  | cons k q =>
    simp only [State.slot_modSlot, State.modWin_slot, State.slot_freeSlot, List.head?_cons, Option.some.injEq]
    by_cases h : j = k <;> simp [h, eq_comm]

end Sys2Proof.Machine

namespace Sys2Proof.Proofs
open Sys2Proof.Machine Sys2Proof.Safety

/-- The parts of the law of queues, slots and reservations, with the queues' slots read as transfers. -/
structure QueuesFit (s : State) : Prop where
  still : ∀ w, queueless (s.win w).state = true → (s.win w).queue = []
  nodup : ∀ w, (s.win w).queue.Nodup
  holds : ∀ w, ∀ i ∈ (s.win w).queue, ∃ t, s.slot i = some t ∧ t.window = w ∧
    (t.state = .head ↔ (s.win w).queue.head? = some i)
  mem : ∀ i t, s.slot i = some t → i ∈ (s.win t.window).queue
  room : ∀ w, s.reserved w ≤ (s.win w).area

theorem queueHolds_iff (s : State) (w : WinId) :
    queueHolds s w = true ↔ ∀ i ∈ (s.win w).queue, ∃ t, s.slot i = some t ∧ t.window = w ∧
      (t.state = .head ↔ (s.win w).queue.head? = some i) := by
  unfold queueHolds
  rw [List.all_eq_true]
  refine forall₂_congr fun i _ => ?_
  cases s.slot i with
  | none => simp
  | some t =>
    have h : ((t.state == .head) = ((s.win w).queue.head? == some i)) ↔
        (t.state = .head ↔ (s.win w).queue.head? = some i) := by rw [Bool.eq_iff_iff]; simp
    simp only [Bool.and_eq_true, beq_iff_eq, h]
    simp

theorem transferLaw_iff (s : State) : TransferLaw s ↔ QueuesFit s := by
  have mem : (∀ i : SlotId, ∀ w : WinId, (s.slot i).map (·.window) = some w → i ∈ (s.win w).queue) ↔
      ∀ i t, s.slot i = some t → i ∈ (s.win t.window).queue :=
    forall_congr' fun i => by cases s.slot i <;> simp
  constructor
  · rintro ⟨hq, ⟨hs, hm⟩, hr⟩
    exact ⟨hq, fun w => (hs w).1, fun w => (queueHolds_iff s w).mp (hs w).2, mem.mp hm, hr⟩
  · rintro ⟨hq, hn, hh, hm, hr⟩
    exact ⟨hq, ⟨fun w => ⟨hn w, (queueHolds_iff s w).mpr (hh w)⟩, mem.mpr hm⟩, hr⟩

section
variable {s : State} (f : QueuesFit s)
include f

/-- A slot in the queue of a window is in no other queue. -/
theorem QueuesFit.unique {v w : WinId} {i : SlotId} (hv : i ∈ (s.win v).queue) (hw : i ∈ (s.win w).queue) : v = w := by
  obtain ⟨t, ht, rfl, -⟩ := f.holds v i hv
  obtain ⟨u, hu, rfl, -⟩ := f.holds w i hw
  rw [ht] at hu
  cases hu
  rfl

/-- A FREE slot is in no queue. -/
theorem QueuesFit.not_mem {i : SlotId} (h : s.slot i = none) (w : WinId) : i ∉ (s.win w).queue := fun hi => by
  obtain ⟨t, ht, -⟩ := f.holds w i hi
  simp [h] at ht

/-- A window whose queue has left, its slots FREE with it, and windows whose queues have stayed, keep the law. -/
theorem QueuesFit.keep {t : State} (E : WinId → Prop) (emptied : ∀ w, E w → (t.win w).queue = [])
    (queue : ∀ w, ¬ E w → (t.win w).queue = (s.win w).queue)
    (state : ∀ w, ¬ E w → queueless (t.win w).state = true → (s.win w).queue = [])
    (pages : ∀ w, ¬ E w → (t.win w).pages = (s.win w).pages ∨ (s.win w).queue = [])
    (freed : ∀ w, E w → ∀ i ∈ (s.win w).queue, t.slot i = none)
    (slots : ∀ i, (∀ w, E w → i ∉ (s.win w).queue) → (t.slot i).map core = (s.slot i).map core) : QueuesFit t := by
  have stays : ∀ w, ¬ E w → ∀ i ∈ (s.win w).queue, (t.slot i).map core = (s.slot i).map core := fun w hw i hi =>
    slots i fun v hv hi' => hw (f.unique hi hi' ▸ hv)
  refine ⟨fun w hs => ?_, fun w => ?_, fun w i hi => ?_, fun i x hx => ?_, fun w => ?_⟩
  · by_cases hw : E w
    · exact emptied w hw
    · rw [queue w hw]; exact state w hw hs
  · by_cases hw : E w
    · simp [emptied w hw]
    · rw [queue w hw]; exact f.nodup w
  · by_cases hw : E w
    · simp [emptied w hw] at hi
    · rw [queue w hw] at hi ⊢
      obtain ⟨x, hx, hwin, hhead⟩ := f.holds w i hi
      have h := stays w hw i hi
      rw [hx] at h
      obtain ⟨y, hy, hc⟩ := Option.map_eq_some_iff.mp h
      simp only [core, Prod.mk.injEq] at hc
      exact ⟨y, hy, by rw [hc.1, hwin], by rw [hc.2.1]; exact hhead⟩
  · have out : ∀ w, E w → i ∉ (s.win w).queue := fun w hw hi => by simp [freed w hw i hi] at hx
    have h := slots i out
    rw [hx] at h
    obtain ⟨y, hy, hc⟩ := Option.map_eq_some_iff.mp h.symm
    simp only [core, Prod.mk.injEq] at hc
    have hi := f.mem i y hy
    rw [hc.1] at hi
    rw [queue _ fun hw => out _ hw hi]
    exact hi
  · by_cases hw : E w
    · simp [State.reserved_of_nil (emptied w hw)]
    · rcases pages w hw with hp | hq
      · have same : t.reserved w = s.reserved w := by
          rw [State.reserved_eq, State.reserved_eq, queue w hw]
          refine congrArg List.sum (List.map_congr_left fun i hi => ?_)
          have h := congrArg (Option.map fun c => c.2.2) (stays w hw i hi)
          simp only [Option.map_map, Function.comp_def, core] at h
          simp [State.sizeAt, h]
        rw [same, Window.area, hp]
        exact f.room w
      · simp [State.reserved_of_nil ((queue w hw).trans hq)]

/-- Where every queue, every slot and every page count stays the law is kept. -/
theorem QueuesFit.same {t : State} (queue : ∀ w, (t.win w).queue = (s.win w).queue)
    (state : ∀ w, queueless (t.win w).state = true → (s.win w).queue = [])
    (pages : ∀ w, (t.win w).pages = (s.win w).pages ∨ (s.win w).queue = []) (slots : SlotsKept s t) : QueuesFit t :=
  f.keep (fun _ => False) (fun _ h => h.elim) (fun w _ => queue w) (fun w _ => state w) (fun w _ => pages w)
    (fun _ h => h.elim) (fun i _ => slots i)

/-- A change of one window without its queue keeps the law, if a state that has no queue is entered without one. -/
theorem QueuesFit.one {t : State} {w : WinId} (only : OnlyWin s t w)
    (state : queueless (t.win w).state = true → (s.win w).queue = []) : QueuesFit t := by
  refine f.same (fun v => ?_) (fun v => ?_) (fun v => .inl ?_) only.slots <;> by_cases e : v = w
  · subst e; exact only.queue
  · exact (only.others v e).queue
  · subst e; exact state
  · rw [(only.others v e).state]; exact f.still v
  · subst e; exact only.pages
  · exact (only.others v e).pages

/-- A taken request is the last of its queue, and fits (R28, R31, R45 to R47). -/
theorem QueuesFit.takes {r : BusRequest} {w : WinId} {i : SlotId} (h : s.judge r = .take w i) :
    QueuesFit (s.taken r w i) := by
  obtain ⟨-, takes, -, hlow, fits⟩ := s.judge_take h
  have free := (State.lowestFree_some s hlow).1
  have new : (s.taken r w i).slot i = some ((s.win w).newTransfer w r) := by rw [State.taken_slot, if_pos rfl]
  have old : ∀ v, ∀ j ∈ (s.win v).queue, j ≠ i ∧ (s.taken r w i).slot j = s.slot j := fun v j hj => by
    have ne : j ≠ i := fun e => f.not_mem free v (e ▸ hj)
    exact ⟨ne, by rw [State.taken_slot, if_neg ne]⟩
  have at_w : (s.taken r w i).win w = { s.win w with queue := (s.win w).queue ++ [i] } := by
    rw [State.taken_win, if_pos rfl]
  have other : ∀ v, v ≠ w → (s.taken r w i).win v = s.win v := fun v hv => by rw [State.taken_win, if_neg hv]
  refine ⟨fun v hs => ?_, fun v => ?_, fun v j hj => ?_, fun j x hx => ?_, fun v => ?_⟩
  · by_cases e : v = w
    · subst e
      rw [at_w] at hs
      cases hst : (s.win v).state <;> simp_all [queueless, WindowState.takes]
    · rw [other v e] at hs ⊢; exact f.still v hs
  · by_cases e : v = w
    · subst e
      rw [at_w]
      exact List.nodup_append.mpr ⟨f.nodup v, by simp, fun j hj k hk => by
        rw [List.mem_singleton.mp hk]; exact (old v j hj).1⟩
    · rw [other v e]; exact f.nodup v
  · by_cases e : v = w
    · subst e
      rw [at_w] at hj ⊢
      rcases List.mem_append.mp hj with hj | hj
      · obtain ⟨x, hx, hwin, hhead⟩ := f.holds v j hj
        refine ⟨x, (old v j hj).2.trans hx, hwin, hhead.trans ?_⟩
        cases hq : (s.win v).queue with
        | nil => simp [hq] at hj
        | cons k q => simp
      · obtain rfl := List.mem_singleton.mp hj
        refine ⟨_, new, rfl, ?_⟩
        cases hq : (s.win v).queue with
        | nil => simp [Window.newTransfer, hq]
        | cons k q =>
          have : k ≠ j := (old v k (by simp [hq])).1
          simp [Window.newTransfer, hq, this]
    · rw [other v e] at hj ⊢
      obtain ⟨x, hx, h⟩ := f.holds v j hj
      exact ⟨x, (old v j hj).2.trans hx, h⟩
  · rw [State.taken_slot] at hx
    split at hx
    · next e =>
      obtain rfl := Option.some.inj hx
      rw [show ((s.win w).newTransfer w r).window = w from rfl, at_w, e]
      simp
    · have hj := f.mem j x hx
      by_cases e : x.window = w
      · rw [e] at hj; rw [e, at_w]; exact List.mem_append_left _ hj
      · rw [other _ e]; exact hj
  · have sizes : ∀ u, ((s.win u).queue.map (s.taken r w i).sizeAt).sum = s.reserved u := fun u => by
      rw [State.reserved_eq]
      refine congrArg List.sum (List.map_congr_left fun j hj => ?_)
      simp [State.sizeAt, (old u j hj).2]
    rw [State.reserved_eq]
    by_cases e : v = w
    · subst e
      rw [at_w, List.map_append, List.sum_append, sizes]
      simpa [State.sizeAt, new, Window.newTransfer, Window.area] using fits
    · rw [other v e, sizes]; exact f.room v

/-- A head that leaves keeps the law: its slot is FREE, and the next of the queue is HEAD (R47, R52). -/
theorem QueuesFit.pops {w : WinId} {i : SlotId} (h : (s.win w).queue.head? = some i) :
    QueuesFit (((s.freeSlot i).modWin w fun x => { x with queue := x.queue.tail }).promote w) := by
  obtain ⟨q, hq⟩ : ∃ q, (s.win w).queue = i :: q := by
    cases hq : (s.win w).queue with
    | nil => simp [hq] at h
    | cons j q => exact ⟨q, by simpa [hq] using h⟩
  obtain ⟨hi, hn⟩ := List.nodup_cons.mp (hq ▸ f.nodup w)
  generalize ht : ((s.freeSlot i).modWin w fun x => { x with queue := x.queue.tail }).promote w = t
  have at_w : t.win w = { s.win w with queue := q } := by rw [← ht, win_pop, if_pos rfl, hq]; rfl
  have other : ∀ v, v ≠ w → t.win v = s.win v := fun v hv => by rw [← ht, win_pop, if_neg hv]
  have slot : ∀ j, t.slot j = if q.head? = some j then
      (if j = i then none else s.slot j).map fun t => { t with state := .head }
      else if j = i then none else s.slot j := fun j => by rw [← ht, State.slot_pop, hq]; rfl
  -- a slot in another queue is neither the one that left nor the new head
  have apart : ∀ v, v ≠ w → ∀ j ∈ (s.win v).queue, t.slot j = s.slot j := fun v hv j hj => by
    have hw : j ∉ i :: q := fun hj' => hv (f.unique hj (hq ▸ hj'))
    have hh : q.head? ≠ some j := fun e => hw (List.mem_cons_of_mem _ (List.mem_of_mem_head? e))
    rw [slot, if_neg hh, if_neg fun e => hw (by simp [e])]
  have rest : ∀ j ∈ q, j ≠ i ∧ ∃ x, s.slot j = some x ∧ x.window = w ∧ x.state ≠ .head := fun j hj => by
    have ne : j ≠ i := fun e => hi (e ▸ hj)
    obtain ⟨x, hx, hwin, hhead⟩ := f.holds w j (by rw [hq]; exact List.mem_cons_of_mem _ hj)
    exact ⟨ne, x, hx, hwin, fun e => ne (by simpa [hq, eq_comm] using hhead.mp e)⟩
  have size : ∀ j, j ≠ i → t.sizeAt j = s.sizeAt j := fun j hj => by
    simp only [State.sizeAt, slot, if_neg hj]
    split
    · simp [Function.comp_def]
    · rfl
  refine ⟨fun v hs => ?_, fun v => ?_, fun v j hj => ?_, fun j x hx => ?_, fun v => ?_⟩
  · by_cases e : v = w
    · subst e
      rw [at_w] at hs
      simp [f.still v hs] at h
    · rw [other v e] at hs ⊢; exact f.still v hs
  · by_cases e : v = w
    · subst e; rw [at_w]; exact hn
    · rw [other v e]; exact f.nodup v
  · by_cases e : v = w
    · subst e
      rw [at_w] at hj ⊢
      obtain ⟨ne, x, hx, hwin, hhead⟩ := rest j hj
      rw [slot, if_neg ne, hx]
      by_cases hh : q.head? = some j
      · exact ⟨_, if_pos hh, hwin, by simp [hh]⟩
      · exact ⟨x, if_neg hh, hwin, by simp [hh, hhead]⟩
    · rw [other v e] at hj ⊢
      rw [apart v e j hj]
      exact f.holds v j hj
  · have ne : j ≠ i := fun e => by simp [slot, e] at hx
    obtain ⟨y, hy, hwin⟩ : ∃ y, s.slot j = some y ∧ x.window = y.window := by
      rw [slot, if_neg ne] at hx
      split at hx
      · obtain ⟨y, hy, rfl⟩ := Option.map_eq_some_iff.mp hx; exact ⟨y, hy, rfl⟩
      · exact ⟨x, hx, rfl⟩
    have hj := f.mem j y hy
    rw [hwin]
    by_cases e : y.window = w
    · rw [e, hq] at hj
      rw [e, at_w]
      exact (List.mem_cons.mp hj).resolve_left ne
    · rw [other _ e]; exact hj
  · rw [State.reserved_eq]
    by_cases e : v = w
    · subst e
      have room := f.room v
      rw [State.reserved_eq, hq, List.map_cons, List.sum_cons] at room
      rw [at_w, List.map_congr_left fun j hj => size j (rest j hj).1]
      simp only [Window.area] at room ⊢
      omega
    · rw [other v e, List.map_congr_left fun j hj => size j ?_, ← State.reserved_eq]
      · exact f.room v
      · rintro rfl
        exact e (f.unique hj (by simp [hq]))

end

theorem QueuesFit.change {s t : State} (f : QueuesFit s) (c : Change s t) : QueuesFit t := by
  have served : ∀ {a : WindowState}, a.carriesQueue = true → queueless a = false := by
    intro a; cases a <;> decide
  cases c with
  | settles H halted quiet freed slots =>
    exact f.keep H (fun w hw => (halted w hw).queue) (fun w hw => (quiet w hw).queue)
      (fun w hw hs => f.still w (by rw [← (quiet w hw).state]; exact hs)) (fun w hw => .inl (quiet w hw).pages) freed slots
  | starts quiet slots =>
    exact f.same (fun w => (quiet w).queue) (fun w hs => f.still w (by rw [← (quiet w).state]; exact hs))
      (fun w => .inl (quiet w).pages) slots
  | opens w only _ old => exact f.one only fun _ => f.still w (by rcases old with h | h <;> rw [h] <;> rfl)
  | syncs w only _ new => exact f.one only fun hs => by rw [new] at hs; simp [queueless] at hs
  | moves w only _ move =>
    refine f.one only fun hs => ?_
    cases move with
    | moves _ new => simp [served new] at hs
    | closes old =>
      rcases old with ⟨-, hq⟩ | old
      · exact hq
      · exact f.still w (by rw [old]; rfl)
    | removes old => exact f.still w (by rw [old]; rfl)
  | defines w d only _ old =>
    refine f.one only fun _ => f.still w (by rcases old with h | h <;> rw [h] <;> rfl)
  | takes r w i judged result => subst result; exact f.takes judged
  | pops w i head _ result => subst result; exact f.pops head
  | layout g free result =>
    have empty : ∀ w, (s.win w).queue = [] := fun w => f.still w (by
      have := noneClaims_iff.mp free w
      cases h : (s.win w).state <;> simp_all [queueless, WindowState.claims])
    subst result
    exact f.same (fun w => by rw [State.win_mapWins]) (fun w _ => empty w) (fun w => .inr (empty w)) fun _ => rfl
  | clears win slots =>
    refine f.keep (fun _ => True) (fun w _ => by rw [win w]; rfl) (fun _ h => absurd trivial h) (fun _ h => absurd trivial h)
      (fun _ h => absurd trivial h) (fun _ _ i _ => slots i) fun i hi => ?_
    have : s.slot i = none := by
      cases h : s.slot i with
      | none => rfl
      | some x => exact absurd (f.mem i x h) (hi _ trivial)
    rw [slots i, this]

/-- Settles O57: every change keeps queues, slots and reservations in agreement. -/
theorem queuesSlotsAndStagingAgree : Obligations.QueuesSlotsAndStagingAgree :=
  Kept.of_change fun s t h c => (transferLaw_iff t).mpr (((transferLaw_iff s).mp h).change c)

end Sys2Proof.Proofs
end

section
/-! SUPPORT. No operation of the part touches the commands that wait (log 21), and obligations O1 and O3. -/
namespace Sys2Proof.Machine

section
variable (s : State)

/-! ### The shared operations -/

@[simp] theorem State.unmarkFlush_pending (w : WinId) : (s.unmarkFlush w).pending = s.pending :=
  foldl_keeps State.pending (fun u i => u.modSlot i fun t => { t with flushMark := false }) (fun _ _ => rfl) _ s

@[simp] theorem State.markHeads_pending : s.markHeads.pending = s.pending := by rw [State.markHeads_frame]

@[simp] theorem State.markNewHeads_pending : s.markNewHeads.pending = s.pending := by
  unfold State.markNewHeads; split <;> simp

@[simp] theorem State.lateDetection_pending : s.lateDetection.pending = s.pending := by
  unfold State.lateDetection
  dsimp only
  rw [State.markHeads_pending]
  exact foldl_keeps State.pending _ (fun u w => by split <;> simp) _ s

@[simp] theorem State.startCycle_pending : s.startCycle.pending = s.pending := by simp [State.startCycle]

@[simp] theorem State.startTraffic_pending : s.startTraffic.pending = s.pending := by
  unfold State.startTraffic; split <;> simp

@[simp] theorem State.toCycled_pending : s.toCycled.pending = s.pending := by
  unfold State.toCycled; dsimp only; split <;> simp

@[simp] theorem State.completeLong_pending (st : LongState) (d : LongDetail) :
    (s.completeLong st d).pending = s.pending := by rw [State.completeLong_frame]

@[simp] theorem State.completeDone_pending (c : LongCode) : (s.completeDone c).pending = s.pending := by
  rw [State.completeDone_frame]

@[simp] theorem State.promote_pending (w : WinId) : (s.promote w).pending = s.pending := by rw [State.promote_frame]

@[simp] theorem State.attemptSince_pending (old : State) : (s.attemptSince old).pending = s.pending := by
  rcases s.attemptSince_cases old with h | h <;> rw [h]; simp

@[simp] theorem State.settle_pending : s.settle.pending = s.pending := by simp [State.settle]

@[simp] theorem State.elapse_pending (n : Nat) : (s.elapse n).pending = s.pending := rfl

@[simp] theorem State.note_pending (k : ErrorKind) : (s.note k).pending = s.pending := by rw [State.note_frame]

@[simp] theorem State.attemptExpired_pending (p : Presented) (k : ErrorKind) :
    (s.attemptExpired p k).pending = s.pending := by unfold State.attemptExpired; split <;> simp

@[simp] theorem State.countExpiry_pending (r : BusRequest) : (s.countExpiry r).pending = s.pending := by
  unfold State.countExpiry; repeat' split
  all_goals simp

@[simp] theorem State.expireWait_pending (p : Presented) : (s.expireWait p).pending = s.pending := by
  simp [State.expireWait]

@[simp] theorem State.haltAllLive_pending (c : FaultCause) : (s.haltAllLive c).pending = s.pending := by
  rw [State.haltAllLive_eq, State.haltEach_pending]

@[simp] theorem State.failExchange_pending (w : WinId) (x : Exchange) (c : FaultCause) (k : Option StrikeKind) :
    (s.failExchange w x c k).pending = s.pending := by unfold State.failExchange; split <;> simp

@[simp] theorem State.dropAllTransfers_pending : s.dropAllTransfers.pending = s.pending :=
  foldl_keeps State.pending _ (fun u w => by rw [State.foldl_dropTransfer]; rfl) _ s

@[simp] theorem State.finishClosing_pending (w : WinId) : (s.finishClosing w).pending = s.pending := by
  unfold State.finishClosing; dsimp only; split <;> simp

@[simp] theorem State.endHead_pending (w : WinId) (i : SlotId) (t : Transfer) (ok : Bool) (data : List Byte) :
    (s.endHead w i t ok data).pending = s.pending := by
  unfold State.endHead; dsimp only; split <;> split <;> simp

@[simp] theorem State.packetSucceeds_pending (w : WinId) (n : Nat) : (s.packetSucceeds w n).pending = s.pending := by
  unfold State.packetSucceeds; dsimp only; repeat' split
  all_goals simp

@[simp] theorem State.endShort_pending (w : WinId) (n : Nat) : (s.endShort w n).pending = s.pending := by
  unfold State.endShort; dsimp only; repeat' split
  all_goals simp

@[simp] theorem State.placeRead_pending (w : WinId) (data : List Byte) : (s.placeRead w data).pending = s.pending := by
  unfold State.placeRead; split <;> simp

@[simp] theorem State.strike_pending (w : WinId) (k : StrikeKind) : (s.strike w k).pending = s.pending := by
  unfold State.strike; split
  · dsimp only; split <;> simp
  · rfl

theorem State.takeResponse_pending (w : WinId) (x : Exchange) (r : Response) :
    (s.takeResponse w x r).pending = s.pending := by
  cases r with
  | ack m =>
    simp only [State.takeResponse, State.takeAck, State.syncAcknowledged]
    repeat' split
    all_goals simp
  | nak =>
    simp only [State.takeResponse, State.takeNak]
    split
    · rfl
    · split <;> simp
  | refuse => simp [State.takeResponse, State.takeRefuse]
  | data bytes => simp only [State.takeResponse, State.takeData]; repeat' split
                  all_goals simp

@[simp] theorem State.receive_pending (f : BitVec 4) (bit : Bool) (r : Response) :
    (s.receive f bit r).pending = s.pending := by
  unfold State.receive
  dsimp only
  split
  · simp
  · simp
  · split <;> simp [State.takeResponse_pending]

@[simp] theorem State.recoveryCheck_pending (fresh : Bool) : (s.recoveryCheck fresh).pending = s.pending := by
  unfold State.recoveryCheck
  dsimp only
  rw [foldl_keeps State.pending _ (fun u w => by split <;> simp)]
  split
  · exact foldl_keeps State.pending _ (fun u w => by split <;> simp) _ s
  · rfl

@[simp] theorem State.enterRecovering_pending : s.enterRecovering.pending = s.pending := by simp [State.enterRecovering]

@[simp] theorem State.countTimeout_pending : s.countTimeout.pending = s.pending := by
  unfold State.countTimeout; split
  · dsimp only; split <;> simp
  · rfl

@[simp] theorem State.startAwaiting_pending (w : WinId) : (s.startAwaiting w).pending = s.pending := by
  unfold State.startAwaiting; split
  · split <;> simp
  · rfl

@[simp] theorem State.giveUpRecovery_pending : s.giveUpRecovery.pending = s.pending := by simp [State.giveUpRecovery]

/-! ### The commands -/

/-- A judged command that is taken has kept the commands that wait. -/
def Judged.KeepsQueue (s : State) : Judged → Prop
  | .refuse _ => True
  | .done t _ => t.pending = s.pending
  | .pending t => t.pending = s.pending

theorem State.command_pending (q c : Byte) {j : State → Judged} (h : ∀ u, (j u).KeepsQueue u) :
    (s.command q c j).pending = s.pending := by
  have := h s.endTransaction
  unfold State.command State.conclude
  dsimp only
  split <;> simp_all [Judged.KeepsQueue]

theorem State.commandUnlessBusy_pending (q c : Byte) {j : State → Judged} (h : ∀ u, (j u).KeepsQueue u) :
    (s.commandUnlessBusy q c j).pending = s.pending := by
  unfold State.commandUnlessBusy
  split
  · simp
  · exact s.command_pending q c h

theorem onWindow_keepsQueue (b : Byte) {j : WinId → Judged} (h : ∀ w, (j w).KeepsQueue s) : (onWindow b j).KeepsQueue s := by
  unfold onWindow; split
  · trivial
  · exact h _

theorem onTarget_keepsQueue (b : Byte) {j : Target → Judged} (h : ∀ t, (j t).KeepsQueue s) : (onTarget b j).KeepsQueue s := by
  unfold onTarget; split
  · trivial
  · exact h _

theorem State.liftHold_pending (w : WinId) (b : Bool) : (s.liftHold w b).pending = s.pending := by
  unfold State.liftHold; split <;> simp

theorem State.takeOpen_pending (w : WinId) : (s.takeOpen w).pending = s.pending := by
  unfold State.takeOpen; dsimp only; split <;> simp

theorem State.applySettings_pending (p : LinkSettings) : (s.applySettings p).pending = s.pending := by
  have mode : ∀ u : State, (u.setMode p.mode).pending = u.pending := fun u => by
    unfold State.setMode; repeat' split
    all_goals simp
  have keep : ∀ (u : State) n, (u.keepAliveChanged n).pending = u.pending := fun u n => by
    unfold State.keepAliveChanged; repeat' split
    all_goals simp
  have recovery : ∀ (u : State) n, (u.recoveryLimitChanged n).pending = u.pending := fun u n => by
    unfold State.recoveryLimitChanged; repeat' split
    all_goals simp
  have wait : ∀ (u : State) n, (u.waitLimitChanged n).pending = u.pending := fun u n => by
    unfold State.waitLimitChanged; repeat' split
    all_goals simp
  simp only [State.applySettings, wait, recovery, keep, mode]
  rfl

theorem State.abortOwner_pending : s.abortOwner.pending = s.pending := by
  unfold State.abortOwner State.endProbe; repeat' split
  all_goals simp

theorem State.resetWindows_pending : s.resetWindows.pending = s.pending := by
  unfold State.resetWindows State.endProbe
  dsimp only
  repeat' split
  all_goals simp

theorem State.resetLink_pending : s.resetLink.pending = s.pending := by
  unfold State.resetLink
  dsimp only
  split <;> simp

theorem judgeReset_keepsQueue {effect : State → State} (h : ∀ u : State, (effect u).pending = u.pending) (a b : Byte) :
    (judgeReset a b effect s).KeepsQueue s := by
  unfold judgeReset; split
  · exact h s
  · trivial

theorem judgeDefine_keepsQueue (b : Byte) (p : DefineParams) : (judgeDefine b p s).KeepsQueue s :=
  onWindow_keepsQueue s b fun w => by
    split
    · trivial
    · dsimp only
      by_cases claims : (s.win w).state ≠ .unused ∧ (s.win w).state ≠ .defined
      · rw [if_pos claims]; trivial
      · rw [if_neg claims]
        split
        · trivial
        · simp only [Judged.KeepsQueue]; split <;> simp

theorem judgeUndefine_keepsQueue (b : Byte) : (judgeUndefine b s).KeepsQueue s :=
  onWindow_keepsQueue s b fun w => by split <;> simp [Judged.KeepsQueue]

theorem judgeLayout_keepsQueue (counts : Vector Byte 12) : (judgeLayout counts s).KeepsQueue s := by
  unfold judgeLayout
  repeat' split
  all_goals simp [Judged.KeepsQueue]

theorem judgeOpen_keepsQueue (q b : Byte) : (judgeOpen q b s).KeepsQueue s :=
  onWindow_keepsQueue s b fun w => by split <;> simp [Judged.KeepsQueue, State.takeOpen_pending]

theorem judgeHold_keepsQueue (b : Byte) : (judgeHold b s).KeepsQueue s :=
  onWindow_keepsQueue s b fun w => by split <;> simp [Judged.KeepsQueue]

theorem judgeRelease_keepsQueue (b : Byte) : (judgeRelease b s).KeepsQueue s :=
  onWindow_keepsQueue s b fun w => by split <;> simp [Judged.KeepsQueue, State.liftHold_pending]

theorem judgeFence_keepsQueue (b : Byte) : (judgeFence b s).KeepsQueue s :=
  onWindow_keepsQueue s b fun w => by dsimp only; split <;> simp [Judged.KeepsQueue, State.liftHold_pending]

theorem judgeUnfence_keepsQueue (b : Byte) : (judgeUnfence b s).KeepsQueue s :=
  onWindow_keepsQueue s b fun w => by split <;> simp [Judged.KeepsQueue]

theorem judgeClose_keepsQueue (b : Byte) : (judgeClose b s).KeepsQueue s :=
  onWindow_keepsQueue s b fun w => by
    dsimp only
    repeat' split
    all_goals simp [Judged.KeepsQueue, State.liftHold_pending]

theorem judgeFlush_keepsQueue (q b : Byte) : (judgeFlush q b s).KeepsQueue s :=
  onWindow_keepsQueue s b fun w => by
    dsimp only
    repeat' split
    all_goals simp [Judged.KeepsQueue]

theorem judgeReadWindow_keepsQueue (b : Byte) : (judgeReadWindow b s).KeepsQueue s :=
  onWindow_keepsQueue s b fun w => by simp only [Judged.KeepsQueue]; split <;> rfl

theorem judgeReadFault_keepsQueue (b : Byte) : (judgeReadFault b s).KeepsQueue s := onWindow_keepsQueue s b fun _ => rfl

theorem judgeReadCounters_keepsQueue (b : Byte) : (judgeReadCounters b s).KeepsQueue s := onTarget_keepsQueue s b fun _ => rfl

theorem judgeClearCounters_keepsQueue (b : Byte) : (judgeClearCounters b s).KeepsQueue s :=
  onTarget_keepsQueue s b fun t => by cases t <;> rfl

theorem judgeAttach_keepsQueue (q : Byte) : (judgeAttach q s).KeepsQueue s := by
  unfold judgeAttach; split <;> simp [Judged.KeepsQueue, State.takeAttach]

theorem judgeDetach_keepsQueue : (judgeDetach s).KeepsQueue s := by
  unfold judgeDetach
  repeat' split
  all_goals simp [Judged.KeepsQueue]

theorem judgeSetLink_keepsQueue (p : LinkParams) : (judgeSetLink p s).KeepsQueue s := by
  unfold judgeSetLink
  repeat' split
  all_goals simp [Judged.KeepsQueue, State.applySettings_pending]

theorem judgeSetMasks_keepsQueue (wm : Byte) (dm : BitVec 16) : (judgeSetMasks wm dm s).KeepsQueue s := by
  unfold judgeSetMasks; split <;> simp [Judged.KeepsQueue]

theorem judgeAckEvents_keepsQueue (b : Byte) (k : BitVec 16) : (judgeAckEvents b k s).KeepsQueue s :=
  onTarget_keepsQueue s b fun t => by
    repeat' split
    all_goals simp [Judged.KeepsQueue, State.ackWindow, State.ackDevice]

theorem judgeAbort_keepsQueue : (judgeAbort s).KeepsQueue s := by
  unfold judgeAbort; split <;> simp [Judged.KeepsQueue, State.abortOwner_pending]

/-! ### The reports of the line -/

/-- A command that is no frame answers a next state and keeps the commands that wait. -/
def KeepsQueue (s : State) (o : Host.Outcome State Fault Refusal) : Prop := ∃ t, o = .next t ∧ t.pending = s.pending

theorem KeepsQueue.of_next {t : State} (h : t.pending = s.pending) : KeepsQueue s (.next t) := ⟨t, rfl, h⟩

theorem execRequestPresented_keepsQueue (r : BusRequest) : KeepsQueue s (execRequestPresented r s) := by
  unfold execRequestPresented; split <;> exact .of_next s (by simp)

theorem execWaitLimitExpiry_keepsQueue : KeepsQueue s (execWaitLimitExpiry s) := by
  unfold execWaitLimitExpiry
  repeat' split
  all_goals exact .of_next s (by simp)

theorem execDownstreamResponse_keepsQueue (g : Tag) (ok : Bool) (data : List Byte) :
    KeepsQueue s (execDownstreamResponse g ok data s) := by
  unfold execDownstreamResponse; split <;> exact .of_next s (by simp)

theorem execHelloReplyReceived_keepsQueue (c : BitVec 32) (l : BitVec 16) (fresh : Bool) :
    KeepsQueue s (execHelloReplyReceived c l fresh s) := by
  unfold execHelloReplyReceived
  dsimp only
  repeat' split
  all_goals exact .of_next s (by simp [State.attached, State.recovered])

theorem execBadCheckPacket_keepsQueue : KeepsQueue s (execBadCheckPacket s) := by
  unfold execBadCheckPacket; split <;> exact .of_next s (by simp)

theorem execLossOfSignal_keepsQueue : KeepsQueue s (execLossOfSignal s) := by
  unfold execLossOfSignal; dsimp only; split <;> exact .of_next s (by simp)

theorem execResponseLimitExpiry_keepsQueue (w : WinId) : KeepsQueue s (execResponseLimitExpiry w s) := by
  unfold execResponseLimitExpiry
  repeat' split
  all_goals exact .of_next s (by simp)

theorem execNakIntervalEnd_keepsQueue (w : WinId) : KeepsQueue s (execNakIntervalEnd w s) := by
  unfold execNakIntervalEnd
  repeat' split
  all_goals exact .of_next s (by simp)

theorem execTransmissionEnd_keepsQueue : KeepsQueue s (execTransmissionEnd s) := by
  unfold execTransmissionEnd
  split
  · exact .of_next s rfl
  · dsimp only; split <;> exact .of_next s (by simp)

theorem execCycleStart_keepsQueue : KeepsQueue s (execCycleStart s) := by
  unfold execCycleStart; split <;> exact .of_next s (by simp)

theorem execKeepAliveExpiry_keepsQueue : KeepsQueue s (execKeepAliveExpiry s) := by
  unfold execKeepAliveExpiry; split <;> exact .of_next s (by simp)

theorem execProbeTimerExpiry_keepsQueue : KeepsQueue s (execProbeTimerExpiry s) := by
  unfold execProbeTimerExpiry
  split
  · exact .of_next s rfl
  · dsimp only; split <;> exact .of_next s (by simp)

theorem execAttachNoReply_keepsQueue : KeepsQueue s (execAttachNoReply s) := by
  unfold execAttachNoReply
  split
  · dsimp only; split <;> exact .of_next s (by simp)
  · exact .of_next s rfl

theorem execRecoveryLimitExpiry_keepsQueue : KeepsQueue s (execRecoveryLimitExpiry s) := by
  unfold execRecoveryLimitExpiry; split <;> exact .of_next s (by simp)

end

/-- Every command keeps the commands that wait. -/
theorem exec_keepsQueue (s : State) (c : Instr) : KeepsQueue s (exec c s) := by
  cases c with
  | pinReset => exact .of_next s rfl
  | getStatus q => exact .of_next s (s.command_pending q _ fun _ => rfl)
  | define q w p => exact .of_next s (s.commandUnlessBusy_pending q _ fun u => judgeDefine_keepsQueue u w p)
  | undefine q w => exact .of_next s (s.commandUnlessBusy_pending q _ fun u => judgeUndefine_keepsQueue u w)
  | layout q n => exact .of_next s (s.commandUnlessBusy_pending q _ fun u => judgeLayout_keepsQueue u n)
  | openWindow q w => exact .of_next s (s.commandUnlessBusy_pending q _ fun u => judgeOpen_keepsQueue u q w)
  | hold q w => exact .of_next s (s.commandUnlessBusy_pending q _ fun u => judgeHold_keepsQueue u w)
  | release q w => exact .of_next s (s.commandUnlessBusy_pending q _ fun u => judgeRelease_keepsQueue u w)
  | fence q w => exact .of_next s (s.commandUnlessBusy_pending q _ fun u => judgeFence_keepsQueue u w)
  | unfence q w => exact .of_next s (s.commandUnlessBusy_pending q _ fun u => judgeUnfence_keepsQueue u w)
  | close q w => exact .of_next s (s.commandUnlessBusy_pending q _ fun u => judgeClose_keepsQueue u w)
  | flush q w => exact .of_next s (s.commandUnlessBusy_pending q _ fun u => judgeFlush_keepsQueue u q w)
  | readWindow q w => exact .of_next s (s.commandUnlessBusy_pending q _ fun u => judgeReadWindow_keepsQueue u w)
  | readFault q w => exact .of_next s (s.commandUnlessBusy_pending q _ fun u => judgeReadFault_keepsQueue u w)
  | readCounters q b => exact .of_next s (s.commandUnlessBusy_pending q _ fun u => judgeReadCounters_keepsQueue u b)
  | clearCounters q b => exact .of_next s (s.commandUnlessBusy_pending q _ fun u => judgeClearCounters_keepsQueue u b)
  | attach q => exact .of_next s (s.commandUnlessBusy_pending q _ fun u => judgeAttach_keepsQueue u q)
  | detach q => exact .of_next s (s.commandUnlessBusy_pending q _ judgeDetach_keepsQueue)
  | setLink q p => exact .of_next s (s.commandUnlessBusy_pending q _ fun u => judgeSetLink_keepsQueue u p)
  | setMasks q wm dm => exact .of_next s (s.commandUnlessBusy_pending q _ fun u => judgeSetMasks_keepsQueue u wm dm)
  | readEvents q => exact .of_next s (s.commandUnlessBusy_pending q _ fun _ => rfl)
  | ackEvents q b k => exact .of_next s (s.commandUnlessBusy_pending q _ fun u => judgeAckEvents_keepsQueue u b k)
  | abort q => exact .of_next s (s.command_pending q _ judgeAbort_keepsQueue)
  | resetBlockWindows q b =>
    exact .of_next s (s.command_pending q _ fun u => judgeReset_keepsQueue u State.resetWindows_pending 1 b)
  | resetBlockLink q b =>
    exact .of_next s (s.command_pending q _ fun u => judgeReset_keepsQueue u State.resetLink_pending 2 b)
  | resetBlockAll q b => exact .of_next s (s.command_pending q _ fun u => judgeReset_keepsQueue (effect := State.resetAll) u (fun _ => rfl) 3 b)
  | frameError | frameDiscarded | otherInboundPacket | signalPresent | chipSelectFalls | resultTransaction =>
    exact .of_next s rfl
  | requestPresented r => exact execRequestPresented_keepsQueue s r
  | acceptanceAttempt => exact .of_next s s.attempt_pending
  | waitLimitExpiry => exact execWaitLimitExpiry_keepsQueue s
  | downstreamResponse g ok data => exact execDownstreamResponse_keepsQueue s g ok data
  | ackReceived f b m => exact .of_next s (s.receive_pending f b _)
  | nakReceived f b => exact .of_next s (s.receive_pending f b _)
  | refuseReceived f b => exact .of_next s (s.receive_pending f b _)
  | dataReceived f b data => exact .of_next s (s.receive_pending f b _)
  | helloReplyReceived c l fresh => exact execHelloReplyReceived_keepsQueue s c l fresh
  | badCheckPacket => exact execBadCheckPacket_keepsQueue s
  | responseLimitExpiry w => exact execResponseLimitExpiry_keepsQueue s w
  | nakIntervalEnd w => exact execNakIntervalEnd_keepsQueue s w
  | transmissionEnd => exact execTransmissionEnd_keepsQueue s
  | cycleStart => exact execCycleStart_keepsQueue s
  | keepAliveExpiry => exact execKeepAliveExpiry_keepsQueue s
  | probeTimerExpiry => exact execProbeTimerExpiry_keepsQueue s
  | attachNoReply => exact execAttachNoReply_keepsQueue s
  | recoveryLimitExpiry => exact execRecoveryLimitExpiry_keepsQueue s
  | lossOfSignal => exact execLossOfSignal_keepsQueue s

end Sys2Proof.Machine

namespace Sys2Proof.Proofs
open Sys2Proof.Machine

/-- Settles O3: command by command. -/
theorem everyCommandKeepsTheQueue : Obligations.EveryCommandKeepsTheQueue := fun s c => exec_keepsQueue s c

/-- Settles O1: a step reads the front of the queue. -/
theorem stepTakesTheFrontCommand : Obligations.StepTakesTheFrontCommand := fun _ _ _ => rfl

end Sys2Proof.Proofs
end

section
/-! SUPPORT. The command unit apart (R155, R157): no operation of the other blocks reads it, so a frame's outcome may be
written before or after them. -/
namespace Sys2Proof.Machine
open Sys2Proof.Safety

section
variable (s : State)

/-- The part with another command unit. -/
def State.setCmd (c : CommandUnit) : State := { s with cmd := c }

variable (c : CommandUnit)

@[simp] theorem State.setCmd_cmd : (s.setCmd c).cmd = c := rfl
@[simp] theorem State.setCmd_acc : (s.setCmd c).acc = s.acc := rfl
@[simp] theorem State.setCmd_arb : (s.setCmd c).arb = s.arb := rfl
@[simp] theorem State.setCmd_link : (s.setCmd c).link = s.link := rfl
@[simp] theorem State.setCmd_ev : (s.setCmd c).ev = s.ev := rfl
@[simp] theorem State.setCmd_win (w : WinId) : (s.setCmd c).win w = s.win w := rfl
@[simp] theorem State.setCmd_slot (i : SlotId) : (s.setCmd c).slot i = s.slot i := rfl
@[simp] theorem State.setCmd_setCmd (d : CommandUnit) : (s.setCmd c).setCmd d = s.setCmd d := rfl
@[simp] theorem State.setCmd_self : s.setCmd s.cmd = s := rfl

@[simp] theorem Receiver.rise_eq (r : Receiver) : r.rise = .idle := by cases r <;> rfl

theorem State.endTransaction_eq : s.endTransaction = s.setCmd { s.cmd with receiver := .idle } := by
  simp [State.endTransaction, State.setCmd]

/-! ### Operations that do not read the command unit -/

@[simp] theorem State.setCmd_setWin (w : WinId) (x : Window) : (s.setCmd c).setWin w x = (s.setWin w x).setCmd c := rfl
@[simp] theorem State.setCmd_modWin (w : WinId) (f : Window → Window) :
    (s.setCmd c).modWin w f = (s.modWin w f).setCmd c := rfl
@[simp] theorem State.setCmd_mapWins (f : WinId → Window → Window) : (s.setCmd c).mapWins f = (s.mapWins f).setCmd c := rfl
@[simp] theorem State.setCmd_setSlot (i : SlotId) (t : Option Transfer) :
    (s.setCmd c).setSlot i t = (s.setSlot i t).setCmd c := rfl
@[simp] theorem State.setCmd_modSlot (i : SlotId) (f : Transfer → Transfer) :
    (s.setCmd c).modSlot i f = (s.modSlot i f).setCmd c := rfl
@[simp] theorem State.setCmd_raiseWindow (w : WinId) (k : WindowKind) :
    (s.setCmd c).raiseWindow w k = (s.raiseWindow w k).setCmd c := rfl
@[simp] theorem State.setCmd_raiseDevice (k : DeviceKind) : (s.setCmd c).raiseDevice k = (s.raiseDevice k).setCmd c := rfl
@[simp] theorem State.setCmd_countWindow (w : WinId) (k : WindowCounter) (n : Nat) :
    (s.setCmd c).countWindow w k n = (s.countWindow w k n).setCmd c := rfl
@[simp] theorem State.setCmd_enter (w : WinId) (st : WindowState) : (s.setCmd c).enter w st = (s.enter w st).setCmd c := rfl
@[simp] theorem State.setCmd_closeNow (w : WinId) : (s.setCmd c).closeNow w = (s.closeNow w).setCmd c := rfl
@[simp] theorem State.setCmd_setAttn : (s.setCmd c).setAttn = s.setAttn.setCmd c := rfl

theorem State.setCmd_markHead (w : WinId) : (s.setCmd c).markHead w = (s.markHead w).setCmd c := by
  have head : (s.setCmd c).headOf w = s.headOf w := rfl
  unfold State.markHead
  rw [State.setCmd_win, head]
  split
  · split <;> rfl
  · rfl

/-- A fold of operations that do not read the command unit does not either. -/
theorem State.setCmd_foldl {α : Type} (f : State → α → State) (h : ∀ (s : State) a, f (s.setCmd c) a = (f s a).setCmd c)
    (l : List α) : l.foldl f (s.setCmd c) = (l.foldl f s).setCmd c := List.foldl_hom (State.setCmd · c) h

theorem State.setCmd_markHeads : (s.setCmd c).markHeads = s.markHeads.setCmd c :=
  s.setCmd_foldl c _ (fun u w => u.setCmd_markHead c w) _

theorem State.setCmd_lateDetection : (s.setCmd c).lateDetection = s.lateDetection.setCmd c := by
  have late : ∀ w, (s.setCmd c).isLate w = s.isLate w := fun _ => rfl
  unfold State.lateDetection
  simp only [late]
  rw [← State.setCmd_markHeads, ← State.setCmd_foldl]
  intro u w
  split <;> rfl

theorem State.setCmd_startCycle : (s.setCmd c).startCycle = s.startCycle.setCmd c := by
  unfold State.startCycle
  dsimp only
  rw [← State.setCmd_lateDetection]
  rfl

@[simp] theorem State.setCmd_toCycled : (s.setCmd c).toCycled = s.toCycled.setCmd c := by
  unfold State.toCycled
  dsimp only
  rw [State.setCmd_link]
  split
  · rw [← State.setCmd_startCycle]; rfl
  · rfl

theorem State.setCmd_takeOpen (w : WinId) : (s.setCmd c).takeOpen w = (s.takeOpen w).setCmd c := by
  unfold State.takeOpen
  dsimp only
  rw [State.setCmd_modWin, State.setCmd_win, State.setCmd_arb]
  split
  · simp
  · rfl

@[simp] theorem State.setCmd_startLong (k : LongCode) (q : Byte) (w : Option WinId) :
    (s.setCmd c).startLong k q w = s.setCmd { c with long := ⟨some k, q, w, .running, .none⟩ } := rfl

@[simp] theorem State.setCmd_offer (w : WinId) : (s.setCmd c).offer w = (s.offer w).setCmd c := by
  have head : (s.setCmd c).headOf w = s.headOf w := rfl
  unfold State.offer
  dsimp only
  rw [State.setCmd_win, head]
  split
  · split <;> rfl
  · rfl

theorem State.setCmd_sendExchange (w : WinId) : (s.setCmd c).sendExchange w = (s.sendExchange w).setCmd c := by
  unfold State.sendExchange
  rw [State.setCmd_win]
  split <;> rfl

@[simp] theorem State.setCmd_choose : (s.setCmd c).choose = s.choose.setCmd c := by
  have periodic : (s.setCmd c).periodicCandidate = s.periodicCandidate := rfl
  have general : (s.setCmd c).generalCandidate = s.generalCandidate := rfl
  unfold State.choose
  rw [State.setCmd_arb, periodic, general]
  cases s.arb.transmitter with
  | some _ => rfl
  | none =>
    cases s.arb.marker with
    | some _ => rfl
    | none =>
      cases s.periodicCandidate with
      | some w => exact s.setCmd_sendExchange c w
      | none =>
        cases s.generalCandidate with
        | some w => exact s.setCmd_sendExchange c w
        | none => rfl

theorem State.setCmd_taken (r : BusRequest) (w : WinId) (i : SlotId) :
    (s.setCmd c).taken r w i = (s.taken r w i).setCmd c := by
  unfold State.taken
  dsimp only
  rw [State.setCmd_win]
  split <;> rfl

@[simp] theorem State.setCmd_attempt : (s.setCmd c).attempt = s.attempt.setCmd c := by
  have judge : ∀ r, (s.setCmd c).judge r = s.judge r := fun _ => rfl
  have tag : ∀ g, (s.setCmd c).tagEntry g = s.tagEntry g := fun _ => rfl
  cases hp : s.acc.presented with
  | none => rw [s.attempt_of_none hp, (s.setCmd c).attempt_of_none hp]
  | some p =>
    cases hk : p.expired with
    | some k =>
      simp only [State.attempt, State.setCmd_acc, hp, hk, State.attemptExpired, tag]
      split
      · cases k <;> rfl
      · rfl
    | none =>
      simp only [State.attempt, State.setCmd_acc, hp, hk, judge]
      cases s.judge p.req with
      | error k => cases k <;> rfl
      | take w i => simp [State.apply, State.take_eq, State.setCmd_taken]
      | forward => rfl
      | wait r => rfl

@[simp] theorem State.setCmd_settle : (s.setCmd c).settle = s.settle.setCmd c := by simp [State.settle]

@[simp] theorem State.setCmd_liftHold (w : WinId) (b : Bool) : (s.setCmd c).liftHold w b = (s.liftHold w b).setCmd c := by
  unfold State.liftHold; split <;> simp

/-! ### The outcome of a judged frame -/

theorem answered_eq (r : ResultRecord) : answered s r = s.setCmd { s.cmd with receiver := .idle, result := r } := rfl

@[simp] theorem answered_setCmd (r : ResultRecord) :
    answered (s.setCmd c) r = s.setCmd { c with receiver := .idle, result := r } := rfl

/-- A frame that is no exception is judged by its own rule where no long command runs (R159). -/
theorem State.judged {q b : Byte} {j : State → Judged} (h : Ready s) :
    s.commandUnlessBusy q b j = s.command q b j := s.commandUnlessBusy_free h q b j

theorem State.command_refuse {q b : Byte} {j : State → Judged} {r : Reason}
    (h : j (s.setCmd { s.cmd with receiver := .idle }) = .refuse r) :
    s.command q b j = answered s ⟨q, b, .refused, .refusal r, []⟩ := by
  simp only [State.command, State.endTransaction_eq, h]; rfl

/-- A frame that is taken and DONE leaves what its rule leaves, and its record. -/
theorem State.command_done {q b : Byte} {j : State → Judged} {t : State} {p : List Byte}
    (h : j (s.setCmd { s.cmd with receiver := .idle }) = .done (t.setCmd { s.cmd with receiver := .idle }) p) :
    s.command q b j = t.setCmd { s.cmd with receiver := .idle, result := ⟨q, b, .done, .absent, p⟩ } := by
  simp only [State.command, State.endTransaction_eq, h]; rfl

/-- A frame that starts a long command leaves what its rule leaves, and its record. -/
theorem State.command_pends {q b : Byte} {j : State → Judged} {t : State} {l : LongRecord}
    (h : j (s.setCmd { s.cmd with receiver := .idle }) =
      .pending (t.setCmd { s.cmd with receiver := .idle, long := l })) :
    s.command q b j =
      t.setCmd { receiver := .idle, result := ⟨q, b, .pending, .absent, []⟩, long := l } := by
  simp only [State.command, State.endTransaction_eq, h]; rfl

theorem windowOf_numberOf (w : WinId) : windowOf (numberOf w) = some w := by revert w; decide

@[simp] theorem onWindow_numberOf (w : WinId) (j : WinId → Judged) : onWindow (numberOf w) j = j w := by
  simp [onWindow, windowOf_numberOf]

/-- A window number above 11 is refused BAD_PARAM (R174). -/
theorem onWindow_ge {b : Byte} (h : 11 < b.toNat) (j : WinId → Judged) : onWindow b j = .refuse .badParam := by
  simp [onWindow, windowOf_ge (show 12 ≤ b.toNat by omega)]

end
end Sys2Proof.Machine
end

section
/-! SUPPORT. The window commands: obligations O11 to O13 and O15 to O18. -/
namespace Sys2Proof.Proofs
open Sys2Proof.Machine Sys2Proof.Safety

/-! ### Refusals -/

section
variable {s : State} (ready : Ready s)
include ready

/-- A window command that its own rule refuses changes nothing but the command unit. -/
theorem refused_of {q b : Byte} {j : State → Judged} {r : Reason}
    (h : j (s.setCmd { s.cmd with receiver := .idle }) = .refuse r) :
    (.next (s.commandUnlessBusy q b j) : Host.Outcome State Fault Refusal) =
      .next (answered s ⟨q, b, .refused, .refusal r, []⟩) := by
  rw [s.judged ready, s.command_refuse h]

/-- A frame that is taken and DONE: the next state is what the rule leaves, with its record. -/
theorem done_of {q b : Byte} {j : State → Judged} {t u : State} {p : List Byte}
    (h : j (s.setCmd { s.cmd with receiver := .idle }) = .done (t.setCmd { s.cmd with receiver := .idle }) p)
    (hu : u = t.setCmd { s.cmd with receiver := .idle, result := ⟨q, b, .done, .absent, p⟩ }) :
    (.next (s.commandUnlessBusy q b j) : Host.Outcome State Fault Refusal) = .next u := by
  rw [s.judged ready, s.command_done h, hu]

/-- A frame that starts a long command: the next state is what the rule leaves, with both records. -/
theorem pending_of {q b : Byte} {j : State → Judged} {t u : State} {l : LongRecord}
    (h : j (s.setCmd { s.cmd with receiver := .idle }) =
      .pending (t.setCmd { s.cmd with receiver := .idle, long := l }))
    (hu : u = t.setCmd { receiver := .idle, result := ⟨q, b, .pending, .absent, []⟩, long := l }) :
    (.next (s.commandUnlessBusy q b j) : Host.Outcome State Fault Refusal) = .next u := by
  rw [s.judged ready, s.command_pends h, hu]

end

/-! ### HOLD, RELEASE, FENCE, UNFENCE -/

theorem withState_eq (s : State) (w : WinId) (st : WindowState) : withState s w st = s.enter w st := rfl

/-- Settles O16: each command in the states that take it. -/
theorem holdReleaseFenceUnfence : Obligations.HoldReleaseFenceUnfence := by
  intro s q w ready
  refine ⟨fun h => ?_, fun h => ?_, fun h => ?_, fun h => ?_, fun h => ?_⟩
  · exact done_of ready (p := []) (t := (s.enter w .held).attempt) (by simp [judgeHold, h]) (by simp [answered_eq, withState_eq])
  · exact done_of ready (p := []) (t := ((s.enter w .opened).offer w).settle) (by simp [judgeRelease, h, State.liftHold])
      (by simp [answered_eq, withState_eq])
  · exact done_of ready (p := []) (t := (s.enter w .fenced).attempt) (by simp [judgeFence, h, State.liftHold])
      (by simp [answered_eq, withState_eq])
  · exact done_of ready (p := []) (t := ((s.enter w .fenced).offer w).settle) (by simp [judgeFence, h, State.liftHold])
      (by simp [answered_eq, withState_eq])
  · exact done_of ready (p := []) (t := (s.enter w .opened).attempt) (by simp [judgeUnfence, h]) (by simp [answered_eq, withState_eq])

/-! ### CLOSE and FLUSH -/

theorem closeNow_eq (s : State) (w : WinId) :
    (s.setWin w { s.win w with state := .defined, fault := none, exchange := none }).raiseWindow w .closed =
      s.closeNow w := rfl

/-- Settles O17: CLOSE by the window's state and queue, FLUSH by the queue. -/
theorem closeAndFlush : Obligations.CloseAndFlush := by
  refine ⟨fun s q w ready => ⟨fun h => ?_, fun h hq => ?_, fun h hq => ?_, fun h hq => ?_⟩, fun s q w ready hs => ⟨fun hq => ?_, fun i t hi ht => ?_⟩⟩
  · exact done_of ready (p := []) (t := (s.closeNow w).attempt) (by simp [judgeClose, h]) (by simp [answered_eq, closeNow_eq])
  · refine done_of ready (p := []) (t := (s.closeNow w).attempt) ?_ (by simp [answered_eq, closeNow_eq])
    rcases h with h | h | h <;> simp [judgeClose, h, hq]
  · refine done_of ready (p := []) (t := (s.enter w .closing).attempt) ?_ (by simp [answered_eq, withState_eq])
    rcases h with h | h <;> simp [judgeClose, h, hq, State.liftHold]
  · exact done_of ready (p := []) (t := ((s.enter w .closing).offer w).settle) (by simp [judgeClose, h, hq, State.liftHold])
      (by simp [answered_eq, withState_eq])
  · refine done_of ready (p := []) (t := s) ?_ rfl
    have flushable : (s.win w).state.flushable = true := by revert hs; cases (s.win w).state <;> decide
    simp [judgeFlush, flushable, hq]
  · have flushable : (s.win w).state.flushable = true := by revert hs; cases (s.win w).state <;> decide
    refine pending_of ready (t := s.setSlot i (some { t with flushMark := true }))
      (l := ⟨some .flush, q, some w, .running, .none⟩) ?_ rfl
    simp only [judgeFlush, onWindow_numberOf, State.setCmd_win, flushable, hi, Bool.not_true, Bool.false_eq_true,
      if_false, State.modSlot, State.setCmd_slot, ht, Option.map_some]
    rfl

/-! ### OPEN -/

theorem openRefusal_of_taken {s : State} {w : WinId} {d : Definition}
    (hs : (s.win w).state = .defined ∨ (s.win w).state = .halted) (hd : (s.win w).defn = some d)
    (hl : s.link.state = .active) (hp : 1 ≤ (s.win w).pages)
    (hc : (d.farBase.toNat + d.size) / 1024 ≤ s.link.capacity) (hk : d.packetSize ≤ s.link.packetLimit) :
    s.openRefusal w = none := by
  have state : ¬((s.win w).state ≠ .defined ∧ (s.win w).state ≠ .halted) := by tauto
  have far : ¬ d.farEnd > s.link.capacity := Nat.not_lt.mpr hc
  unfold State.openRefusal
  simp only [hd]
  rw [if_neg state, if_neg (by simpa using hl), if_neg (by omega), if_neg far, if_neg (Nat.not_lt.mpr hk)]

/-- What OPEN does at taking, by the class of the definition and the mode (R11, R131). -/
theorem takeOpen_eq {s : State} {w : WinId} {d : Definition} (hd : (s.win w).defn = some d) :
    s.takeOpen w =
      if d.cls.isPeriodic = true ∧ s.arb.mode = .free then
        (s.modWin w fun x =>
          { x with state := .syncing, fault := none, exchange := some (.new .sync) }).toCycled.raiseDevice .modeChanged
      else s.modWin w fun x => { x with state := .syncing, fault := none, exchange := some (.new .sync) } := by
  unfold State.takeOpen
  dsimp only
  rw [State.win_modWin_self]
  refine if_congr ?_ rfl rfl
  rw [Bool.and_eq_true, decide_eq_true_iff]
  simp [Window.isPeriodic, hd]

/-- Settles O15: the change of mode, where there is one, and then the attempt and the choice. -/
theorem openTaken : Obligations.OpenTaken := by
  intro s q w d ready hs hd hl hp hc hk
  have taken : ∀ c, (s.setCmd c).openRefusal w = none := fun _ => openRefusal_of_taken hs hd hl hp hc hk
  refine pending_of ready (t := (s.takeOpen w).settle) (l := ⟨some .openWindow, q, some w, .running, .none⟩) ?_ ?_
  · simp [judgeOpen, taken, State.setCmd_takeOpen]
  · have base : ∀ x : Window,
        ({ answered (s.setWin w x) ⟨q, 0x13, .pending, .absent, []⟩ with
          cmd := { (answered (s.setWin w x) ⟨q, 0x13, .pending, .absent, []⟩).cmd with
            long := ⟨some .openWindow, q, some w, .running, .none⟩ } } : State) =
        (s.setWin w x).setCmd ⟨.idle, ⟨q, 0x13, .pending, .absent, []⟩, ⟨some .openWindow, q, some w, .running, .none⟩⟩ :=
      fun _ => rfl
    simp only [base, takeOpen_eq hd]
    split
    · simp only [State.setCmd_toCycled, State.setCmd_raiseDevice, State.setCmd_settle]; rfl
    · simp only [State.setCmd_settle]; rfl

/-! ### The refusals -/

theorem judgeClose_refused {s : State} {w : WinId} (h : (s.win w).state ∉ [.opened, .held, .fenced, .halted]) :
    judgeClose (numberOf w) s = .refuse .windowState := by
  simp only [judgeClose, onWindow_numberOf]
  split <;> simp_all

theorem openRefusal_state {s : State} {w : WinId} (h : (s.win w).state ∉ [.defined, .halted]) :
    s.openRefusal w = some .windowState := by
  simp only [List.mem_cons, List.not_mem_nil, or_false, not_or] at h
  unfold State.openRefusal
  dsimp only
  split
  · rfl
  · rw [if_pos h]

/-- Settles O18: BAD_PARAM above W11, then the states, then the four further checks of OPEN. -/
theorem windowCommandRefusals : Obligations.WindowCommandRefusals := by
  refine ⟨fun s q b ready h => ?_, fun s q w ready => ?_, fun s q w d ready hs hd => ?_⟩
  · have bad : ∀ j, onWindow b j = .refuse .badParam := onWindow_ge h
    exact ⟨refused_of ready (bad _), refused_of ready (bad _), refused_of ready (bad _), refused_of ready (bad _),
      refused_of ready (bad _), refused_of ready (bad _), refused_of ready (bad _), refused_of ready (bad _),
      refused_of ready (bad _)⟩
  · refine ⟨fun h => refused_of ready ?_, fun h => refused_of ready ?_, fun h => refused_of ready ?_,
      fun h => refused_of ready ?_, fun h => refused_of ready ?_, fun h => refused_of ready ?_, fun h => refused_of ready ?_⟩
    · have refused : ∀ c, (s.setCmd c).openRefusal w = some .windowState := fun _ => openRefusal_state h
      simp [judgeOpen, refused]
    · simp_all [judgeHold]
    · simp_all [judgeRelease]
    · simp_all [judgeFence]
    · simp_all [judgeUnfence]
    · exact judgeClose_refused h
    · have flushable : (s.win w).state.flushable = false := by revert h; cases (s.win w).state <;> decide
      simp [judgeFlush, flushable]
  · have open_refused : ∀ {r : Reason}, s.openRefusal w = some r →
        exec (.openWindow q (numberOf w)) s = .next (answered s ⟨q, 0x13, .refused, .refusal r, []⟩) := fun {r} h =>
      refused_of ready (by
        have : ∀ c, (s.setCmd c).openRefusal w = some r := fun _ => h
        simp [judgeOpen, this])
    have state : ¬((s.win w).state ≠ .defined ∧ (s.win w).state ≠ .halted) := by
      simp only [List.mem_cons, List.not_mem_nil, or_false] at hs; tauto
    have checks : s.openRefusal w =
        if s.link.state ≠ .active then some .linkDown
        else if (s.win w).pages = 0 then some .noPages
        else if d.farEnd > s.link.capacity then some .farRange
        else if d.packetSize > s.link.packetLimit then some .packetSize
        else none := by unfold State.openRefusal; simp only [hd]; rw [if_neg state]
    refine ⟨fun hl => open_refused ?_, fun hl => ⟨fun hp => open_refused ?_, fun hp => ⟨fun hc => open_refused ?_,
      fun hc hk => open_refused ?_⟩⟩⟩
    · rw [checks, if_pos hl]
    · rw [checks, if_neg (by simpa using hl), if_pos hp]
    · rw [checks, if_neg (by simpa using hl), if_neg hp, if_pos (show d.farEnd > s.link.capacity from hc)]
    · have far : ¬ d.farEnd > s.link.capacity := Nat.not_lt.mpr hc
      rw [checks, if_neg (by simpa using hl), if_neg hp, if_neg far, if_pos hk]

/-! ### UNDEFINE and DEFINE -/

/-- Settles O13: the refusals, and what the taking leaves before and after the attempt. -/
theorem undefineOutcome : Obligations.UndefineOutcome := by
  intro s q b ready
  refine ⟨fun h => refused_of ready (onWindow_ge h _), ?_⟩
  rintro w rfl
  refine ⟨fun h => refused_of ready (by simp [judgeUndefine, h]), fun h => ?_⟩
  have taken : exec (.undefine q (numberOf w)) s = .next (answered
      (s.setWin w { s.win w with state := .unused, defn := none, remaining := none })
      ⟨q, 0x11, .done, .absent, []⟩).attempt :=
    done_of ready (p := []) (t := (s.modWin w fun x => { x with state := .unused, defn := none, remaining := none }).attempt)
      (by simp [judgeUndefine, h]) (by rw [answered_eq, State.setCmd_attempt]; rfl)
  refine ⟨taken, fun t ht => ?_⟩
  obtain rfl := Host.Outcome.next.inj (taken.symm.trans ht)
  obtain ⟨keeps, -⟩ := AttemptKeeps.attempt (answered
    (s.setWin w { s.win w with state := .unused, defn := none, remaining := none }) ⟨q, 0x11, .done, .absent, []⟩)
  have win : (answered (s.setWin w { s.win w with state := .unused, defn := none, remaining := none })
      ⟨q, 0x11, .done, .absent, []⟩).win w = { s.win w with state := .unused, defn := none, remaining := none } :=
    s.win_setWin_self w _
  rw [(keeps w).1, win]
  simp

/-- DEFINE's parameters give a definition field by field (R4). -/
theorem definitionFrom_eq_some {p : DefineParams} {d : Definition} :
    definitionFrom p = some d ↔ ∃ cls short, classOf p.cls p.budget.toNat p.packetSize.toNat = some cls ∧
      shortPolicyOf p.shortPolicy p.fillByte = some short ∧ rangesOk p = true ∧ settingsOk p = true ∧
      d = ⟨p.base, p.size.toNat, p.farBase, cls, p.packetSize.toNat, short, p.nakInterval.toNat, p.nakLimit.toNat,
        p.strikeLimit.toNat⟩ := by
  unfold definitionFrom
  cases classOf p.cls p.budget.toNat p.packetSize.toNat with
  | none => simp
  | some cls =>
    cases shortPolicyOf p.shortPolicy p.fillByte with
    | none => simp
    | some short =>
      simp only [Option.ite_none_right_eq_some, Bool.and_eq_true, Option.some.injEq]
      constructor
      · rintro ⟨⟨hr, hs⟩, rfl⟩
        exact ⟨cls, short, rfl, rfl, hr, hs, rfl⟩
      · rintro ⟨_, _, rfl, rfl, hr, hs, rfl⟩
        exact ⟨⟨hr, hs⟩, rfl⟩

/-- R4 refuses the parameters exactly when one of its parts does. -/
theorem definitionFrom_eq_none {p : DefineParams} :
    definitionFrom p = none ↔ classOf p.cls p.budget.toNat p.packetSize.toNat = none ∨
      shortPolicyOf p.shortPolicy p.fillByte = none ∨ rangesOk p = false ∨ settingsOk p = false := by
  unfold definitionFrom
  cases classOf p.cls p.budget.toNat p.packetSize.toNat <;> cases shortPolicyOf p.shortPolicy p.fillByte <;>
    simp [← Bool.not_eq_true, Classical.or_iff_not_imp_left]

theorem classOf_eq_none {code : Byte} {budget size : Nat} :
    classOf code budget size = none ↔ 2 < code.toNat ∨ (code.toNat < 2 ∧ budget ≠ 0) ∨
      (code.toNat = 2 ∧ (budget < 32 ∨ 4096 < budget ∨ budget < size)) := by
  have h : ∀ n : Byte, code = n ↔ code.toNat = n.toNat := fun n => BitVec.toNat_inj.symm
  simp only [classOf, h]
  split_ifs <;> simp_all <;> omega

theorem shortPolicyOf_eq_none {code fill : Byte} : shortPolicyOf code fill = none ↔ 1 < code.toNat := by
  have h : ∀ n : Byte, code = n ↔ code.toNat = n.toNat := fun n => BitVec.toNat_inj.symm
  simp only [shortPolicyOf, h]
  split_ifs <;> simp_all
  omega

theorem rangesOk_eq_false {p : DefineParams} : rangesOk p = false ↔
    p.base.toNat % 1024 ≠ 0 ∨ 2 ^ 40 < p.base.toNat + p.size.toNat ∨ p.size.toNat = 0 ∨ p.size.toNat % 1024 ≠ 0 ∨
      2 ^ 30 < p.size.toNat ∨ p.farBase.toNat % 1024 ≠ 0 ∨ 2 ^ 32 < p.farBase.toNat + p.size.toNat := by
  simp only [rangesOk, Bool.and_eq_false_iff, decide_eq_false_iff_not]
  omega

theorem settingsOk_eq_false {p : DefineParams} : settingsOk p = false ↔
    p.packetSize.toNat ∉ [32, 64, 128, 256] ∨ p.nakInterval.toNat = 0 ∨ 1023 < p.nakInterval.toNat ∨
      p.strikeLimit.toNat = 0 ∨ 7 < p.strikeLimit.toNat := by
  have size : packetSizeOk p.packetSize.toNat = false ↔ p.packetSize.toNat ∉ [32, 64, 128, 256] := by
    simp [packetSizeOk, and_assoc]
  simp only [settingsOk, Bool.and_eq_false_iff, decide_eq_false_iff_not, size, or_assoc, Nat.not_le, Nat.lt_one_iff]

/-- A frame has the record of a refusal exactly when its rule refuses it. -/
theorem command_refused_iff {s : State} {q b : Byte} {j : State → Judged} {r : Reason} :
    s.command q b j = answered s ⟨q, b, .refused, .refusal r, []⟩ ↔
      j (s.setCmd { s.cmd with receiver := .idle }) = .refuse r := by
  refine ⟨fun h => ?_, s.command_refuse⟩
  have result := congrArg (fun t : State => t.cmd.result) h
  simp only [State.command, State.conclude_result, State.endTransaction_eq] at result
  revert result
  cases j (s.setCmd { s.cmd with receiver := .idle }) <;>
    simp [answered, ResultRecord.refusedFor, ResultRecord.doneWith, ResultRecord.pendingFor]

theorem judgeDefine_badParam {s : State} {b : Byte} {p : DefineParams} :
    judgeDefine b p s = .refuse .badParam ↔ 11 < b.toNat ∨ definitionFrom p = none := by
  by_cases h : 11 < b.toNat
  · simp [judgeDefine, onWindow_ge h, h]
  · have hw := windowOf_lt (show b.toNat < 12 by omega)
    simp only [judgeDefine, onWindow, hw, h, false_or]
    cases definitionFrom p with
    | none => simp
    | some d => dsimp only; split_ifs <;> simp

/-- Settles O11: the rule's parts, one by one. -/
theorem defineBadParam : Obligations.DefineBadParam := by
  refine ⟨fun s q b p ready => ?_, fun p d h hs => ?_⟩
  · have refused : exec (.define q b p) s = .next (answered s ⟨q, 0x10, .refused, .refusal .badParam, []⟩) ↔
        11 < b.toNat ∨ definitionFrom p = none := by
      rw [← judgeDefine_badParam, ← command_refused_iff, ← s.judged ready]
      exact ⟨Host.Outcome.next.inj, congrArg _⟩
    rw [refused, definitionFrom_eq_none, classOf_eq_none, shortPolicyOf_eq_none, rangesOk_eq_false, settingsOk_eq_false]
    exact Iff.of_eq (by ac_rfl)
  · obtain ⟨cls, short, -, hshort, -, -, rfl⟩ := definitionFrom_eq_some.mp h
    simpa [shortPolicyOf, hs, eq_comm] using hshort

/-- A definition meets the range of another window exactly when some address lies in both (R5). -/
theorem overlapsOther_iff {s : State} {w : WinId} {d : Definition} :
    s.overlapsOther w d = true ↔ ∃ (v : WinId) (e : Definition) (a : Nat), v ≠ w ∧ (s.win v).state ≠ .unused ∧
      (s.win v).defn = some e ∧ d.covers a = true ∧ e.covers a = true := by
  simp only [State.overlapsOther, List.any_eq_true, mem_allWindows, true_and, Bool.and_eq_true, bne_iff_ne, and_assoc]
  refine exists_congr fun v => ?_
  cases (s.win v).defn with
  | none => simp
  | some e => simp [overlaps_iff]

theorem not_claiming {x : Window} (hc : x.state.claims = false) : ¬(x.state ≠ .unused ∧ x.state ≠ .defined) := by
  revert hc; cases x.state <;> decide

section
variable {s : State} {w : WinId} {p : DefineParams} {d : Definition} (hd : definitionFrom p = some d)
  (hc : (s.win w).state.claims = false)
include hd hc

theorem judgeDefine_overlap (h : s.overlapsOther w d = true) : judgeDefine (numberOf w) p s = .refuse .overlap := by
  simp only [judgeDefine, onWindow_numberOf, hd]
  rw [if_neg (not_claiming hc), if_pos h]

theorem judgeDefine_taken (h : s.overlapsOther w d = false) :
    judgeDefine (numberOf w) p s =
      .done (if (s.win w).state = .unused then
          (s.modWin w fun x => { x with state := .defined, defn := some d, remaining := d.freshBudget }).attempt
        else s.modWin w fun x => { x with state := .defined, defn := some d, remaining := d.freshBudget }) [] := by
  simp only [judgeDefine, onWindow_numberOf, hd]
  rw [if_neg (not_claiming hc), if_neg (by simp [h])]

end

/-- Settles O12: the checks in their order, and the new definition. -/
theorem defineOutcome : Obligations.DefineOutcome := by
  intro s q w p d ready hd
  have fields := definitionFrom_eq_some.mp hd
  refine ⟨?_, fun hc => refused_of ready ?_, fun hc => ⟨?_, fun apart => ?_⟩⟩
  · obtain ⟨cls, short, hcls, hshort, -, -, rfl⟩ := fields
    refine ⟨rfl, rfl, rfl, rfl, rfl, rfl, rfl, ?_, ?_⟩
    · simp only [classOf] at hcls
      split_ifs at hcls <;> simp_all
    · simp only [shortPolicyOf] at hshort
      split_ifs at hshort <;> simp_all
  · have state : (s.win w).state ≠ .unused ∧ (s.win w).state ≠ .defined := by
      revert hc; cases (s.win w).state <;> decide
    simp [judgeDefine, hd, state]
  · exact fun meets => refused_of ready (judgeDefine_overlap hd hc (overlapsOther_iff.mpr meets))
  · have free : s.overlapsOther w d = false := by
      by_contra h
      obtain ⟨v, e, a, hv, hu, he, hda, hea⟩ := overlapsOther_iff.mp (by simpa using h)
      simp [apart v e a hv hu he hda] at hea
    refine done_of ready (p := []) (t := if (s.win w).state = .unused then
        (s.modWin w fun x => { x with state := .defined, defn := some d, remaining := d.freshBudget }).attempt
      else s.modWin w fun x => { x with state := .defined, defn := some d, remaining := d.freshBudget }) ?_ ?_
    · refine (judgeDefine_taken (s := s.setCmd { s.cmd with receiver := .idle }) hd hc free).trans ?_
      simp only [State.setCmd_win, State.setCmd_modWin, State.setCmd_attempt]
      split <;> rfl
    · dsimp only
      split
      · rw [answered_eq, State.setCmd_attempt]; rfl
      · rfl

end Sys2Proof.Proofs
end

section
/-! SUPPORT. Byte layouts (chapter 11): a payload is a row of sections, and a field is read in its section. -/
namespace Sys2Proof.Proofs
open Sys2Proof.Machine Sys2Proof.Safety

/-! ### Sections -/

/-- The bytes from an offset in a section are those from the sum of the lengths before it and that offset. -/
theorem drop_flatten {L : List (List Byte)} {b : List Byte} {i j n : Nat} (hb : L[i]? = some b) (h : j + n ≤ b.length) :
    (L.flatten.drop (((L.map List.length).take i).sum + j)).take n = (b.drop j).take n := by
  induction L generalizing i with
  | nil => simp at hb
  | cons a L ih =>
    cases i with
    | zero =>
      obtain rfl : a = b := by simpa using hb
      simp only [List.take_zero, List.sum_nil, Nat.zero_add, List.flatten_cons]
      rw [List.drop_append_of_le_length (by omega), List.take_append_of_le_length (by simp; omega)]
    | succ i =>
      have hb : L[i]? = some b := by simpa using hb
      have e : ((List.map List.length (a :: L)).take (i + 1)).sum + j =
          a.length + (((L.map List.length).take i).sum + j) := by simp [Nat.add_assoc]
      rw [e, List.flatten_cons, List.drop_append, List.drop_of_length_le (by omega), List.nil_append,
        Nat.add_sub_cancel_left, ih hb]

section
variable {p : List Byte} {L : List (List Byte)} {lens : List Nat} (hp : p = L.flatten) (hl : L.map List.length = lens)
  {i k j n : Nat} {b : List Byte}
include hp hl

/-- The bytes of a section of a payload, by the offset at which the section begins. -/
theorem bytes_of_section (hb : L[i]? = some b) (hk : (lens.take i).sum = k) (h : j + n ≤ b.length) :
    (p.drop (k + j)).take n = (b.drop j).take n := by
  subst hp hl hk
  exact drop_flatten hb h

/-- A field of a payload is the field of its section. -/
theorem field_of_section (hb : L[i]? = some b) (hk : (lens.take i).sum = k) (h : j + n ≤ b.length) :
    fieldAt p (k + j) n = fieldAt b j n := by
  unfold fieldAt
  rw [bytes_of_section hp hl hb hk h]

theorem length_of_sections : p.length = lens.sum := by rw [hp, List.length_flatten, hl]

end

/-! ### Fields of a section -/

@[simp] theorem fieldAt_byte (b : Byte) (bs : List Byte) : fieldAt (b :: bs) 0 1 = b.toNat := by simp [fieldAt]

@[simp] theorem fieldAt_cons (b : Byte) (bs : List Byte) (k n : Nat) : fieldAt (b :: bs) (k + 1) n = fieldAt bs k n := rfl

/-- A field of n bytes carries its value modulo 256 to the n. -/
theorem fieldAt_beBytes (n v : Nat) : fieldAt (beBytes n v) 0 n = v % 256 ^ n := by
  have fold : ∀ n a, (beBytes n v).foldl (fun acc b => acc * 256 + b.toNat) a = a * 256 ^ n + v % 256 ^ n := by
    intro n
    induction n with
    | zero => intro a; simp [beBytes, Nat.mod_one]
    | succ n ih =>
      intro a
      simp only [beBytes, List.foldl_cons, ih, BitVec.toNat_ofNat]
      have h : v % 256 ^ (n + 1) = v / 256 ^ n % 256 * 256 ^ n + v % 256 ^ n := by
        rw [Nat.pow_succ, Nat.mod_mul, Nat.add_comm, Nat.mul_comm]
      rw [h, Nat.pow_succ]
      ring
  rw [fieldAt, List.drop_zero, List.take_of_length_le (by simp [Laws.beBytes_length]), fold]
  simp

/-- The record of the i-th entry of a table of records of the same length. -/
theorem fieldAt_flatMap {α : Type} {l : List α} {f : α → List Byte} {m i j n : Nat} {x : α} (hf : ∀ x, (f x).length = m)
    (hx : l[i]? = some x) (h : j + n ≤ m) : fieldAt (l.flatMap f) (m * i + j) n = fieldAt (f x) j n := by
  refine field_of_section (L := l.map f) (lens := List.replicate l.length m) (i := i) (by rw [List.flatMap_def]) ?_
    (by simp [hx]) ?_ (by rw [hf]; exact h)
  · simp [Function.comp_def, hf]
  · obtain ⟨hi, -⟩ := List.getElem?_eq_some_iff.mp hx
    simp [List.take_replicate, Nat.min_eq_left (Nat.le_of_lt hi), Nat.mul_comm]

theorem allWindows_getElem? (w : WinId) : allWindows[w.val]? = some w := by revert w; decide

theorem allTags_getElem? (g : Tag) : allTags[g.val]? = some g := by revert g; decide

end Sys2Proof.Proofs
end

section
/-! SUPPORT. The payloads of the reading commands, section by section (section 11.3): obligations O8 and O9. -/
namespace Sys2Proof.Proofs
open Sys2Proof.Machine Sys2Proof.Safety

/-! ### GET-STATUS -/

/-- Offsets 5 to 52: four bytes of each window. -/
def statusWindow (s : State) (w : WinId) : List Byte :=
  [(s.win w).state.code, BitVec.ofNat 8 (s.win w).pages] ++ beBytes 2 (s.reserved w)

/-- Offsets 64 to 95: two bytes of each tag. -/
def statusTag (s : State) (g : Tag) : List Byte := [(s.tagEntry g).dest.code, BitVec.ofNat 8 (s.tagEntry g).count]

/-- The sections of GET-STATUS's payload. -/
def statusSections (s : State) : List (List Byte) :=
  [s.cmd.long.payload, allWindows.flatMap (statusWindow s), [BitVec.ofNat 8 s.unassignedPages, BitVec.ofNat 8 s.freeSlots],
    s.presentedPayload, [BitVec.ofNat 8 s.acc.downstream], beBytes 2 s.acc.waitLimit, allTags.flatMap (statusTag s),
    [s.arb.mode.code], beBytes 2 s.arb.cycleLength, [BitVec.ofNat 8 s.arb.keepAliveInterval],
    beBytes 2 s.arb.cycleCount.toNat, allWindows.flatMap fun w => beBytes 2 ((s.win w).remaining.getD 0xFFFF),
    s.link.payload, [BitVec.ofNat 8 s.eng.responseLimit, boolByte s.ev.attn]]

theorem statusPayload_eq (s : State) : s.statusPayload = (statusSections s).flatten := by
  simp only [State.statusPayload, statusSections, List.flatten_cons, List.flatten_nil, List.append_assoc, List.append_nil]
  rfl

theorem presentedPayload_length (s : State) : s.presentedPayload.length = 6 := by
  unfold State.presentedPayload
  cases s.acc.presented <;> simp [Laws.beBytes_length]

theorem linkPayload_length (l : Link) : l.payload.length = 13 := by
  unfold Link.payload
  split <;> simp [Laws.beBytes_length]

theorem statusWindow_length (s : State) (w : WinId) : (statusWindow s w).length = 4 := by
  simp [statusWindow, Laws.beBytes_length]

theorem statusTag_length (s : State) (g : Tag) : (statusTag s g).length = 2 := rfl

theorem length_flatMap_of {α : Type} {l : List α} {f : α → List Byte} {m : Nat} (hf : ∀ x, (f x).length = m) :
    (l.flatMap f).length = l.length * m := by simp [List.length_flatMap, hf]

/-- The lengths of the sections. -/
def statusLengths : List Nat := [5, 48, 2, 6, 1, 2, 32, 1, 2, 1, 2, 24, 13, 2]

theorem statusSections_lengths (s : State) : (statusSections s).map List.length = statusLengths := by
  simp [statusSections, statusLengths, statusWindow_length, statusTag_length, presentedPayload_length, linkPayload_length,
    Laws.beBytes_length, LongRecord.payload, allWindows, allTags]

section
variable (s : State) {i k j n : Nat} {b : List Byte}

/-- A field of GET-STATUS is a field of the section that begins at offset k. -/
theorem status_field (hb : (statusSections s)[i]? = some b) (hk : (statusLengths.take i).sum = k) (h : j + n ≤ b.length) :
    fieldAt s.statusPayload (k + j) n = fieldAt b j n :=
  field_of_section (statusPayload_eq s) (statusSections_lengths s) hb hk h

theorem status_long (h : j + n ≤ 5) : fieldAt s.statusPayload j n = fieldAt s.cmd.long.payload j n := by
  have := status_field s (i := 0) (k := 0) (j := j) (n := n) rfl rfl h
  rwa [Nat.zero_add] at this

theorem status_window (w : WinId) (h : j + n ≤ 4) :
    fieldAt s.statusPayload (5 + (4 * w.val + j)) n = fieldAt (statusWindow s w) j n := by
  refine (status_field s (i := 1) rfl rfl ?_).trans
    (fieldAt_flatMap (statusWindow_length s) (allWindows_getElem? w) h)
  rw [length_flatMap_of (statusWindow_length s)]
  have := w.isLt
  simp only [allWindows, List.length_cons, List.length_nil]; omega

theorem status_presented (h : j + n ≤ 6) : fieldAt s.statusPayload (55 + j) n = fieldAt s.presentedPayload j n :=
  status_field s (i := 3) rfl rfl (by rw [presentedPayload_length]; exact h)

theorem status_tag (g : Tag) (h : j + n ≤ 2) :
    fieldAt s.statusPayload (64 + (2 * g.val + j)) n = fieldAt (statusTag s g) j n := by
  refine (status_field s (i := 6) rfl rfl ?_).trans (fieldAt_flatMap (statusTag_length s) (allTags_getElem? g) h)
  rw [length_flatMap_of (statusTag_length s)]
  have := g.isLt
  simp only [allTags, List.length_cons, List.length_nil]; omega

theorem status_budget (w : WinId) :
    fieldAt s.statusPayload (102 + 2 * w.val) 2 = (s.win w).remaining.getD 0xFFFF % 65536 := by
  refine (status_field s (i := 11) (j := 2 * w.val + 0) rfl rfl ?_).trans
    ((fieldAt_flatMap (fun _ => Laws.beBytes_length 2 _) (allWindows_getElem? w) (by simp)).trans (fieldAt_beBytes 2 _))
  rw [length_flatMap_of fun _ => Laws.beBytes_length 2 _]
  have := w.isLt
  simp only [allWindows, List.length_cons, List.length_nil]; omega

theorem status_link (h : j + n ≤ 13) : fieldAt s.statusPayload (126 + j) n = fieldAt s.link.payload j n :=
  status_field s (i := 12) rfl rfl (by rw [linkPayload_length]; exact h)

end

/-! ### Bytes that carry their value whole -/

theorem winByte_toNat (w : WinId) : (BitVec.ofNat 8 w.val).toNat = w.val := by
  have := w.isLt; simp; omega

theorem tagByte_toNat (g : Tag) : (BitVec.ofNat 8 g.val).toNat = g.val := by
  have := g.isLt; simp; omega

theorem slotByte_toNat (i : SlotId) : (BitVec.ofNat 8 i.val).toNat = i.val := by
  have := i.isLt; simp; omega

theorem boolByte_toNat (b : Bool) : (boolByte b).toNat = if b then 1 else 0 := by cases b <;> rfl

theorem windowByte_toNat (v : Option WinId) : (windowByte v).toNat = (v.map (·.val)).getD 0xFF := by
  cases v with
  | none => rfl
  | some w => exact winByte_toNat w

theorem unassignedPages_lt (s : State) : s.unassignedPages < 256 := by
  simp only [State.unassignedPages, Config.totalPages]; omega

theorem freeSlots_lt (s : State) : s.freeSlots < 256 :=
  lt_of_le_of_lt (List.length_filter_le _ _) (by decide)

/-! ### The link controller's part of GET-STATUS -/

/-- The sections of offsets 126 to 138. -/
def linkSections (l : Link) : List (List Byte) :=
  [[l.state.code, boolByte (!l.signalPresent)], beBytes 4 l.capacity, beBytes 2 l.packetLimit, [BitVec.ofNat 8 l.timeoutRun],
    beBytes 2 l.recoveryLimit,
    if l.state = .probing || l.state = .recovering then beBytes 2 (l.recoveryTimer.getD 0 / 1000) else [0xFF, 0xFF]]

theorem link_field (l : Link) {i k j n : Nat} {b : List Byte} (hb : (linkSections l)[i]? = some b)
    (hk : ([2, 4, 2, 1, 2, 2].take i).sum = k) (h : j + n ≤ b.length) : fieldAt l.payload (k + j) n = fieldAt b j n := by
  refine field_of_section ?_ ?_ hb hk h
  · simp [Link.payload, linkSections]
  · simp only [linkSections, List.map_cons, List.map_nil, Laws.beBytes_length]
    split <;> simp [Laws.beBytes_length]

theorem link_recovery (l : Link) : fieldAt l.payload 11 2 =
    if l.state = .probing ∨ l.state = .recovering then l.recoveryTimer.getD 0 / 1000 % 65536 else 0xFFFF := by
  rw [link_field l (i := 5) (k := 11) (j := 0) rfl rfl (by split <;> simp [Laws.beBytes_length])]
  by_cases h : l.state = .probing ∨ l.state = .recovering
  · simpa [h] using fieldAt_beBytes 2 _
  · simp [h]; rfl

/-! ### READ-WINDOW -/

/-- The sections of a window definition block. -/
def blockSections (d : Definition) : List (List Byte) :=
  [beBytes 5 d.base.toNat, beBytes 4 d.size, beBytes 4 d.farBase.toNat, [d.cls.code], beBytes 2 d.packetSize,
    match d.shortPolicy with
    | .fill b => [0, b]
    | .error => [1, 0],
    beBytes 2 d.nakInterval, beBytes 2 d.nakLimit, [BitVec.ofNat 8 d.strikeLimit], beBytes 2 (d.cls.budget.getD 0)]

theorem block_eq (d : Definition) : d.block = (blockSections d).flatten := by
  unfold Definition.block blockSections
  cases d.shortPolicy <;> simp

theorem blockSections_lengths (d : Definition) :
    (blockSections d).map List.length = [5, 4, 4, 1, 2, 2, 2, 2, 1, 2] := by
  simp only [blockSections, List.map_cons, List.map_nil, Laws.beBytes_length]
  cases d.shortPolicy <;> rfl

theorem windowBlock_length (x : Window) : x.block.length = 25 := by
  unfold Window.block
  cases x.defn with
  | none => rfl
  | some d => exact length_of_sections (block_eq d) (blockSections_lengths d)

theorem exchangeBytes_length (x : Window) (f : Nat) : (x.exchangeBytes f).length = 3 := by
  unfold Window.exchangeBytes; cases x.exchange <;> rfl

/-- The sections of READ-WINDOW's payload. -/
def windowSections (s : State) (w : WinId) : List (List Byte) :=
  [[BitVec.ofNat 8 w.val, (s.win w).state.code], (s.win w).block, [BitVec.ofNat 8 (s.win w).pages],
    beBytes 2 (s.reserved w),
    [BitVec.ofNat 8 (s.win w).queue.length, headByte (s.win w).queue, boolByte (s.win w).seqBit],
    (s.win w).exchangeBytes s.freeUses, [boolByte (s.win w).fault.isSome]]

theorem windowPayload_eq (s : State) (w : WinId) : s.windowPayload w = (windowSections s w).flatten := by
  simp only [State.windowPayload, windowSections, List.flatten_cons, List.flatten_nil, List.append_assoc, List.append_nil]

theorem windowSections_lengths (s : State) (w : WinId) :
    (windowSections s w).map List.length = [2, 25, 1, 2, 3, 3, 1] := by
  simp [windowSections, windowBlock_length, exchangeBytes_length, Laws.beBytes_length]

section
variable (s : State) (w : WinId) {i k j n : Nat} {b : List Byte}

theorem window_field (hb : (windowSections s w)[i]? = some b) (hk : ([2, 25, 1, 2, 3, 3, 1].take i).sum = k)
    (h : j + n ≤ b.length) : fieldAt (s.windowPayload w) (k + j) n = fieldAt b j n :=
  field_of_section (windowPayload_eq s w) (windowSections_lengths s w) hb hk h

/-- A field of the definition block. -/
theorem window_block {d : Definition} (hd : (s.win w).defn = some d) (hb : (blockSections d)[i]? = some b)
    (hk : ([5, 4, 4, 1, 2, 2, 2, 2, 1, 2].take i).sum = k) (hn : k + n ≤ 25) (h : b.length = n) :
    fieldAt (s.windowPayload w) (2 + k) n = fieldAt b 0 n := by
  have block : (s.win w).block = d.block := by simp [Window.block, hd]
  rw [window_field s w (i := 1) (k := 2) rfl rfl (by rw [windowBlock_length]; exact hn), block]
  exact field_of_section (j := 0) (block_eq d) (blockSections_lengths d) hb hk (by omega)

theorem window_exchange (h : j + n ≤ 3) :
    fieldAt (s.windowPayload w) (33 + j) n = fieldAt ((s.win w).exchangeBytes s.freeUses) j n :=
  window_field s w (i := 5) rfl rfl (by rw [exchangeBytes_length]; exact h)

end

end Sys2Proof.Proofs
end

section
/-! SUPPORT. Obligations O8 and O9: the reading commands and their payloads. -/
namespace Sys2Proof.Proofs
open Sys2Proof.Machine Sys2Proof.Safety

/-! ### The codes -/

theorem status_codes :
    [WindowState.unused, .defined, .syncing, .opened, .held, .fenced, .closing, .halted].map (·.code.toNat) =
        [0, 1, 2, 3, 4, 5, 6, 7] ∧
      [FaultCause.refused, .strikes, .nakLimit, .oversize, .syncFailed, .moduleReset, .farRange, .linkLost,
        .aborted].map (·.code.toNat) = [1, 2, 3, 4, 5, 6, 7, 8, 9] ∧
      (∀ c : FaultCause, (LongDetail.cause c).code = c.code) ∧
      [LongDetail.none, .noReply, .abort, .resetWindows, .resetLink, .resetAll].map (·.code.toNat) =
        [0, 0x10, 0x11, 0x12, 0x13, 0x14] ∧
      [LongState.none, .running, .done, .failed, .aborted].map (·.code.toNat) = [0, 1, 2, 3, 4] ∧
      [WaitReason.none, .tag, .slot, .staging, .downstream].map (·.code.toNat) = [0, 1, 2, 3, 4] ∧
      [LinkState.detached, .probing, .active, .recovering].map (·.code.toNat) = [0, 1, 2, 3] ∧
      [LinkMode.cycled, .free].map (·.code.toNat) = [0, 1] ∧
      [none, some StrikeKind.timeout, some .check, some .sequence].map (fun k => (strikeByte k).toNat) = [0, 1, 2, 3] ∧
      [TransferKind.postedWrite, .strictWrite, .read].map (·.code.toNat) = [1, 2, 3] :=
  ⟨rfl, rfl, fun _ => rfl, rfl, rfl, rfl, rfl, rfl, rfl, rfl⟩

/-! ### The presented request in GET-STATUS -/

theorem status_presented_none {s : State} (h : s.acc.presented = none) :
    (s.statusPayload.drop 55).take 6 = List.replicate 6 0 := by
  have bytes := bytes_of_section (statusPayload_eq s) (statusSections_lengths s) (i := 3) (k := 55) (j := 0) (n := 6)
    (b := s.presentedPayload) rfl rfl (by rw [presentedPayload_length])
  simpa [State.presentedPayload, h] using bytes

theorem status_presented_some {s : State} {r : Presented} (h : s.acc.presented = some r) :
    fieldAt s.statusPayload 55 1 = (if r.expired = none then 1 else 3) ∧
      fieldAt s.statusPayload 56 1 = r.req.tag.val ∧ fieldAt s.statusPayload 57 1 = r.reason.code.toNat ∧
      fieldAt s.statusPayload 59 2 = min 65535 r.waited ∧
      fieldAt s.statusPayload 58 1 = (match s.classify r.req with
        | .far v => v.val
        | .malformed | .straddle | .localMem => 0xFF) := by
  have payload : s.presentedPayload = (if r.expired.isSome then 3 else 1) :: BitVec.ofNat 8 r.req.tag.val ::
      r.reason.code :: windowByte (s.windowOfClass r.req) :: beBytes 2 (min 65535 r.waited) := by
    simp [State.presentedPayload, h]
  refine ⟨(status_presented s (j := 0) (by decide)).trans ?_, (status_presented s (j := 1) (by decide)).trans ?_,
    (status_presented s (j := 2) (by decide)).trans ?_, (status_presented s (j := 4) (by decide)).trans ?_,
    (status_presented s (j := 3) (by decide)).trans ?_⟩ <;> rw [payload]
  · rw [fieldAt_byte]; cases r.expired <;> rfl
  · rw [fieldAt_cons, fieldAt_byte, tagByte_toNat]
  · rw [fieldAt_cons, fieldAt_cons, fieldAt_byte]
  · rw [fieldAt_cons, fieldAt_cons, fieldAt_cons, fieldAt_cons, fieldAt_beBytes]; omega
  · rw [fieldAt_cons, fieldAt_cons, fieldAt_cons, fieldAt_byte, windowByte_toNat, State.windowOfClass]
    cases s.classify r.req <;> rfl

/-! ### READ-FAULT -/

/-- The thirteen bytes of a failing transfer. -/
def faultTransferBytes (t : FaultTransfer) : List Byte :=
  [t.kind.code, BitVec.ofNat 8 t.tag.val] ++ beBytes 5 t.upAddr.toNat ++ beBytes 4 t.farAddr.toNat ++ beBytes 2 t.bytesDone

theorem faultPayload_some (r : FaultRecord) :
    faultPayload (some r) = [[1, r.cause.code, strikeByte r.strike],
      match r.transfer with
      | some t => faultTransferBytes t
      | none => [0, 0xFF, 0, 0, 0, 0, 0, 0, 0, 0, 0, 0, 0],
      [BitVec.ofNat 8 r.discarded]].flatten := by
  obtain ⟨cause, strike, transfer, discarded⟩ := r
  cases transfer <;> simp [faultPayload, faultTransferBytes, List.replicate]

theorem faultPayload_length (r : Option FaultRecord) : (faultPayload r).length = 17 := by
  cases r with
  | none => rfl
  | some r =>
    rw [faultPayload_some]
    cases r.transfer <;> simp [faultTransferBytes, Laws.beBytes_length]

section
variable (r : FaultRecord)

theorem fault_ends : fieldAt (faultPayload (some r)) 0 1 = 1 ∧ fieldAt (faultPayload (some r)) 1 1 = r.cause.code.toNat ∧
    fieldAt (faultPayload (some r)) 2 1 = (strikeByte r.strike).toNat ∧
    fieldAt (faultPayload (some r)) 16 1 = r.discarded % 256 := by
  have discarded := field_of_section (faultPayload_some r) (lens := [3, 13, 1])
    (by cases r.transfer <;> simp [faultTransferBytes, Laws.beBytes_length]) (i := 2) (k := 16) (j := 0) (n := 1)
    (b := [BitVec.ofNat 8 r.discarded]) rfl rfl (by simp)
  refine ⟨rfl, ?_, ?_, discarded.trans (by simp)⟩ <;>
  · rw [faultPayload_some]; simp [List.flatten]

theorem fault_without (h : r.transfer = none) :
    ((faultPayload (some r)).drop 3).take 13 = [0, 0xFF, 0, 0, 0, 0, 0, 0, 0, 0, 0, 0, 0] := by
  simp [faultPayload_some, h]

theorem fault_with {t : FaultTransfer} (h : r.transfer = some t) :
    fieldAt (faultPayload (some r)) 3 1 = t.kind.code.toNat ∧ fieldAt (faultPayload (some r)) 4 1 = t.tag.val ∧
      fieldAt (faultPayload (some r)) 5 5 = t.upAddr.toNat ∧ fieldAt (faultPayload (some r)) 10 4 = t.farAddr.toNat ∧
      fieldAt (faultPayload (some r)) 14 2 = t.bytesDone % 65536 := by
  have field : ∀ {i k n : Nat} {b : List Byte},
      [[1, r.cause.code, strikeByte r.strike], [t.kind.code], [BitVec.ofNat 8 t.tag.val], beBytes 5 t.upAddr.toNat,
        beBytes 4 t.farAddr.toNat, beBytes 2 t.bytesDone, [BitVec.ofNat 8 r.discarded]][i]? = some b →
      ([3, 1, 1, 5, 4, 2, 1].take i).sum = k → n ≤ b.length → fieldAt (faultPayload (some r)) k n = fieldAt b 0 n :=
    fun hb hk hn => field_of_section (j := 0) (by simp [faultPayload_some, h, faultTransferBytes])
      (by simp [Laws.beBytes_length]) hb hk (by omega)
  refine ⟨(field (i := 1) rfl rfl (by simp)).trans (by simp), (field (i := 2) rfl rfl (by simp)).trans ?_,
    (field (i := 3) rfl rfl (by simp [Laws.beBytes_length])).trans ?_,
    (field (i := 4) rfl rfl (by simp [Laws.beBytes_length])).trans ?_,
    (field (i := 5) rfl rfl (by simp [Laws.beBytes_length])).trans ?_⟩
  · rw [fieldAt_byte, tagByte_toNat]
  · rw [fieldAt_beBytes]; exact Nat.mod_eq_of_lt t.upAddr.isLt
  · rw [fieldAt_beBytes]; exact Nat.mod_eq_of_lt t.farAddr.isLt
  · exact fieldAt_beBytes 2 _

end

/-! ### READ-EVENTS and READ-COUNTERS -/

/-- The sections of READ-EVENTS' payload. -/
def eventsSections (s : State) : List (List Byte) :=
  [allWindows.flatMap fun w => [(s.win w).pending.setWidth 8], beBytes 2 s.ev.devicePending.toNat,
    [s.ev.windowMask.setWidth 8], beBytes 2 s.ev.deviceMask.toNat]

theorem events_field (s : State) {i k j n : Nat} {b : List Byte} (hb : (eventsSections s)[i]? = some b)
    (hk : ([12, 2, 1, 2].take i).sum = k) (h : j + n ≤ b.length) : fieldAt s.eventsPayload (k + j) n = fieldAt b j n :=
  field_of_section (by simp [State.eventsPayload, eventsSections, List.map_eq_flatMap])
    (by simp [eventsSections, Laws.beBytes_length, allWindows]) hb hk h

theorem kinds_toNat {m n : Nat} (k : BitVec m) (h : m ≤ n) : (k.setWidth n).toNat = k.toNat :=
  BitVec.toNat_setWidth_of_le h

theorem events_fields (s : State) (w : WinId) :
    fieldAt s.eventsPayload w.val 1 = (s.win w).pending.toNat ∧
      fieldAt s.eventsPayload 12 2 = s.ev.devicePending.toNat ∧
      fieldAt s.eventsPayload 14 1 = s.ev.windowMask.toNat ∧ fieldAt s.eventsPayload 15 2 = s.ev.deviceMask.toNat := by
  have wide : ∀ k : DeviceKinds, fieldAt (beBytes 2 k.toNat) 0 2 = k.toNat := fun k => by
    rw [fieldAt_beBytes]; exact Nat.mod_eq_of_lt (by have := k.isLt; omega)
  refine ⟨?_, (events_field s (i := 1) (j := 0) rfl rfl (by simp [Laws.beBytes_length])).trans (wide _),
    (events_field s (i := 2) (j := 0) rfl rfl (by simp)).trans ?_,
    (events_field s (i := 3) (j := 0) rfl rfl (by simp [Laws.beBytes_length])).trans (wide _)⟩
  · have first := events_field s (i := 0) (k := 0) (j := 1 * w.val + 0) (n := 1) rfl rfl (by
      have := w.isLt
      simp only [allWindows, List.flatMap_cons, List.flatMap_nil, List.length_append, List.length_cons, List.length_nil]
      omega)
    rw [fieldAt_flatMap (m := 1) (fun _ => rfl) (allWindows_getElem? w) (by decide), fieldAt_byte,
      kinds_toNat _ (by decide)] at first
    simpa using first
  · rw [fieldAt_byte, kinds_toNat _ (by decide)]

/-- Counters laid end to end, four bytes each. -/
theorem counters_fields (cs : List Counter) :
    (List.range cs.length).map (fun i => fieldAt (cs.flatMap fun v => beBytes 4 v.toNat) (4 * i) 4) = cs.map (·.toNat) := by
  refine List.ext_getElem (by simp) fun i hi _ => ?_
  have hi : i < cs.length := by simpa using hi
  have field := fieldAt_flatMap (j := 0) (n := 4) (fun v : Counter => Laws.beBytes_length 4 v.toNat)
    (List.getElem?_eq_getElem hi) (by decide)
  simp only [List.getElem_map, List.getElem_range]
  rw [Nat.add_zero, fieldAt_beBytes] at field
  rw [field]
  exact Nat.mod_eq_of_lt cs[i].isLt

/-! ### The obligations -/

theorem status_fields (s : State) (w : WinId) (g : Tag) :
    let p := s.statusPayload
    let l := s.cmd.long
    (fieldAt p 0 1 = (match l.code with
        | some .openWindow => 0x13
        | some .attach => 0x30
        | some .flush => 0x19
        | none => 0) ∧
      fieldAt p 1 1 = l.seq.toNat ∧ fieldAt p 2 1 = (l.window.map (·.val)).getD 0xFF ∧
      fieldAt p 3 1 = l.state.code.toNat ∧ fieldAt p 4 1 = l.detail.code.toNat) ∧
    (fieldAt p (5 + 4 * w.val) 1 = (s.win w).state.code.toNat ∧ fieldAt p (6 + 4 * w.val) 1 = (s.win w).pages % 256 ∧
      fieldAt p (7 + 4 * w.val) 2 = s.reserved w % 65536) ∧
    (fieldAt p 53 1 = s.unassignedPages ∧ fieldAt p 54 1 = s.freeSlots) ∧
    (fieldAt p 61 1 = s.acc.downstream % 256 ∧ fieldAt p 62 2 = s.acc.waitLimit % 65536) ∧
    (fieldAt p (64 + 2 * g.val) 1 = (match (s.tagEntry g).dest with
        | .window v => v.val
        | .localMem => 0x0C
        | .none => 0xFF) ∧
      fieldAt p (65 + 2 * g.val) 1 = (s.tagEntry g).count % 256) ∧
    (fieldAt p 96 1 = s.arb.mode.code.toNat ∧ fieldAt p 97 2 = s.arb.cycleLength % 65536 ∧
      fieldAt p 99 1 = s.arb.keepAliveInterval % 256 ∧ fieldAt p 100 2 = s.arb.cycleCount.toNat) := by
  refine ⟨⟨?_, ?_, ?_, ?_, ?_⟩, ⟨?_, ?_, ?_⟩, ⟨?_, ?_⟩, ⟨?_, ?_⟩, ⟨?_, ?_⟩, ?_, ?_, ?_, ?_⟩
  · rw [status_long s (by decide), LongRecord.payload, fieldAt_byte]
    cases s.cmd.long.code with
    | none => rfl
    | some c => cases c <;> rfl
  · rw [status_long s (by decide)]; simp [LongRecord.payload]
  · rw [status_long s (by decide)]; simp [LongRecord.payload, windowByte_toNat]
  · rw [status_long s (by decide)]; simp [LongRecord.payload]
  · rw [status_long s (by decide)]; simp [LongRecord.payload]
  · rw [show 5 + 4 * w.val = 5 + (4 * w.val + 0) by omega, status_window s w (by decide)]; simp [statusWindow]
  · rw [show 6 + 4 * w.val = 5 + (4 * w.val + 1) by omega, status_window s w (by decide)]; simp [statusWindow]
  · rw [show 7 + 4 * w.val = 5 + (4 * w.val + 2) by omega, status_window s w (by decide)]
    exact fieldAt_beBytes 2 _
  · refine (status_field s (i := 2) (k := 53) (j := 0) rfl rfl (by simp)).trans ?_
    simpa using Nat.mod_eq_of_lt (unassignedPages_lt s)
  · refine (status_field s (i := 2) (k := 53) (j := 1) rfl rfl (by simp)).trans ?_
    simpa using Nat.mod_eq_of_lt (freeSlots_lt s)
  · exact (status_field s (i := 4) (k := 61) (j := 0) rfl rfl (by simp)).trans (by simp)
  · exact (status_field s (i := 5) (k := 62) (j := 0) rfl rfl (by simp [Laws.beBytes_length])).trans (fieldAt_beBytes 2 _)
  · rw [show 64 + 2 * g.val = 64 + (2 * g.val + 0) by omega, status_tag s g (by decide), statusTag, fieldAt_byte]
    cases (s.tagEntry g).dest with
    | window v => exact winByte_toNat v
    | localMem => rfl
    | none => rfl
  · rw [show 65 + 2 * g.val = 64 + (2 * g.val + 1) by omega, status_tag s g (by decide)]; simp [statusTag]
  · exact (status_field s (i := 7) (k := 96) (j := 0) rfl rfl (by simp)).trans (by simp)
  · exact (status_field s (i := 8) (k := 97) (j := 0) rfl rfl (by simp [Laws.beBytes_length])).trans (fieldAt_beBytes 2 _)
  · exact (status_field s (i := 9) (k := 99) (j := 0) rfl rfl (by simp)).trans (by simp)
  · refine (status_field s (i := 10) (k := 100) (j := 0) rfl rfl (by simp [Laws.beBytes_length])).trans ?_
    rw [fieldAt_beBytes]; exact Nat.mod_eq_of_lt s.arb.cycleCount.isLt

theorem status_link_fields (s : State) :
    let p := s.statusPayload
    fieldAt p 126 1 = s.link.state.code.toNat ∧ fieldAt p 127 1 = (if s.link.signalPresent then 0 else 1) ∧
      fieldAt p 128 4 = s.link.capacity % 2 ^ 32 ∧ fieldAt p 132 2 = s.link.packetLimit % 65536 ∧
      fieldAt p 134 1 = s.link.timeoutRun % 256 ∧ fieldAt p 135 2 = s.link.recoveryLimit % 65536 ∧
      fieldAt p 137 2 = (if s.link.state = .probing ∨ s.link.state = .recovering
                         then s.link.recoveryTimer.getD 0 / 1000 % 65536 else 0xFFFF) ∧
      fieldAt p 139 1 = s.eng.responseLimit % 256 ∧ fieldAt p 140 1 = (if s.ev.attn then 1 else 0) := by
  refine ⟨(status_link s (j := 0) (by decide)).trans ?_, (status_link s (j := 1) (by decide)).trans ?_,
    (status_link s (j := 2) (by decide)).trans ?_, (status_link s (j := 6) (by decide)).trans ?_,
    (status_link s (j := 8) (by decide)).trans ?_, (status_link s (j := 9) (by decide)).trans ?_,
    (status_link s (j := 11) (by decide)).trans (link_recovery _),
    (status_field s (i := 13) (k := 139) (j := 0) rfl rfl (by simp)).trans (by simp),
    (status_field s (i := 13) (k := 139) (j := 1) rfl rfl (by simp)).trans (by simp [boolByte_toNat])⟩
  · exact (link_field _ (i := 0) (k := 0) (j := 0) rfl rfl (by simp)).trans (by simp)
  · refine (link_field _ (i := 0) (k := 0) (j := 1) rfl rfl (by simp)).trans ?_
    cases s.link.signalPresent <;> rfl
  · exact (link_field _ (i := 1) (k := 2) (j := 0) rfl rfl (by simp [Laws.beBytes_length])).trans (fieldAt_beBytes 4 _)
  · exact (link_field _ (i := 2) (k := 6) (j := 0) rfl rfl (by simp [Laws.beBytes_length])).trans (fieldAt_beBytes 2 _)
  · exact (link_field _ (i := 3) (k := 8) (j := 0) rfl rfl (by simp)).trans (by simp)
  · exact (link_field _ (i := 4) (k := 9) (j := 0) rfl rfl (by simp [Laws.beBytes_length])).trans (fieldAt_beBytes 2 _)

theorem window_defn_none {s : State} {w : WinId} (h : (s.win w).defn = none) :
    ((s.windowPayload w).drop 2).take 25 = List.replicate 25 0 := by
  have bytes := bytes_of_section (windowPayload_eq s w) (windowSections_lengths s w) (i := 1) (k := 2) (j := 0) (n := 25)
    (b := (s.win w).block) rfl rfl (by rw [windowBlock_length])
  simpa [Window.block, h] using bytes

theorem window_defn_some {s : State} {w : WinId} {d : Definition} (h : (s.win w).defn = some d) :
    let q := s.windowPayload w
    fieldAt q 2 5 = d.base.toNat ∧ fieldAt q 7 4 = d.size % 2 ^ 32 ∧ fieldAt q 11 4 = d.farBase.toNat ∧
      fieldAt q 15 1 = (match d.cls with
        | .strict => 0
        | .posted => 1
        | .periodic _ => 2) ∧
      fieldAt q 16 2 = d.packetSize % 65536 ∧
      fieldAt q 18 2 = (match d.shortPolicy with
        | .fill b => b.toNat
        | .error => 256) ∧
      fieldAt q 20 2 = d.nakInterval % 65536 ∧ fieldAt q 22 2 = d.nakLimit % 65536 ∧
      fieldAt q 24 1 = d.strikeLimit % 256 ∧
      fieldAt q 25 2 = (match d.cls with
        | .periodic b => b % 65536
        | .strict | .posted => 0) := by
  have len := Laws.beBytes_length
  refine ⟨(window_block s w h (i := 0) (k := 0) rfl rfl (by decide) (len 5 _)).trans ?_,
    (window_block s w h (i := 1) (k := 5) rfl rfl (by decide) (len 4 _)).trans (fieldAt_beBytes 4 _),
    (window_block s w h (i := 2) (k := 9) rfl rfl (by decide) (len 4 _)).trans ?_,
    (window_block s w h (i := 3) (k := 13) (n := 1) rfl rfl (by decide) rfl).trans ?_,
    (window_block s w h (i := 4) (k := 14) rfl rfl (by decide) (len 2 _)).trans (fieldAt_beBytes 2 _),
    (window_block s w h (i := 5) (k := 16) rfl rfl (by decide) (by cases d.shortPolicy <;> rfl)).trans ?_,
    (window_block s w h (i := 6) (k := 18) rfl rfl (by decide) (len 2 _)).trans (fieldAt_beBytes 2 _),
    (window_block s w h (i := 7) (k := 20) rfl rfl (by decide) (len 2 _)).trans (fieldAt_beBytes 2 _),
    (window_block s w h (i := 8) (k := 22) (n := 1) rfl rfl (by decide) rfl).trans (by simp),
    (window_block s w h (i := 9) (k := 23) rfl rfl (by decide) (len 2 _)).trans ?_⟩
  · rw [fieldAt_beBytes]; exact Nat.mod_eq_of_lt d.base.isLt
  · rw [fieldAt_beBytes]; exact Nat.mod_eq_of_lt d.farBase.isLt
  · rw [fieldAt_byte]; cases d.cls <;> rfl
  · cases d.shortPolicy with
    | fill b => simp [fieldAt]
    | error => rfl
  · rw [fieldAt_beBytes]; cases d.cls <;> rfl

theorem window_fields (s : State) (w : WinId) :
    let x := s.win w
    let q := s.windowPayload w
    (fieldAt q 0 1 = w.val ∧ fieldAt q 1 1 = x.state.code.toNat) ∧
    (fieldAt q 27 1 = x.pages % 256 ∧ fieldAt q 28 2 = s.reserved w % 65536 ∧
      fieldAt q 30 1 = x.queue.length % 256 ∧ fieldAt q 31 1 = (x.queue.head?.map (·.val)).getD 0xFF ∧
      fieldAt q 32 1 = (if x.seqBit then 1 else 0)) ∧
    (x.exchange = none → fieldAt q 33 1 = 0) ∧
    (∀ e, x.exchange = some e →
      fieldAt q 33 1 = (match e.body with
        | .write .. => 1
        | .read .. => 2
        | .sync => 3) ∧
      fieldAt q 34 1 = (match e.state with
        | .ready => 0
        | .sending => 1
        | .awaiting .. => 2
        | .backoff _ => 3) ∧
      fieldAt q 35 1 = e.strikes % 256) ∧
    fieldAt q 36 1 = (if x.fault = none then 0 else 1) := by
  refine ⟨⟨(window_field s w (i := 0) (k := 0) (j := 0) rfl rfl (by simp)).trans ?_,
      (window_field s w (i := 0) (k := 0) (j := 1) rfl rfl (by simp)).trans (by simp)⟩,
    ⟨(window_field s w (i := 2) (k := 27) (j := 0) rfl rfl (by simp)).trans (by simp),
      (window_field s w (i := 3) (k := 28) (j := 0) rfl rfl (by simp [Laws.beBytes_length])).trans (fieldAt_beBytes 2 _),
      (window_field s w (i := 4) (k := 30) (j := 0) rfl rfl (by simp)).trans (by simp),
      (window_field s w (i := 4) (k := 30) (j := 1) rfl rfl (by simp)).trans ?_,
      (window_field s w (i := 4) (k := 30) (j := 2) rfl rfl (by simp)).trans ?_⟩,
    fun h => (window_exchange s w (j := 0) (by decide)).trans ?_,
    fun e h => ⟨(window_exchange s w (j := 0) (by decide)).trans ?_, (window_exchange s w (j := 1) (by decide)).trans ?_,
      (window_exchange s w (j := 2) (by decide)).trans ?_⟩,
    (window_field s w (i := 6) (k := 36) (j := 0) rfl rfl (by simp)).trans ?_⟩
  · rw [fieldAt_byte, winByte_toNat]
  · rw [fieldAt_cons, fieldAt_byte]
    cases (s.win w).queue with
    | nil => rfl
    | cons i q => exact slotByte_toNat i
  · rw [fieldAt_cons, fieldAt_cons, fieldAt_byte, boolByte_toNat]
  · simp [Window.exchangeBytes, h]
  · simp only [Window.exchangeBytes, h, fieldAt_byte]; cases e.body <;> rfl
  · simp only [Window.exchangeBytes, h, fieldAt_cons, fieldAt_byte]; cases e.state <;> rfl
  · simp [Window.exchangeBytes, h]
  · rw [fieldAt_byte, boolByte_toNat]; cases (s.win w).fault <;> simp

/-- Settles O9: each payload, section by section. -/
theorem payloadLayouts : Obligations.PayloadLayouts := by
  intro s w g
  obtain ⟨⟨l0, l1, l2, l3, l4⟩, ⟨w0, w1, w2⟩, ⟨m0, m1⟩, ⟨a0, a1⟩, ⟨t0, t1⟩, b0, b1, b2, b3⟩ := status_fields s w g
  obtain ⟨v0, ⟨v1, v2, v3, v4, v5⟩, x0, x1, v6⟩ := window_fields s w
  obtain ⟨e0, e1, e2, e3⟩ := events_fields s w
  refine ⟨status_codes, ⟨l0, l1, l2, l3, l4, w0, w1, w2, m0, m1, status_presented_none, fun _ => status_presented_some,
    a0, a1, t0, t1, b0, b1, b2, b3, status_budget s w, status_link_fields s⟩,
    ⟨v0.1, v0.2, window_defn_none, fun _ => window_defn_some, v1, v2, v3, v4, v5, x0, x1, v6⟩,
    ⟨rfl, fun r => ?_⟩, e0, e1, e2, e3, ?_, ?_⟩
  · obtain ⟨f0, f1, f2, f3⟩ := fault_ends r
    exact ⟨f0, f1, f2, f3, fault_without r, fun _ => fault_with r⟩
  · exact counters_fields [_, _, _, _, _, _, _, _, _]
  · exact counters_fields [_, _, _, _, _, _, _]

end Sys2Proof.Proofs
end

section
/-! SUPPORT. The reading commands, the resets and the window match: obligations O4, O8, O26 and O50. -/
namespace Sys2Proof.Proofs
open Sys2Proof.Machine Sys2Proof.Safety

/-! ### The reading commands (O8) -/

/-- The byte at an offset of a section. -/
theorem byte_of_section {p : List Byte} {L : List (List Byte)} {lens : List Nat} (hp : p = L.flatten)
    (hl : L.map List.length = lens) {i k j : Nat} {b : List Byte} (hb : L[i]? = some b) (hk : (lens.take i).sum = k)
    (h : j < b.length) : p[k + j]? = b[j]? := by
  have bytes := congrArg List.head? (bytes_of_section hp hl hb hk (j := j) (n := 1) h)
  simpa [List.head?_take, List.head?_drop] using bytes

theorem status_window_state (s : State) (w : WinId) : s.statusPayload[5 + 4 * w.val]? = some (s.win w).state.code := by
  have inner : (allWindows.flatMap (statusWindow s))[4 * w.val + 0]? = (statusWindow s w)[0]? := by
    refine byte_of_section (L := allWindows.map (statusWindow s)) (lens := List.replicate 12 4) (i := w.val)
      List.flatMap_def ?_ (by simp [allWindows_getElem? w]) ?_ (by rw [statusWindow_length]; decide)
    · simp [statusWindow_length, allWindows]
    · have := w.isLt
      rw [List.take_replicate, List.sum_replicate, smul_eq_mul]
      omega
  refine (byte_of_section (statusPayload_eq s) (statusSections_lengths s) (i := 1) (k := 5) rfl rfl ?_).trans inner
  rw [length_flatMap_of (statusWindow_length s)]
  have := w.isLt
  simp only [allWindows, List.length_cons, List.length_nil]; omega

theorem windowCounters_length (c : WindowCounters) : c.payload.length = 36 :=
  length_flatMap_of fun v : Counter => Laws.beBytes_length 4 v.toNat

theorem deviceCounters_length (c : DeviceCounters) : c.payload.length = 28 :=
  length_flatMap_of fun v : Counter => Laws.beBytes_length 4 v.toNat

theorem eventsPayload_length (s : State) : s.eventsPayload.length = 17 := by
  simp [State.eventsPayload, Laws.beBytes_length, allWindows]

theorem targetOf_numberOf (w : WinId) : targetOf (numberOf w) = some (.window w) := by revert w; decide

theorem judgeReadWindow_eq (s : State) (w : WinId) : judgeReadWindow (numberOf w) s =
    .done { s with freeUses := if (s.win w).exchange = none then s.freeUses + 1 else s.freeUses } (s.windowPayload w) := by
  rw [judgeReadWindow, onWindow_numberOf]
  cases (s.win w).exchange <;> rfl

/-- Settles O8: each reading command is DONE, and its payload has the length of its table. -/
theorem reportsChangeNothing : Obligations.ReportsChangeNothing := by
  refine ⟨fun s q => ⟨?_, length_of_sections (statusPayload_eq s) (statusSections_lengths s), status_window_state s, ?_⟩,
    fun s q ready => ⟨?_, eventsPayload_length s, ?_, deviceCounters_length _⟩,
    fun s q w ready => ⟨?_, windowCounters_length _, ?_, faultPayload_length _, ?_,
      length_of_sections (windowPayload_eq s w) (windowSections_lengths s w), ?_⟩⟩
  · exact congrArg Host.Outcome.next (s.command_done (t := s) rfl)
  · refine (byte_of_section (statusPayload_eq s) (statusSections_lengths s) (i := 13) (k := 139) (j := 1) rfl rfl
      (by simp)).trans ?_
    cases s.ev.attn <;> rfl
  · exact done_of ready (t := s) rfl rfl
  · exact done_of ready (t := s) rfl rfl
  · refine done_of ready (t := s) (p := (s.win w).counters.payload) ?_ rfl
    simp only [judgeReadCounters, onTarget, targetOf_numberOf]
    rfl
  · exact done_of ready (t := s) (onWindow_numberOf w _) rfl
  · refine done_of ready (t := { s with freeUses := if (s.win w).exchange = none then s.freeUses + 1 else s.freeUses })
      (p := s.windowPayload w) (judgeReadWindow_eq _ w) rfl
  · exact byte_of_section (windowPayload_eq s w) (windowSections_lengths s w) (i := 0) (k := 0) (j := 1) rfl rfl (by simp)

/-! ### The window match (O26) -/

theorem holds_iff (x : Window) (a : Nat) :
    x.holds a = true ↔ x.state ∈ [.syncing, .opened, .held, .fenced, .closing, .halted] ∧
      ∃ d, x.defn = some d ∧ d.base.toNat ≤ a ∧ a < d.base.toNat + d.size := by
  have claims : x.state.claims = true ↔ x.state ∈ [.syncing, .opened, .held, .fenced, .closing, .halted] := by
    cases x.state <;> decide
  unfold Window.holds
  rw [Bool.and_eq_true, claims]
  cases x.defn <;> simp [Definition.covers]

theorem reserves_of_holds {x : Window} {a : Nat} (h : x.holds a = true) : reserves x a = true := by
  unfold Window.holds at h
  unfold reserves
  rw [Bool.and_eq_true] at h ⊢
  refine ⟨?_, h.2⟩
  have := h.1
  cases hs : x.state <;> simp_all [WindowState.claims]

theorem holder_iff {s : State} (h : OverlapLaw s) {a : Nat} {w : WinId} :
    s.holder a = some w ↔ (s.win w).holds a = true := by
  refine ⟨s.holder_some, fun hw => ?_⟩
  cases hh : s.holder a with
  | none => simp [s.holder_none hh w] at hw
  | some v => rw [h a v w (reserves_of_holds (s.holder_some hh)) (reserves_of_holds hw)]

theorem malformedRequest_iff (r : BusRequest) :
    malformedRequest r = true ↔ BusOp.count r.op = 0 ∨ 256 < BusOp.count r.op ∨
      r.addr.toNat / 4096 ≠ (r.addr.toNat + BusOp.count r.op - 1) / 4096 := by
  simp [malformedRequest, or_assoc]

/-- Settles O26: the match by its search, the class by the holders of the first and the last byte. -/
theorem windowMatchAndClass : Obligations.WindowMatchAndClass := by
  intro s
  refine ⟨fun a => ⟨fun h w => (holder_iff h).trans (holds_iff _ _), ?_⟩, fun r => ⟨fun h => ?_, fun h => ⟨?_, ?_, ?_⟩⟩⟩
  · have : s.holder a = none ↔ ∀ w, (s.win w).holds a = false :=
      ⟨s.holder_none, fun h => by simp [State.holder, h]⟩
    rw [this]
    exact forall_congr' fun w => by rw [← Bool.not_eq_true]; exact not_congr (holds_iff _ _)
  · simp only [State.classify, (malformedRequest_iff r).mpr h, if_true]
  all_goals
    have well : ¬ malformedRequest r = true := fun hm => h ((malformedRequest_iff r).mp hm)
    unfold State.classify
    rw [if_neg well]
  · intro h1 h2; simp only [h1, h2]
  · intro w h1 h2; simp only [h1, h2, if_true]
  · intro ne
    cases h1 : s.holder r.addr.toNat <;> cases h2 : s.holder (r.addr.toNat + BusOp.count r.op - 1) <;> simp_all

/-! ### The resets (O4, O50) -/

theorem reset_win (w : WinId) : State.reset.win w = Window.reset := by simp [State.win, State.reset]

/-- Settles O50: law by law, at the reset values. -/
theorem lawsHoldAtReset : Obligations.LawsHoldAtReset := by
  have unused : ∀ w, (State.reset.win w).state = .unused := fun w => by rw [reset_win]; rfl
  refine ⟨by decide, by decide, by decide, fun a v w h => ?_, by unfold BoundsLaw; decide, by decide, by decide, by decide,
    by decide, by decide, by decide, by decide, by unfold TransferLaw; decide, by unfold TagLaw; decide,
    by unfold HeadLaw; decide, by decide, by unfold TimerLaw; decide, by decide, State.attempt_of_none _ rfl⟩
  simp [reserves, unused v] at h

/-- Settles O4: the reset values, and the two resets that leave them. -/
theorem resetsLeaveTheResetState : Obligations.ResetsLeaveTheResetState := by
  refine ⟨fun w => reset_win w, fun i => by simp [State.slot, State.reset], by decide, by decide, rfl, rfl, rfl, rfl, rfl,
    rfl, rfl, rfl, rfl, rfl, fun s => rfl, fun s q => ?_⟩
  refine congrArg Host.Outcome.next ?_
  unfold State.command judgeReset State.conclude State.resetAll LongRecord.afterResetAll
  simp only [if_true, State.endTransaction_eq]
  rfl

end Sys2Proof.Proofs
end

section
/-! SUPPORT. Several windows that halt together, as one state (R115, R147, R149), where no slot is in two queues; and what
an attempt leaves of a window out of service. -/
namespace Sys2Proof.Machine
open Sys2Proof.Safety

/-! ### Windows out of service -/

section
variable (s : State)

theorem State.sendExchange_win_of_ne {v w : WinId} (h : w ≠ v) : (s.sendExchange v).win w = s.win w := by
  cases he : (s.win v).exchange with
  | none => rw [s.sendExchange_of_none he]
  | some e => rw [s.sendExchange_win he, if_neg h]

theorem State.eligible_live {v : WinId} (h : s.eligible v = true) : (s.win v).state.live = true := by
  simp only [State.eligible, Bool.and_eq_true] at h
  have := h.1.2
  cases hs : (s.win v).state <;> simp_all [WindowState.mayStart, WindowState.live]

/-- A choice writes nothing of a window out of service (R85). -/
theorem State.choose_win_of_not_live {w : WinId} (h : (s.win w).state.live = false) : s.choose.win w = s.win w := by
  have other : ∀ {v : WinId}, s.eligible v = true → w ≠ v := fun hv e => by simp [e, s.eligible_live hv] at h
  rcases s.choose_cases with ⟨-, e⟩ | ⟨-, ⟨m, -, e⟩ | ⟨-, ⟨v, hv, e⟩ | ⟨-, ⟨v, hv, e⟩ | ⟨-, e⟩⟩⟩⟩ <;> rw [e]
  · rfl
  · have found := List.find?_some hv
    simp only [Bool.and_eq_true] at found
    exact s.sendExchange_win_of_ne (other found.1.2)
  · have found := List.find?_some hv
    simp only [Bool.and_eq_true] at found
    exact s.sendExchange_win_of_ne (other found.2)

/-- An attempt writes nothing of a window out of service (R28). -/
theorem State.attempt_win_of_not_live {w : WinId} (h : (s.win w).state.live = false) : s.attempt.win w = s.win w := by
  rcases s.attempt_cases with ⟨-, e⟩ | ⟨p, -, ⟨k, e⟩ | ⟨r, e⟩ | e | ⟨v, i, hj, e⟩⟩ <;> rw [e]
  · cases k <;> rfl
  · rfl
  · rfl
  · obtain ⟨-, hv, -⟩ := s.judge_take hj
    have ne : w ≠ v := fun e => by
      rw [← e] at hv
      cases hs : (s.win w).state <;> simp_all [WindowState.takes, WindowState.live]
    have e1 : ((s.taken p.req v i).offer v).win w = s.win w := by
      simp [State.offer_win, State.taken_win, ne]
    rw [s.take_eq, State.choose_win_of_not_live _ (by rw [e1]; exact h), e1]

theorem State.attemptSince_win_of_not_live (old : State) {w : WinId} (h : (s.win w).state.live = false) :
    (s.attemptSince old).win w = s.win w := by
  rcases s.attemptSince_cases old with e | e <;> rw [e]
  exact s.attempt_win_of_not_live h

end

theorem State.attnLevel_congr {s t : State} (hw : ∀ w : WinId, (t.win w).pending = (s.win w).pending)
    (hwm : t.ev.windowMask = s.ev.windowMask) (hdp : t.ev.devicePending = s.ev.devicePending)
    (hdm : t.ev.deviceMask = s.ev.deviceMask) : t.attnLevel = s.attnLevel := by
  simp [State.attnLevel, hw, hwm, hdp, hdm]

/-! ### Queues that share no slot -/

/-- No slot is in the queues of two windows (R44). -/
def QueuesApart (s : State) : Prop :=
  ∀ v w : WinId, v ≠ w → ∀ i ∈ (s.win v).queue, i ∉ (s.win w).queue

theorem QueuesApart.of_law {s : State} (h : TransferLaw s) : QueuesApart s := fun _ _ hv _ hi hj =>
  hv (((Proofs.transferLaw_iff s).mp h).unique hi hj)

theorem QueuesApart.congr {s t : State} (h : QueuesApart s) (hq : ∀ w, (t.win w).queue = (s.win w).queue) :
    QueuesApart t := fun v w hv i hi => by rw [hq] at hi ⊢; exact h v w hv i hi

section
variable {s : State} (apart : QueuesApart s) (w : WinId) (c : FaultCause)
include apart

theorem QueuesApart.haltWindow : QueuesApart (s.haltWindow w c none none) := by
  have queue : ∀ v i, i ∈ ((s.haltWindow w c none none).win v).queue → i ∈ (s.win v).queue := fun v i hi => by
    rw [State.haltWindow_win] at hi
    split at hi
    · simp [haltedRecord] at hi
    · exact hi
  exact fun u v huv i hi hj => apart u v huv i (queue u i hi) (queue v i hj)

/-- The halt of one window leaves the transfers of every other queue. -/
theorem QueuesApart.transfersOf_haltWindow {v : WinId} (hv : v ≠ w) :
    (s.haltWindow w c none none).transfersOf ((s.haltWindow w c none none).win v).queue =
      s.transfersOf (s.win v).queue := by
  rw [State.haltWindow_win, if_neg hv, State.transfersOf, State.transfersOf]
  refine List.filterMap_congr fun i hi => ?_
  rw [State.haltWindow_slot, if_neg (apart v w hv i hi)]

end

/-! ### The halts, block by block -/

/-- The windows of a list that have a cause. -/
def failingOf (cause : WinId → Option FaultCause) (l : List WinId) : List WinId := l.filter fun w => (cause w).isSome

/-- The transfers of their queues, in window order and queue order (log 11). -/
def State.failingTransfers (s : State) (cause : WinId → Option FaultCause) (l : List WinId) : List Transfer :=
  (failingOf cause l).flatMap fun w => s.transfersOf (s.win w).queue

/-- The cause with which the long command ends, if it runs for one of them (R13, R63). -/
def State.endedCause (s : State) (cause : WinId → Option FaultCause) (l : List WinId) : Option FaultCause :=
  ((failingOf cause l).find? fun w => s.runsFor w).bind cause

section
variable (cause : WinId → Option FaultCause) {l : List WinId} {w : WinId} {c : FaultCause}

theorem failingOf_cons_some (hc : cause w = some c) : failingOf cause (w :: l) = w :: failingOf cause l := by
  simp [failingOf, hc]

theorem failingOf_cons_none (hc : cause w = none) : failingOf cause (w :: l) = failingOf cause l := by
  simp [failingOf, hc]

theorem State.failingTransfers_cons_some (s : State) (apart : QueuesApart s) (hw : w ∉ l) (hc : cause w = some c) :
    s.failingTransfers cause (w :: l) =
      s.transfersOf (s.win w).queue ++ (s.haltWindow w c none none).failingTransfers cause l := by
  rw [State.failingTransfers, failingOf_cons_some cause hc, List.flatMap_cons]
  congr 1
  refine List.flatMap_congr fun v hv => (apart.transfersOf_haltWindow w c ?_).symm
  rintro rfl
  exact hw (List.mem_filter.mp hv).1

/-- The halts write the tags of what they end. -/
theorem State.haltEach_acc {s : State} (apart : QueuesApart s) (hn : l.Nodup) :
    (s.haltEach cause l).acc = { s.acc with tags := tagsAfter s (s.failingTransfers cause l) } := by
  induction l generalizing s with
  | nil => simp [State.failingTransfers, failingOf]
  | cons w l ih =>
    obtain ⟨hw, hn⟩ := List.nodup_cons.mp hn
    cases hc : cause w with
    | none => rw [s.haltEach_cons_none cause hc, ih apart hn, State.failingTransfers, State.failingTransfers,
        failingOf_cons_none cause hc]
    | some c =>
      have tags : (s.haltWindow w c none none).acc.tags = tagsAfter s (s.transfersOf (s.win w).queue) := by
        rw [State.haltWindow_acc]
      rw [s.haltEach_cons_some cause hc, ih (apart.haltWindow w c) hn, s.failingTransfers_cons_some cause apart hw hc,
        tagsAfter_tagsAfter tags, State.haltWindow_acc]

/-- The ERROR answers leave window by window, each in queue order (log 11). -/
theorem State.haltEach_out {s : State} (apart : QueuesApart s) (hn : l.Nodup) :
    (s.haltEach cause l).out =
      { s.out with answers := s.out.answers ++ errorAnswers (s.failingTransfers cause l) } := by
  induction l generalizing s with
  | nil => simp [State.failingTransfers, failingOf, errorAnswers]
  | cons w l ih =>
    obtain ⟨hw, hn⟩ := List.nodup_cons.mp hn
    cases hc : cause w with
    | none => rw [s.haltEach_cons_none cause hc, ih apart hn, State.failingTransfers, State.failingTransfers,
        failingOf_cons_none cause hc]
    | some c =>
      rw [s.haltEach_cons_some cause hc, ih (apart.haltWindow w c) hn, s.failingTransfers_cons_some cause apart hw hc,
        State.haltWindow_out, errorAnswers_append]
      simp

theorem State.haltedRecord_congr {s t : State} (hw : t.win w = s.win w)
    (ht : t.transfersOf (t.win w).queue = s.transfersOf (s.win w).queue) :
    haltedRecord t w c none none = haltedRecord s w c none none := by
  unfold haltedRecord
  dsimp only
  rw [ht, hw]

/-- Each halted window has the record that its own halt gives it. -/
theorem State.haltEach_win {s : State} (apart : QueuesApart s) (hn : l.Nodup) {v : WinId} (hv : v ∈ l) :
    (s.haltEach cause l).win v =
      match cause v with
      | some c => haltedRecord s v c none none
      | none => s.win v := by
  cases hcv : cause v with
  | none => exact s.haltEach_win_of_not cause (.inr hcv)
  | some cv =>
    induction l generalizing s with
    | nil => simp at hv
    | cons w l ih =>
      obtain ⟨hw, hn⟩ := List.nodup_cons.mp hn
      rcases List.mem_cons.mp hv with rfl | hv
      · rw [s.haltEach_cons_some cause hcv, State.haltEach_win_of_not _ _ (.inl hw), State.haltWindow_win, if_pos rfl]
      · have ne : v ≠ w := fun e => hw (e ▸ hv)
        cases hc : cause w with
        | none => rw [s.haltEach_cons_none cause hc]; exact ih apart hn hv
        | some c =>
          rw [s.haltEach_cons_some cause hc, ih (apart.haltWindow w c) hn hv]
          exact State.haltedRecord_congr (by rw [State.haltWindow_win, if_neg ne]) (apart.transfersOf_haltWindow w c ne)

/-- The reservations of the slots that become FREE are released. -/
theorem State.haltEach_reservation (s : State) (hn : l.Nodup) (i : SlotId) :
    (s.haltEach cause l).reservation i =
      if ∃ w ∈ l, (cause w).isSome = true ∧ i ∈ (s.win w).queue then [] else s.reservation i := by
  induction l generalizing s with
  | nil => simp
  | cons w l ih =>
    obtain ⟨hw, hn⟩ := List.nodup_cons.mp hn
    cases hc : cause w with
    | none => rw [s.haltEach_cons_none cause hc, ih s hn]; simp [hc]
    | some c =>
      have same : (∃ v ∈ l, (cause v).isSome = true ∧ i ∈ ((s.haltWindow w c none none).win v).queue) ↔
          ∃ v ∈ l, (cause v).isSome = true ∧ i ∈ (s.win v).queue :=
        exists_congr fun v => and_congr_right fun hv => by
          rw [State.haltWindow_win, if_neg (by rintro rfl; exact hw hv)]
      rw [s.haltEach_cons_some cause hc, ih _ hn, State.haltWindow_reservation]
      by_cases h1 : i ∈ (s.win w).queue <;>
        by_cases h2 : ∃ v ∈ l, (cause v).isSome = true ∧ i ∈ (s.win v).queue <;> simp [same, h1, h2, hc]

theorem State.endedCause_of_not_running {s : State} (h : s.cmd.long.state ≠ .running) : s.endedCause cause l = none := by
  rw [State.endedCause, List.find?_eq_none.mpr fun w _ => by simp [State.runsFor, h]]
  rfl

/-- The long command ends with the cause of the window it runs for, if that halts (R63). -/
theorem State.haltEach_cmd (s : State) :
    (s.haltEach cause l).cmd =
      match s.endedCause cause l with
      | some c => { s.cmd with long := { s.cmd.long with state := .failed, detail := .cause c } }
      | none => s.cmd := by
  induction l generalizing s with
  | nil => rfl
  | cons w l ih =>
    cases hc : cause w with
    | none => rw [s.haltEach_cons_none cause hc, ih, State.endedCause, State.endedCause, failingOf_cons_none cause hc]
    | some c =>
      have cmd := s.haltWindow_cmd w c none none
      rw [s.haltEach_cons_some cause hc, ih]
      by_cases hr : s.runsFor w = true
      · rw [if_pos hr] at cmd
        have first : s.endedCause cause (w :: l) = some c := by
          simp [State.endedCause, failingOf_cons_some cause hc, hr, hc]
        rw [first, State.endedCause_of_not_running cause (by rw [cmd]; simp), cmd]
      · rw [if_neg hr] at cmd
        have rest : s.endedCause cause (w :: l) = (s.haltWindow w c none none).endedCause cause l := by
          have same : ∀ v, (s.haltWindow w c none none).runsFor v = s.runsFor v := fun v => State.runsFor_congr cmd v
          simp [State.endedCause, failingOf_cons_some cause hc, hr, same]
        rw [rest, cmd]

/-- COMMAND_DONE is added where the long command ends, and ATTN has its level where a window halts. -/
theorem State.haltEach_ev (s : State) :
    (s.haltEach cause l).ev = { s.ev with
      devicePending := if (s.endedCause cause l).isSome then s.ev.devicePending ||| DeviceKind.commandDone.bit
        else s.ev.devicePending
      attn := if (failingOf cause l).isEmpty then s.ev.attn else (s.haltEach cause l).attnLevel } := by
  induction l generalizing s with
  | nil => simp [State.endedCause, failingOf]
  | cons w l ih =>
    cases hc : cause w with
    | none =>
      rw [s.haltEach_cons_none cause hc, State.endedCause, failingOf_cons_none cause hc]
      exact ih s
    | some c =>
      have cmd := s.haltWindow_cmd w c none none
      have ev := s.haltWindow_ev w c none none
      rw [s.haltEach_cons_some cause hc, failingOf_cons_some cause hc]
      have attn : (if (failingOf cause l).isEmpty then (s.haltWindow w c none none).ev.attn
          else ((s.haltWindow w c none none).haltEach cause l).attnLevel) =
          ((s.haltWindow w c none none).haltEach cause l).attnLevel := by
        cases hf : failingOf cause l with
        | cons _ _ => rfl
        | nil =>
          have none_left : (s.haltWindow w c none none).haltEach cause l = s.haltWindow w c none none := by
            clear ih
            generalize s.haltWindow w c none none = u
            induction l generalizing u with
            | nil => rfl
            | cons v l ih' =>
              cases hv : cause v with
              | none => rw [u.haltEach_cons_none cause hv]; exact ih' (by rwa [failingOf_cons_none cause hv] at hf) u
              | some _ => rw [failingOf_cons_some cause hv] at hf; simp at hf
          rw [none_left, ev]
          rfl
      rw [ih, attn]
      by_cases hr : s.runsFor w = true
      · rw [if_pos hr] at cmd ev
        have first : s.endedCause cause (w :: l) = some c := by
          simp [State.endedCause, failingOf_cons_some cause hc, hr, hc]
        rw [first, State.endedCause_of_not_running cause (by rw [cmd]; simp), ev]
        rfl
      · rw [if_neg hr] at cmd ev
        have rest : s.endedCause cause (w :: l) = (s.haltWindow w c none none).endedCause cause l := by
          have same : ∀ v, (s.haltWindow w c none none).runsFor v = s.runsFor v := fun v => State.runsFor_congr cmd v
          simp [State.endedCause, failingOf_cons_some cause hc, hr, same]
        rw [rest, ev]
        rfl

end

/-! ### The halts as one state -/

section
variable (s : State) (cause : WinId → Option FaultCause)

/-- A slot that some failing queue holds. -/
theorem mem_freed_iff (i : SlotId) :
    ((failingOf cause allWindows).flatMap fun w => (s.win w).queue).contains i = true ↔
      ∃ w ∈ allWindows, (cause w).isSome = true ∧ i ∈ (s.win w).queue := by
  simp [failingOf, and_assoc]

theorem haltedTogether_win (w : WinId) :
    (haltedTogether s cause).win w = match cause w with
      | some c => haltedRecord s w c none none
      | none => s.win w := by
  unfold haltedTogether
  dsimp only
  split <;> simp [State.win, State.setAttn] <;> rfl

theorem haltedTogether_slot (i : SlotId) :
    (haltedTogether s cause).slot i =
      if ∃ w ∈ allWindows, (cause w).isSome = true ∧ i ∈ (s.win w).queue then none else s.slot i := by
  simp only [← mem_freed_iff]
  unfold haltedTogether
  dsimp only
  split <;> exact Vector.getElem_ofFn _

theorem haltedTogether_reservation (i : SlotId) :
    (haltedTogether s cause).reservation i =
      if ∃ w ∈ allWindows, (cause w).isSome = true ∧ i ∈ (s.win w).queue then [] else s.reservation i := by
  simp only [← mem_freed_iff]
  unfold haltedTogether
  dsimp only
  split <;> exact Vector.getElem_ofFn _

/-- What the halts together write of the other blocks, ATTN apart. -/
theorem haltedTogether_frame :
    haltedTogether s cause = { s with
      windows := (haltedTogether s cause).windows
      slots := (haltedTogether s cause).slots
      staging := (haltedTogether s cause).staging
      acc := { s.acc with tags := tagsAfter s (s.failingTransfers cause allWindows) }
      out := { s.out with answers := s.out.answers ++ errorAnswers (s.failingTransfers cause allWindows) }
      cmd := match s.endedCause cause allWindows with
        | some c => { s.cmd with long := { s.cmd.long with state := .failed, detail := .cause c } }
        | none => s.cmd
      ev := { s.ev with
        devicePending := if (s.endedCause cause allWindows).isSome
          then s.ev.devicePending ||| DeviceKind.commandDone.bit else s.ev.devicePending
        attn := if (failingOf cause allWindows).isEmpty then s.ev.attn else (haltedTogether s cause).attnLevel } } := by
  by_cases h : (failingOf cause allWindows).isEmpty = true
  · rw [if_pos h]
    unfold haltedTogether
    dsimp only
    rw [if_pos (by exact h)]
    rfl
  · rw [if_neg h]
    unfold haltedTogether
    dsimp only
    rw [if_neg (by exact h)]
    rfl

end

/-- The windows that halt one after another leave what their halt together leaves. -/
theorem haltEach_eq_haltedTogether {s : State} (apart : QueuesApart s) (cause : WinId → Option FaultCause) :
    s.haltEach cause allWindows = haltedTogether s cause := by
  have hn := allWindows_nodup
  have hw : ∀ w, (s.haltEach cause allWindows).win w = (haltedTogether s cause).win w := fun w => by
    rw [State.haltEach_win cause apart hn (mem_allWindows w), haltedTogether_win]
  have ev := s.haltEach_ev cause (l := allWindows)
  have frame := haltedTogether_frame s cause
  have level : (s.haltEach cause allWindows).attnLevel = (haltedTogether s cause).attnLevel := by
    refine State.attnLevel_congr (fun w => by rw [hw]) ?_ ?_ ?_ <;> rw [ev, frame]
  refine State.ext_blocks hw (fun i => ?_) (fun i => ?_) ?_ ?_ ?_ ?_ ?_ ?_ ?_ ?_ ?_
  · rw [State.haltEach_slot _ _ hn, haltedTogether_slot]
  · rw [State.haltEach_reservation cause s hn, haltedTogether_reservation]
  · rw [State.haltEach_acc cause apart hn, frame]
  · rw [State.haltEach_eng, frame]
  · rw [State.haltEach_arb, frame]
  · rw [State.haltEach_link, frame]
  · rw [State.haltEach_cmd, frame]
  · rw [ev, level, congrArg State.ev frame]
  · rw [State.haltEach_out cause apart hn, frame]
  · rw [State.haltEach_freeUses, frame]
  · rw [State.haltEach_pending, frame]
end Sys2Proof.Machine
end

section
/-! SUPPORT. The loss of the link halts every window in service (R13, R20, R147, R149): obligations O25 and O46. -/
namespace Sys2Proof.Proofs
open Sys2Proof.Machine Sys2Proof.Safety

/-! ### Sets of kinds -/

/-- A kind that has been added is in the set. -/
theorem or_and_self_kind {n : Nat} (x b : BitVec n) : (x ||| b) &&& b = b := by
  ext i hi
  simp
  tauto

theorem has_of_or {n : Nat} {x b : BitVec n} (hb : b ≠ 0) (h : ∃ k y, x = (y ||| b) ||| k) : x &&& b ≠ 0 := by
  obtain ⟨k, y, rfl⟩ := h
  rw [show y ||| b ||| k = (y ||| k) ||| b by rw [BitVec.or_assoc, BitVec.or_comm b k, BitVec.or_assoc], or_and_self_kind]
  exact hb

/-! ### The windows that lose the link -/

theorem linkLostCause_eq (s : State) :
    linkLostCause s = fun w => if (s.win w).state.live then some .linkLost else none := by
  funext w
  unfold linkLostCause
  cases (s.win w).state <;> rfl

theorem linkLostCause_congr {s t : State} (h : ∀ w, (t.win w).state = (s.win w).state) :
    linkLostCause t = linkLostCause s := by simp [linkLostCause_eq, h]

/-- A halt out of service is a change of a window, and its attempt follows (R25). -/
theorem attemptSince_of_halts {s u v : State} {cause : WinId → Option FaultCause}
    (halted : ∀ w, (v.win w).state = if (cause w).isSome then .halted else (s.win w).state)
    (kept : ∀ w, cause w = none → (v.win w).queue = (s.win w).queue)
    (live : ∀ w, (cause w).isSome = true → (s.win w).state ≠ .halted) (hu : u = v) :
    u.attemptSince s = if allWindows.any fun w => (cause w).isSome then v.attempt else v := by
  subst hu
  split
  · next h =>
    obtain ⟨w, -, hw⟩ := List.any_eq_true.mp h
    exact State.attemptSince_of_moved (w := w) (.inl (by rw [halted, if_pos hw]; exact (live w hw).symm))
  · next h =>
    have none : ∀ w, cause w = none := fun w => by
      by_contra hw
      exact h (List.any_eq_true.mpr ⟨w, mem_allWindows w, Option.isSome_iff_ne_none.mpr hw⟩)
    exact State.attemptSince_of_still fun w => ⟨by rw [halted, none w]; rfl, kept w (none w)⟩

section
variable (s : State)

/-- A window in service halts by the loss of the link, whatever the other windows and the slots are. -/
theorem haltAllLive_win_live {w : WinId} (h : (s.win w).state.live = true) (c : FaultCause) :
    ∃ u : State, u.win w = s.win w ∧ (s.haltAllLive c).win w = haltedRecord u w c none none := by
  rw [State.haltAllLive_eq]
  exact s.haltEach_win_of_mem _ allWindows_nodup (mem_allWindows w) (by simp [h])

theorem haltAllLive_win_other {w : WinId} (h : (s.win w).state.live = false) (c : FaultCause) :
    (s.haltAllLive c).win w = s.win w := by
  rw [State.haltAllLive_eq]
  exact s.haltEach_win_of_not _ (.inr (by simp [h]))

/-- The halts add to the device's pending set and keep the masks and counters. -/
theorem haltAllLive_ev (c : FaultCause) : ∃ k attn, (s.haltAllLive c).ev =
    { s.ev with devicePending := s.ev.devicePending ||| k, attn := attn } := by
  rw [State.haltAllLive_eq, State.haltEach_ev]
  split
  · exact ⟨DeviceKind.commandDone.bit, _, rfl⟩
  · exact ⟨0#9, _, by rw [BitVec.or_zero]⟩

@[simp] theorem haltAllLive_link (c : FaultCause) : (s.haltAllLive c).link = s.link := by
  rw [State.haltAllLive_eq, State.haltEach_link]

@[simp] theorem haltAllLive_arb (c : FaultCause) : (s.haltAllLive c).arb = s.arb := by
  rw [State.haltAllLive_eq, State.haltEach_arb]

@[simp] theorem haltAllLive_eng (c : FaultCause) : (s.haltAllLive c).eng = s.eng := by
  rw [State.haltAllLive_eq, State.haltEach_eng]

/-- After the loss of the link no window is in service, so an attempt writes no window. -/
theorem haltAllLive_not_live (c : FaultCause) (w : WinId) : ((s.haltAllLive c).win w).state.live = false := by
  by_cases h : (s.win w).state.live = true
  · obtain ⟨u, -, e⟩ := haltAllLive_win_live s h c
    rw [e]; rfl
  · have h : (s.win w).state.live = false := by simpa using h
    rw [haltAllLive_win_other s h]; exact h

end

/-- An attempt after a step adds to the device's pending set. -/
theorem attemptSince_devicePending (s old : State) :
    ∃ k, (s.attemptSince old).ev.devicePending = s.ev.devicePending ||| k := by
  rcases s.attemptSince_cases old with h | h <;> rw [h]
  · exact s.attempt_devicePending
  · exact ⟨0, by simp⟩

/-- A halted window's record, field by field. -/
theorem haltedRecord_fields {u s : State} {w : WinId} {c : FaultCause} (hu : u.win w = s.win w) :
    let x := haltedRecord u w c none none
    x.state = .halted ∧ x.queue = [] ∧ x.exchange = none ∧ x.fault.map (·.cause) = some c ∧
      x.seqBit = (s.win w).seqBit ∧ x.pages = (s.win w).pages ∧ x.defn = (s.win w).defn := by
  simp [haltedRecord, hu]

/-- The attempt that follows the halts of the windows that lose the link (R25). -/
theorem attemptSince_of_linkLost {s u v : State} (hs : ∀ w, (u.win w).state = (s.win w).state)
    (hq : ∀ w, (u.win w).queue = (s.win w).queue) (hv : v = haltedTogether u (linkLostCause s)) :
    v.attemptSince s = attemptAfterHalts u (linkLostCause s) := by
  have live : ∀ w, (linkLostCause s w).isSome = (s.win w).state.live := fun w => by
    simp only [linkLostCause_eq]; cases (s.win w).state.live <;> rfl
  refine attemptSince_of_halts (fun w => ?_) (fun w hw => ?_) (fun w hw => ?_) hv
  · rw [haltedTogether_win]
    cases linkLostCause s w with
    | none => simp [hs]
    | some c => rfl
  · rw [haltedTogether_win, hw, hq]
  · rw [live] at hw
    rintro e
    rw [e] at hw
    exact absurd hw (by decide)

/-! ### Recovery given up (O46) -/

theorem giveUpRecovery_eq (s : State) :
    s.giveUpRecovery = ((detached s).raiseDevice .linkDown).haltAllLive .linkLost := rfl

theorem linkDown_win (b : State) (w : WinId) : ((detached b).raiseDevice .linkDown).win w = b.win w := rfl

theorem recoveryGivenUp_eq {s b : State} (apart : QueuesApart s) (hq : ∀ w, (b.win w).queue = (s.win w).queue)
    (hs : ∀ w, (b.win w).state = (s.win w).state) : b.giveUpRecovery.attemptSince s = recoveryGivenUp b := by
  generalize hu : (detached b).raiseDevice .linkDown = u
  have win : ∀ w, u.win w = b.win w := fun w => by rw [← hu]; rfl
  have cause : linkLostCause b = linkLostCause u := linkLostCause_congr fun w => by rw [win]
  have together : b.giveUpRecovery = haltedTogether u (linkLostCause u) := by
    rw [giveUpRecovery_eq, hu, State.haltAllLive_eq, linkLostCause_eq]
    exact haltEach_eq_haltedTogether (apart.congr fun w => by rw [win, hq]) _
  have recovery : recoveryGivenUp b = attemptAfterHalts u (linkLostCause u) := by rw [← cause, ← hu]; rfl
  have same : linkLostCause u = linkLostCause s := linkLostCause_congr fun w => by rw [win, hs]
  rw [recovery, same]
  exact attemptSince_of_linkLost (fun w => by rw [win, hs]) (fun w => by rw [win, hq]) (by rw [together, same])

namespace LinkLoss

/-- Settles O46: the halts as one state, and what they leave whatever the slots are. -/
theorem recoveryGivenUp : Obligations.RecoveryGivenUp := by
  intro s k hs hk
  generalize hb : s.elapse (s.link.recoveryLimit * 1000 - k) = b
  have step : exec .recoveryLimitExpiry s = .next (b.giveUpRecovery.attemptSince s) := by
    rw [← hb]
    show execRecoveryLimitExpiry s = _
    simp only [execRecoveryLimitExpiry, hs, hk]
  have win : ∀ w, b.win w = { s.win w with exchange := (b.win w).exchange } := fun w => by
    rw [← hb]; exact s.elapse_win _ w
  have state : ∀ w, (b.win w).state = (s.win w).state := fun w => by rw [win w]
  refine ⟨fun law => ?_, _, step, ?_, ?_, fun w hw => ?_, fun w hw => ?_⟩
  · rw [step, recoveryGivenUp_eq (.of_law law) (fun w => by rw [win w]) state]
  · obtain ⟨-, -, -, link, -⟩ := AttemptKeeps.attemptSince b.giveUpRecovery s
    rw [link, giveUpRecovery_eq, haltAllLive_link, ← hb]
    rfl
  · obtain ⟨j, hj⟩ := attemptSince_devicePending b.giveUpRecovery s
    obtain ⟨k, attn, hk⟩ := haltAllLive_ev ((detached b).raiseDevice .linkDown) .linkLost
    refine has_of_or (by decide) ⟨k ||| j, b.ev.devicePending, ?_⟩
    rw [hj, giveUpRecovery_eq, hk, BitVec.or_assoc]
    rfl
  · have hl : (((detached b).raiseDevice .linkDown).win w).state.live = true := by rw [linkDown_win, state]; exact hw
    obtain ⟨u, hu, e⟩ := haltAllLive_win_live _ hl .linkLost
    have fields := haltedRecord_fields (c := .linkLost) (hu.trans (linkDown_win b w))
    rw [giveUpRecovery_eq, State.attemptSince_win_of_not_live _ _ (haltAllLive_not_live _ _ _), e]
    obtain ⟨h1, h2, h3, h4, h5, h6, h7⟩ := fields
    exact ⟨h1, h2, h3, h4, by rw [h5, win w], by rw [h6, win w], by rw [h7, win w]⟩
  · rw [giveUpRecovery_eq, State.attemptSince_win_of_not_live _ _ (haltAllLive_not_live _ _ _)]
    rw [haltAllLive_win_other _ (by rw [linkDown_win, state]; exact hw), linkDown_win]

end LinkLoss

end Sys2Proof.Proofs
end

section
/-! SUPPORT. RESET-BLOCK with target LINK (R149, R162): obligation O25. -/
namespace Sys2Proof.Proofs
open Sys2Proof.Machine Sys2Proof.Safety

/-- Where ATTN has its level, the halts together leave it at its level. -/
theorem haltedTogether_attn {s : State} (cause : WinId → Option FaultCause) (h : s.ev.attn = s.attnLevel) :
    (haltedTogether s cause).ev.attn = (haltedTogether s cause).attnLevel := by
  have ev := congrArg State.ev (haltedTogether_frame s cause)
  by_cases empty : (failingOf cause allWindows).isEmpty = true
  · have none : ∀ w, cause w = none := fun w => by
      by_contra hw
      have : w ∈ failingOf cause allWindows :=
        List.mem_filter.mpr ⟨mem_allWindows w, Option.isSome_iff_ne_none.mpr hw⟩
      rw [List.isEmpty_iff.mp empty] at this
      simp at this
    have ended : s.endedCause cause allWindows = Option.none := by
      rw [State.endedCause, List.isEmpty_iff.mp empty]; rfl
    rw [ended, if_pos empty] at ev
    rw [ev]
    refine h.trans (State.attnLevel_congr (fun w => ?_) ?_ ?_ ?_).symm
    · rw [haltedTogether_win, none w]
    all_goals rw [ev]
    rfl
  · rw [if_neg empty] at ev
    exact congrArg EventUnit.attn ev

/-! ### What the reset leaves before its attempt -/

/-- The parts of the link and the arbiter that a halt does not read may be written before it. -/
theorem haltedTogether_detach (t : State) (cause : WinId → Option FaultCause) (l : Link) (a : Arbiter) (e : EventUnit) :
    haltedTogether { t with link := l, arb := a, ev := e } cause = { haltedTogether t cause with
      link := l, arb := a, ev := (haltedTogether { t with link := l, arb := a, ev := e } cause).ev } := by
  unfold haltedTogether
  dsimp only
  split <;> rfl

/-- The command unit of a part in which no long command runs may be written after the halts. -/
theorem haltedTogether_setCmd {t : State} {c : CommandUnit} (cause : WinId → Option FaultCause)
    (ht : t.cmd.long.state ≠ .running) (hc : c.long.state ≠ .running) :
    haltedTogether (t.setCmd c) cause = (haltedTogether t cause).setCmd c := by
  have idle : ∀ {u : State}, u.cmd.long.state ≠ .running → ∀ l : List WinId, (l.find? fun w => u.runsFor w) = none :=
    fun h l => List.find?_eq_none.mpr fun w _ => by simp [State.runsFor, h]
  have runs : ∀ w, (t.setCmd c).runsFor w = t.runsFor w := fun w => by simp [State.runsFor, ht, hc]
  unfold haltedTogether
  simp only [runs, idle ht, Option.bind_none]
  split <;> rfl

/-- Where no long command runs the halts together add nothing to the device's pending set. -/
theorem haltedTogether_ev_of_idle {t : State} {cause : WinId → Option FaultCause} (h : t.cmd.long.state ≠ .running) :
    (haltedTogether t cause).ev = { t.ev with
      attn := if (failingOf cause allWindows).isEmpty then t.ev.attn else (haltedTogether t cause).attnLevel } := by
  have ev := congrArg State.ev (haltedTogether_frame t cause)
  rw [State.endedCause_of_not_running cause h] at ev
  exact ev

theorem eventUnit_ext {d e : EventUnit} (h1 : d.devicePending = e.devicePending) (h2 : d.windowMask = e.windowMask)
    (h3 : d.deviceMask = e.deviceMask) (h4 : d.counters = e.counters) (h5 : d.attn = e.attn) : d = e := by
  cases d; cases e; cases h1; cases h2; cases h3; cases h4; cases h5; rfl

section
variable (s : State)

theorem completeLong_win (st : LongState) (d : LongDetail) (w : WinId) : (s.completeLong st d).win w = s.win w := by
  rw [State.completeLong_frame]; rfl

theorem completeLong_cmd (st : LongState) (d : LongDetail) : (s.completeLong st d).cmd =
    if s.cmd.long.state = .running then { s.cmd with long := { s.cmd.long with state := st, detail := d } } else s.cmd := by
  by_cases h : s.cmd.long.state = .running
  · rw [s.completeLong_running h, if_pos h]; rfl
  · rw [s.completeLong_idle h, if_neg h]

theorem completeLong_long (st : LongState) (d : LongDetail) : (s.completeLong st d).cmd.long =
    if s.cmd.long.state = .running then { s.cmd.long with state := st, detail := d } else s.cmd.long := by
  rw [completeLong_cmd]; split <;> rfl

theorem aborted_not_running (d : LongDetail) : (s.completeLong .aborted d).cmd.long.state ≠ .running := by
  rw [completeLong_cmd]
  by_cases h : s.cmd.long.state = .running <;> simp [h]

theorem completeLong_ev (st : LongState) (d : LongDetail) : (s.completeLong st d).ev =
    { s.ev with
      devicePending := s.ev.devicePending ||| (if s.cmd.long.state = .running then DeviceKind.commandDone.bit else 0)
      attn := (s.completeLong st d).ev.attn } := by
  by_cases h : s.cmd.long.state = .running
  · rw [s.completeLong_running h, if_pos h]; rfl
  · rw [s.completeLong_idle h, if_neg h]
    simp

/-- Where no long command runs the halts keep the command unit. -/
theorem haltAllLive_cmd (h : s.cmd.long.state ≠ .running) (c : FaultCause) : (s.haltAllLive c).cmd = s.cmd := by
  rw [State.haltAllLive_eq, State.haltEach_cmd, State.endedCause_of_not_running _ h]

theorem haltAllLive_acc_waitLimit (c : FaultCause) : (s.haltAllLive c).acc.waitLimit = s.acc.waitLimit := by
  rw [State.haltAllLive_eq]
  exact s.haltEach_keeps _ (fun s => s.acc.waitLimit) (fun s w c => by rw [State.haltWindow_acc]) allWindows

end

/-! ### The cut of the link (R149) -/

/-- The link DETACHED, LINK_DOWN raised for a link that was up, the cycle count 0. -/
def linkCut (before : LinkState) (s : State) : State :=
  let t := if before = .detached then s.toDetached else s.toDetached.raiseDevice .linkDown
  { t with arb := { t.arb with cycleCount := 0 } }

section
variable (b : LinkState) (s : State)

theorem linkCut_frame : linkCut b s = { s with
    link := (detached s).link
    arb := { (detached s).arb with cycleCount := 0 }
    ev := (linkCut b s).ev } := by
  unfold linkCut
  dsimp only
  split <;> rfl

theorem linkCut_win (w : WinId) : (linkCut b s).win w = s.win w := by rw [linkCut_frame]; rfl

theorem linkCut_ev : (linkCut b s).ev = { s.ev with
    devicePending := s.ev.devicePending ||| (if b = .detached then 0 else DeviceKind.linkDown.bit)
    attn := if b = .detached then s.ev.attn else (linkCut b s).attnLevel } := by
  unfold linkCut
  dsimp only
  split
  · simp
  · rfl

end

/-- The halts of the windows in service, the running command ABORTED before them. -/
def linkHalts (s : State) : State := (s.completeLong .aborted .resetLink).haltAllLive .linkLost

theorem resetLink_eq (s : State) : s.resetLink = (linkCut s.link.state (linkHalts s)).attemptSince s := by
  unfold State.resetLink linkCut linkHalts
  rfl

/-- Where no window takes requests an attempt leaves the windows, the slots and the arbiter. -/
theorem attempt_blocks_of_no_takes {s : State} (h : ∀ w, (s.win w).state.takes = false) :
    s.attempt.windows = s.windows ∧ s.attempt.slots = s.slots ∧ s.attempt.staging = s.staging ∧
      s.attempt.arb = s.arb := by
  rcases s.attempt_cases with ⟨-, e⟩ | ⟨p, -, ⟨k, e⟩ | ⟨r, e⟩ | e | ⟨v, i, hj, e⟩⟩
  · rw [e]; simp
  · rw [e]; cases k <;> exact ⟨rfl, rfl, rfl, rfl⟩
  · rw [e]; exact ⟨rfl, rfl, rfl, rfl⟩
  · rw [e]; exact ⟨rfl, rfl, rfl, rfl⟩
  · obtain ⟨-, hv, -⟩ := s.judge_take hj
    rw [h] at hv
    exact absurd hv (by decide)

theorem attemptSince_arb_of_not_live {s : State} (old : State) (h : ∀ w, (s.win w).state.live = false) :
    (s.attemptSince old).arb = s.arb := by
  obtain ⟨-, -, -, arb⟩ := attempt_blocks_of_no_takes (s := s) fun w => by
    have := h w
    cases hs : (s.win w).state <;> simp_all [WindowState.takes, WindowState.live]
  rcases s.attemptSince_cases old with e | e <;> rw [e]
  exact arb

/-! ### RESET-BLOCK with target LINK -/

section
variable (s : State)

/-- What the reset finds: the running command ABORTED (R162). -/
def linkResetBase : State :=
  let d := detached s
  let base : State := { d with
    arb := { d.arb with cycleCount := 0 }
    cmd := if s.cmd.long.state = .running then { s.cmd with long := { s.cmd.long with state := .aborted, detail := .resetLink } }
           else s.cmd
    ev := { s.ev with devicePending := s.ev.devicePending
      ||| (if s.cmd.long.state = .running then DeviceKind.commandDone.bit else 0)
      ||| (if s.link.state ≠ .detached then DeviceKind.linkDown.bit else 0) } }
  if s.cmd.long.state = .running ∨ s.link.state ≠ .detached then base.setAttn else base

theorem linkResetBase_frame : linkResetBase s = { s.completeLong .aborted .resetLink with
    link := (detached s).link
    arb := { (detached s).arb with cycleCount := 0 }
    ev := (linkResetBase s).ev } := by
  have cmd := completeLong_cmd s .aborted .resetLink
  rw [State.completeLong_frame] at cmd ⊢
  unfold linkResetBase
  dsimp only at cmd ⊢
  rw [cmd]
  split <;> rfl

theorem linkResetBase_win (w : WinId) : (linkResetBase s).win w = s.win w := by
  rw [linkResetBase_frame, State.completeLong_frame]; rfl

theorem linkResetBase_ev : (linkResetBase s).ev = { s.ev with
    devicePending := s.ev.devicePending
      ||| (if s.cmd.long.state = .running then DeviceKind.commandDone.bit else 0)
      ||| (if s.link.state ≠ .detached then DeviceKind.linkDown.bit else 0)
    attn := if s.cmd.long.state = .running ∨ s.link.state ≠ .detached then (linkResetBase s).attnLevel else s.ev.attn } := by
  unfold linkResetBase
  dsimp only
  split <;> rfl

theorem linkResetBase_cmd : (linkResetBase s).cmd = (s.completeLong .aborted .resetLink).cmd := by
  rw [linkResetBase_frame]

/-- The halts before the cut, and the link's state and events written before them, leave the same. -/
theorem linkCut_haltedTogether (cause : WinId → Option FaultCause) :
    linkCut s.link.state (haltedTogether (s.completeLong .aborted .resetLink) cause) =
      haltedTogether (linkResetBase s) cause := by
  have base := linkResetBase_frame s
  have baseEv := linkResetBase_ev s
  have idle := aborted_not_running s .resetLink
  have cEv := completeLong_ev s .aborted .resetLink
  have cLevel : s.cmd.long.state = .running →
      (s.completeLong .aborted .resetLink).ev.attn = (s.completeLong .aborted .resetLink).attnLevel := fun h => by
    rw [s.completeLong_running h]; rfl
  have cIdle : s.cmd.long.state ≠ .running → (s.completeLong .aborted .resetLink).ev.attn = s.ev.attn := fun h => by
    rw [s.completeLong_idle h]
  have cLink : (s.completeLong .aborted .resetLink).link = s.link ∧ (s.completeLong .aborted .resetLink).arb = s.arb := by
    rw [State.completeLong_frame]; exact ⟨rfl, rfl⟩
  generalize s.completeLong .aborted .resetLink = t at *
  generalize linkResetBase s = b at *
  have halted := haltedTogether_detach t cause (detached s).link { (detached s).arb with cycleCount := 0 } b.ev
  rw [← base] at halted
  have win : ∀ w, (linkCut s.link.state (haltedTogether t cause)).win w = (haltedTogether b cause).win w := fun w => by
    rw [linkCut_win, halted]; rfl
  have tEv := haltedTogether_ev_of_idle (cause := cause) idle
  have bEv := haltedTogether_ev_of_idle (t := b) (cause := cause) (by rw [base]; exact idle)
  have cutEv := linkCut_ev s.link.state (haltedTogether t cause)
  have pend : (linkCut s.link.state (haltedTogether t cause)).ev.devicePending = (haltedTogether b cause).ev.devicePending := by
    rw [cutEv, tEv, cEv, bEv, baseEv]
    by_cases h : s.link.state = .detached <;> simp [h]
  have wm : (linkCut s.link.state (haltedTogether t cause)).ev.windowMask = (haltedTogether b cause).ev.windowMask := by
    rw [cutEv, tEv, cEv, bEv, baseEv]
  have dm : (linkCut s.link.state (haltedTogether t cause)).ev.deviceMask = (haltedTogether b cause).ev.deviceMask := by
    rw [cutEv, tEv, cEv, bEv, baseEv]
  have counters : (linkCut s.link.state (haltedTogether t cause)).ev.counters = (haltedTogether b cause).ev.counters := by
    rw [cutEv, tEv, cEv, bEv, baseEv]
  have level := State.attnLevel_congr (fun w => by rw [win]) wm pend dm
  have attn : (linkCut s.link.state (haltedTogether t cause)).ev.attn = (haltedTogether b cause).ev.attn := by
    by_cases up : s.link.state = .detached
    · have tLevel : (haltedTogether t cause).attnLevel = (haltedTogether b cause).attnLevel := by
        rw [← level]
        refine (State.attnLevel_congr (fun w => by rw [linkCut_win]) ?_ ?_ ?_).symm <;> rw [cutEv]
        simp [up]
      have cutAttn : (linkCut s.link.state (haltedTogether t cause)).ev.attn = (haltedTogether t cause).ev.attn := by
        rw [cutEv]; exact if_pos up
      rw [cutAttn]
      by_cases run : s.cmd.long.state = .running
      · rw [haltedTogether_attn cause (cLevel run), tLevel]
        exact (haltedTogether_attn cause (by rw [baseEv]; exact if_pos (.inl run))).symm
      · have same : b.ev.attn = t.ev.attn := by
          rw [cIdle run, baseEv]; exact if_neg (by tauto)
        rw [tEv, bEv]
        dsimp only
        rw [same, tLevel]
    · have bLevel : (haltedTogether b cause).ev.attn = (haltedTogether b cause).attnLevel :=
        haltedTogether_attn cause (by rw [baseEv]; exact if_pos (.inr up))
      rw [bLevel, ← level, cutEv]
      exact if_neg up
  have ev : (linkCut s.link.state (haltedTogether t cause)).ev = (haltedTogether b cause).ev := by
    exact eventUnit_ext pend wm dm counters attn
  have link : (detached (haltedTogether t cause)).link = (detached s).link ∧
      (detached (haltedTogether t cause)).arb = (detached s).arb := by
    have frame := haltedTogether_frame t cause
    generalize haltedTogether t cause = h at *
    constructor
    · rw [detached, frame]; dsimp only; rw [cLink.1]; rfl
    · rw [detached, frame]; dsimp only; rw [cLink.2]; rfl
  rw [linkCut_frame, link.1, link.2, ev, ← halted]

theorem resetLink_together (apart : QueuesApart s) :
    s.resetLink = attemptAfterHalts (linkResetBase s) (linkLostCause s) := by
  have cut := linkCut_haltedTogether s (linkLostCause s)
  have together : (s.completeLong .aborted .resetLink).haltAllLive .linkLost =
      haltedTogether (s.completeLong .aborted .resetLink) (linkLostCause s) := by
    rw [State.haltAllLive_eq, linkLostCause_eq]
    have cause : (fun w => if ((s.completeLong .aborted .resetLink).win w).state.live then some FaultCause.linkLost else none) =
        fun w => if (s.win w).state.live then some FaultCause.linkLost else none := by
      funext w; rw [completeLong_win]
    rw [cause]
    exact haltEach_eq_haltedTogether (apart.congr fun w => by rw [completeLong_win]) _
  rw [resetLink_eq, linkHalts, together]
  exact attemptSince_of_linkLost (fun w => by rw [linkResetBase_win]) (fun w => by rw [linkResetBase_win]) cut

end

/-- A frame whose rule is taken and DONE leaves what the rule leaves, with the record. -/
theorem command_of_done {s t : State} {q b : Byte} {j : State → Judged} {p : List Byte}
    (h : j (s.setCmd { s.cmd with receiver := .idle }) = .done t p) (ht : t.cmd.receiver = .idle) :
    s.command q b j = answered t ⟨q, b, .done, .absent, p⟩ := by
  have : s.command q b j = t.setCmd { t.cmd with result := ⟨q, b, .done, .absent, p⟩ } := by
    simp only [State.command, State.endTransaction_eq, h]; rfl
  rw [this, answered_eq, ← ht]

theorem linkResetBase_setCmd (s : State) : linkResetBase (s.setCmd { s.cmd with receiver := .idle }) =
    (linkResetBase s).setCmd { (linkResetBase s).cmd with receiver := .idle } := by
  by_cases h : s.cmd.long.state = .running <;> by_cases up : s.link.state = .detached <;>
    simp [linkResetBase, h, up, detached, State.setCmd, State.setAttn, State.attnLevel, State.win]

theorem attemptAfterHalts_setCmd {t : State} {c : CommandUnit} (cause : WinId → Option FaultCause)
    (ht : t.cmd.long.state ≠ .running) (hc : c.long.state ≠ .running) :
    attemptAfterHalts (t.setCmd c) cause = (attemptAfterHalts t cause).setCmd c := by
  unfold attemptAfterHalts
  rw [haltedTogether_setCmd cause ht hc]
  dsimp only
  split
  · rw [State.setCmd_attempt]
  · rfl

theorem attemptAfterHalts_cmd {t : State} (cause : WinId → Option FaultCause) (h : t.cmd.long.state ≠ .running) :
    (attemptAfterHalts t cause).cmd = t.cmd := by
  have cmd := congrArg State.cmd (haltedTogether_frame t cause)
  rw [State.endedCause_of_not_running cause h] at cmd
  unfold attemptAfterHalts
  dsimp only
  split
  · rw [State.attempt_cmd, cmd]
  · exact cmd

/-! ### What the reset leaves, whatever the slots are -/

section
variable (s : State)

/-- The record of a window after the halts: halted with LINK_LOST in service, as it was out of it. -/
theorem linkHalts_win_live {w : WinId} (h : (s.win w).state.live = true) :
    ∃ u : State, u.win w = s.win w ∧ (linkHalts s).win w = haltedRecord u w .linkLost none none := by
  have same := completeLong_win s .aborted .resetLink w
  obtain ⟨u, hu, e⟩ := haltAllLive_win_live (s.completeLong .aborted .resetLink) (by rw [same]; exact h) .linkLost
  exact ⟨u, hu.trans same, e⟩

theorem linkHalts_win_other {w : WinId} (h : (s.win w).state.live = false) : (linkHalts s).win w = s.win w := by
  have same := completeLong_win s .aborted .resetLink w
  exact (haltAllLive_win_other _ (by rw [same]; exact h) _).trans same

theorem linkHalts_frame : (linkHalts s).link = s.link ∧ (linkHalts s).arb = s.arb ∧ (linkHalts s).eng = s.eng ∧
    (linkHalts s).acc.waitLimit = s.acc.waitLimit ∧ (linkHalts s).cmd = (s.completeLong .aborted .resetLink).cmd := by
  unfold linkHalts
  rw [haltAllLive_link, haltAllLive_arb, haltAllLive_eng, haltAllLive_acc_waitLimit,
    haltAllLive_cmd _ (aborted_not_running s _)]
  rw [State.completeLong_frame]
  exact ⟨rfl, rfl, rfl, rfl, rfl⟩

theorem linkHalts_ev : ∃ k attn, (linkHalts s).ev = { s.ev with devicePending := k, attn := attn } := by
  obtain ⟨k, b, hk⟩ := haltAllLive_ev (s.completeLong .aborted .resetLink) .linkLost
  exact ⟨_, b, by rw [linkHalts, hk, completeLong_ev]⟩

theorem linkHalts_not_live (w : WinId) : ((linkHalts s).win w).state.live = false := haltAllLive_not_live _ _ w

theorem resetLink_win (w : WinId) : s.resetLink.win w = (linkHalts s).win w := by
  rw [resetLink_eq, State.attemptSince_win_of_not_live _ _ (by rw [linkCut_win]; exact linkHalts_not_live s w),
    linkCut_win]

theorem resetLink_link : s.resetLink.link = (detached s).link := by
  obtain ⟨-, -, -, link, -⟩ := AttemptKeeps.attemptSince (linkCut s.link.state (linkHalts s)) s
  obtain ⟨hl, -⟩ := linkHalts_frame s
  rw [resetLink_eq, link, linkCut_frame]
  dsimp only [detached]
  rw [hl]

theorem resetLink_arb : s.resetLink.arb = { (detached s).arb with cycleCount := 0 } := by
  obtain ⟨-, harb, -⟩ := linkHalts_frame s
  rw [resetLink_eq, attemptSince_arb_of_not_live s fun w => by rw [linkCut_win]; exact linkHalts_not_live s w,
    linkCut_frame]
  dsimp only [detached]
  rw [harb]

theorem linkCut_rest (b : LinkState) (h : State) : (linkCut b h).cmd = h.cmd ∧ (linkCut b h).eng = h.eng ∧
    (linkCut b h).acc = h.acc ∧ (linkCut b h).ev.windowMask = h.ev.windowMask ∧
    (linkCut b h).ev.deviceMask = h.ev.deviceMask := by
  refine ⟨?_, ?_, ?_, ?_, ?_⟩
  · rw [linkCut_frame]
  · rw [linkCut_frame]
  · rw [linkCut_frame]
  · rw [linkCut_ev]
  · rw [linkCut_ev]

/-- What the reset keeps of the other blocks, and the command unit it leaves. -/
theorem resetLink_rest : s.resetLink.cmd = (s.completeLong .aborted .resetLink).cmd ∧ s.resetLink.eng = s.eng ∧
    s.resetLink.acc.waitLimit = s.acc.waitLimit ∧ s.resetLink.ev.windowMask = s.ev.windowMask ∧
    s.resetLink.ev.deviceMask = s.ev.deviceMask := by
  obtain ⟨-, -, eng, -, cmd, wm, dm, -, -, -, wait, -⟩ := AttemptKeeps.attemptSince (linkCut s.link.state (linkHalts s)) s
  obtain ⟨-, -, heng, hwait, hcmd⟩ := linkHalts_frame s
  obtain ⟨k, attn, hev⟩ := linkHalts_ev s
  obtain ⟨cutCmd, cutEng, cutAcc, cutWm, cutDm⟩ := linkCut_rest s.link.state (linkHalts s)
  rw [resetLink_eq, cmd, eng, wait, wm, dm, cutCmd, cutEng, cutAcc, cutWm, cutDm, hev]
  exact ⟨hcmd, heng, hwait, rfl, rfl⟩

/-- LINK_DOWN is pending after the reset of a link that was up. -/
theorem resetLink_linkDown (h : s.link.state ≠ .detached) :
    s.resetLink.ev.devicePending &&& DeviceKind.linkDown.bit ≠ 0 := by
  obtain ⟨k, hk⟩ := attemptSince_devicePending (linkCut s.link.state (linkHalts s)) s
  refine has_of_or (by decide) ⟨k, (linkHalts s).ev.devicePending, ?_⟩
  rw [resetLink_eq, hk, linkCut_ev, if_neg h]

end

/-- A target that names nothing is not 1. -/
theorem ne_one_of_not_target {b : Byte} (h : b ∉ resetTargets) : b ≠ 1 := by
  rintro rfl
  exact h (by decide)

/-- RESET-BLOCK with target LINK is DONE in every state. -/
theorem exec_resetBlockLink (s : State) (q : Byte) : exec (.resetBlockLink q 2) s =
    .next (answered (s.setCmd { s.cmd with receiver := .idle }).resetLink ⟨q, 0x51, .done, .absent, []⟩) := by
  obtain ⟨cmd, -⟩ := resetLink_rest (s.setCmd { s.cmd with receiver := .idle })
  have receiver : (s.setCmd { s.cmd with receiver := .idle }).resetLink.cmd.receiver = .idle := by
    rw [cmd, completeLong_cmd]
    split <;> rfl
  show Host.Outcome.next (s.command q 0x51 (judgeReset 2 2 State.resetLink)) = _
  rw [command_of_done (by exact if_pos rfl) receiver]

/-- Settles O25: the halts, the cut of the link, and both as one state. -/
theorem resetLink : Obligations.ResetLink := by
  refine ⟨fun s q => ?_, fun s q law => ?_, fun s q b hb => ?_⟩
  · refine ⟨_, exec_resetBlockLink s q, ?_⟩
    generalize ht : s.setCmd { s.cmd with receiver := .idle } = t
    have win : ∀ w, t.win w = s.win w := fun w => by rw [← ht]; rfl
    obtain ⟨cmd, eng, wait, wm, dm⟩ := resetLink_rest t
    have after : ∀ w, (answered t.resetLink ⟨q, 0x51, .done, .absent, []⟩).win w = (linkHalts t).win w := resetLink_win t
    have link : t.resetLink.link = (detached s).link := by rw [resetLink_link, ← ht]; rfl
    have arb : t.resetLink.arb = { (detached s).arb with cycleCount := 0 } := by rw [resetLink_arb, ← ht]; rfl
    have long : t.resetLink.cmd.long = if s.cmd.long.state = .running
        then { s.cmd.long with state := .aborted, detail := .resetLink } else s.cmd.long := by
      rw [cmd, completeLong_long, ← ht]; rfl
    refine ⟨fun w hw => ?_, fun w hw => ?_, link, arb, ?_, fun h => ?_, ?_, ?_, ?_, ?_⟩
    · obtain ⟨u, hu, e⟩ := linkHalts_win_live t (w := w) (by rw [win]; exact hw)
      obtain ⟨h1, h2, h3, h4, h5, h6, h7⟩ := haltedRecord_fields (c := .linkLost) (hu.trans (win w))
      rw [after, e]
      exact ⟨h1, h2, h3, h4, h5, h6, h7, has_of_or (by decide) ⟨_, _, rfl⟩⟩
    · rw [after, linkHalts_win_other t (by rw [win]; exact hw), win]
    · rw [← long]; rfl
    · exact resetLink_linkDown t (by rw [← ht]; exact h)
    · exact eng.trans (by rw [← ht]; rfl)
    · exact wait.trans (by rw [← ht]; rfl)
    · exact wm.trans (by rw [← ht]; rfl)
    · exact dm.trans (by rw [← ht]; rfl)
  · have idle := aborted_not_running s .resetLink
    rw [exec_resetBlockLink, resetLink_together _ (.of_law (by exact law)), linkResetBase_setCmd,
      attemptAfterHalts_setCmd _ (by rw [linkResetBase_cmd]; exact idle) (by rw [linkResetBase_cmd]; exact idle),
      answered_setCmd]
    show _ = Host.Outcome.next (answered (attemptAfterHalts (linkResetBase s) (linkLostCause s)) _)
    rw [answered_eq, attemptAfterHalts_cmd _ (by rw [linkResetBase_cmd]; exact idle)]
    rfl
  · show Host.Outcome.next (s.command q 0x51 (judgeReset 1 b State.resetWindows)) = _
    rw [s.command_refuse (by exact if_neg (ne_one_of_not_target hb))]

end Sys2Proof.Proofs
end

section
/-! SUPPORT. RESET-BLOCK with target WINDOWS (R23, R66, R162): obligation O24. -/
namespace Sys2Proof.Proofs
open Sys2Proof.Machine Sys2Proof.Safety

/-! ### Every queue ends -/

/-- The transfers of these windows' queues, in window order and queue order (log 11). -/
def queuedTransfers (s : State) (l : List WinId) : List Transfer := l.flatMap fun w => s.transfersOf (s.win w).queue

theorem queuedTransfers_congr {s t : State} (hw : ∀ w, t.win w = s.win w) (hs : ∀ i, t.slot i = s.slot i)
    (l : List WinId) : queuedTransfers t l = queuedTransfers s l := by
  simp [queuedTransfers, State.transfersOf, hw, hs]

theorem foldl_dropTransfers (s : State) (l : List WinId) :
    l.foldl (fun s w => (s.transfersOf (s.win w).queue).foldl State.dropTransfer s) s =
      s.answerErrors (queuedTransfers s l) := by
  induction l generalizing s with
  | nil => exact s.answerErrors_nil.symm
  | cons w l ih =>
    generalize ht : s.transfersOf (s.win w).queue = ts
    have rest : queuedTransfers (s.answerErrors ts) l = queuedTransfers s l :=
      queuedTransfers_congr (by simp [State.win, State.answerErrors]) (by simp [State.slot, State.answerErrors]) l
    rw [List.foldl_cons, State.foldl_dropTransfer, ih, ht, rest, State.answerErrors_answerErrors, queuedTransfers,
      queuedTransfers, List.flatMap_cons, ht]

theorem dropAllTransfers_eq (s : State) : s.dropAllTransfers = s.answerErrors (queuedTransfers s allWindows) :=
  foldl_dropTransfers s allWindows

/-! ### The tags that fall (R29) -/

theorem strictCount_queuedTransfers (s : State) (l : List WinId) (g : Tag) :
    strictCount (queuedTransfers s l) g = (l.map fun w => outstanding s w g).sum := by
  induction l with
  | nil => rfl
  | cons w l ih =>
    rw [List.map_cons, List.sum_cons, ← ih]
    exact strictCount_append _ _ g

/-- A tag that is outstanding at one window at most has the outstanding transfers of that window. -/
theorem strictCount_of_single {s : State} {v : WinId} {g : Tag} (h : ∀ w, w ≠ v → outstanding s w g = 0) :
    strictCount (queuedTransfers s allWindows) g = outstanding s v g := by
  rw [strictCount_queuedTransfers, List.sum_map_eq_nsmul_single v _ fun w hw _ => h w hw,
    List.count_eq_one_of_mem allWindows_nodup (mem_allWindows v), one_smul]

theorem strictCount_of_none {s : State} {g : Tag} (h : ∀ w, outstanding s w g = 0) :
    strictCount (queuedTransfers s allWindows) g = 0 := by
  rw [strictCount_of_single (v := 0) fun w _ => h w, h]

/-- The entry of a tag once every queue has ended: NONE where it was outstanding at a window (R29, R66). -/
theorem fall_queuedTransfers {s : State} {g : Tag} (h : tagFits s g = true) :
    (s.tagEntry g).fall (strictCount (queuedTransfers s allWindows) g) =
      match (s.tagEntry g).dest with
      | .window _ => ⟨.none, 0⟩
      | .localMem | .none => s.tagEntry g := by
  unfold tagFits at h
  cases hd : (s.tagEntry g).dest with
  | none =>
    simp only [hd, Bool.and_eq_true, List.all_eq_true, beq_iff_eq] at h
    rw [strictCount_of_none fun w => h.2 w (mem_allWindows w)]; rfl
  | localMem =>
    simp only [hd, Bool.and_eq_true, List.all_eq_true, beq_iff_eq] at h
    rw [strictCount_of_none fun w => h.2 w (mem_allWindows w)]; rfl
  | window v =>
    simp only [hd, Bool.and_eq_true, List.all_eq_true, beq_iff_eq, bne_iff_ne, Bool.or_eq_true] at h
    obtain ⟨⟨nonzero, count⟩, other⟩ := h
    rw [strictCount_of_single fun w hw => (other w (mem_allWindows w)).resolve_left hw, ← count]
    simp [TagEntry.fall, nonzero]

/-! ### The windows, slots and reservations cleared -/

section
variable (s : State)

/-- The part with an ATTACH that was running out of PROBING (R140, R162). -/
def probeEnded : State := if s.runsLong .attach = true ∧ s.link.state = .probing then detached s else s

/-- The part after the reset, before its attempt. -/
def windowsCleared : State :=
  State.setAttn { probeEnded s with
    windows := State.reset.windows
    slots := State.reset.slots
    staging := State.reset.staging
    acc := { s.acc with tags := tagsAfter s (queuedTransfers s allWindows) }
    out := { s.out with answers := s.out.answers ++ errorAnswers (queuedTransfers s allWindows) }
    cmd := if s.cmd.long.state = .running then { s.cmd with long := { s.cmd.long with state := .aborted, detail := .resetWindows } }
           else s.cmd
    ev := if s.cmd.long.state = .running then { s.ev with devicePending := s.ev.devicePending ||| DeviceKind.commandDone.bit }
          else s.ev }

theorem runsLong_running {c : LongCode} (h : s.runsLong c = true) : s.cmd.long.state = .running := by
  simp [State.runsLong] at h; exact h.1

/-- The cleared part, by the four blocks that are not cleared. -/
def clearedWith (a : Arbiter) (l : Link) (c : CommandUnit) (e : EventUnit) : State :=
  State.setAttn { s with
    windows := State.reset.windows
    slots := State.reset.slots
    staging := State.reset.staging
    acc := { s.acc with tags := tagsAfter s (queuedTransfers s allWindows) }
    out := { s.out with answers := s.out.answers ++ errorAnswers (queuedTransfers s allWindows) }
    arb := a
    link := l
    cmd := c
    ev := e }

theorem cleared_eq (b : State) :
    (b.answerErrors (queuedTransfers b allWindows)).clearWindows.clearSlots.setAttn =
      clearedWith b b.arb b.link b.cmd b.ev := by
  simp only [clearedWith, State.answerErrors, State.clearWindows, State.clearSlots, State.reset]

theorem clearedWith_blocks (a : Arbiter) (l : Link) (c : CommandUnit) (e : EventUnit) :
    clearedWith { s with arb := a, link := l, cmd := c, ev := e } a l c e = clearedWith s a l c e := by
  have ts : queuedTransfers { s with arb := a, link := l, cmd := c, ev := e } allWindows = queuedTransfers s allWindows := rfl
  unfold clearedWith
  rw [ts]
  rfl

/-- ATTN is written last, whatever it was. -/
theorem clearedWith_attn {e e' : EventUnit} (a : Arbiter) (l : Link) (c : CommandUnit)
    (h : e = { e' with attn := e.attn }) : clearedWith s a l c e = clearedWith s a l c e' := by
  rw [h]; rfl

theorem completeLong_probe (d : LongDetail) : (if s.runsLong .attach then (s.completeLong .aborted d).endProbe
      else s.completeLong .aborted d) = { s with
    arb := (probeEnded s).arb
    link := (probeEnded s).link
    cmd := (s.completeLong .aborted d).cmd
    ev := (s.completeLong .aborted d).ev } := by
  have frame := s.completeLong_frame .aborted d
  generalize s.completeLong .aborted d = b at *
  unfold probeEnded State.endProbe
  by_cases attach : s.runsLong .attach = true
  · have link : b.link = s.link := by rw [frame]
    rw [if_pos attach, link]
    by_cases probing : s.link.state = .probing
    · rw [if_pos probing, if_pos ⟨attach, probing⟩, frame]; rfl
    · rw [if_neg probing, if_neg (by tauto), frame]
  · rw [if_neg attach, if_neg (by tauto), frame]

theorem probeEnded_frame : probeEnded s = { s with arb := (probeEnded s).arb, link := (probeEnded s).link } := by
  unfold probeEnded; split <;> rfl

/-- The cleared part by its blocks: the running command ABORTED with COMMAND_DONE (R162). -/
theorem windowsCleared_blocks : windowsCleared s = clearedWith s (probeEnded s).arb (probeEnded s).link
    (if s.cmd.long.state = .running then { s.cmd with long := { s.cmd.long with state := .aborted, detail := .resetWindows } }
     else s.cmd)
    (if s.cmd.long.state = .running then { s.ev with devicePending := s.ev.devicePending ||| DeviceKind.commandDone.bit }
     else s.ev) := by
  have frame := probeEnded_frame s
  unfold windowsCleared
  generalize probeEnded s = b at *
  rw [frame]
  unfold clearedWith
  exact congrArg State.setAttn rfl

theorem windowsCleared_eq : windowsCleared s = clearedWith s (probeEnded s).arb (probeEnded s).link
    (s.completeLong .aborted .resetWindows).cmd (s.completeLong .aborted .resetWindows).ev := by
  rw [windowsCleared_blocks, completeLong_cmd]
  by_cases run : s.cmd.long.state = .running
  · rw [s.completeLong_running run]
    simp only [if_pos run]
    rw [clearedWith_attn s (e' := { s.ev with devicePending := s.ev.devicePending ||| DeviceKind.commandDone.bit }) _ _ _ rfl]
    rfl
  · rw [s.completeLong_idle run]
    simp only [if_neg run]

theorem resetWindows_eq : s.resetWindows = (windowsCleared s).attemptSince s := by
  unfold State.resetWindows
  dsimp only
  rw [completeLong_probe, dropAllTransfers_eq, cleared_eq, clearedWith_blocks, ← windowsCleared_eq]

theorem windowsCleared_win (w : WinId) : (windowsCleared s).win w = .reset := by
  rw [← reset_win w]; rfl

theorem windowsCleared_slot (i : SlotId) : (windowsCleared s).slot i = none := State.slot_clearSlots s i

theorem windowsCleared_reservation (i : SlotId) : (windowsCleared s).reservation i = [] := State.reservation_clearSlots s i

/-- A window that was in use or had a queue is changed, and the presented request is judged afresh (R25, R43). -/
theorem resetWindows_moved (h : ∃ w : WinId, (s.win w).state ≠ .unused ∨ (s.win w).queue ≠ []) :
    s.resetWindows = (windowsCleared s).attempt := by
  obtain ⟨w, hw⟩ := h
  rw [resetWindows_eq]
  refine State.attemptSince_of_moved (w := w) ?_
  rw [windowsCleared_win]
  exact hw.imp Ne.symm Ne.symm

theorem resetWindows_still (h : ¬ ∃ w : WinId, (s.win w).state ≠ .unused ∨ (s.win w).queue ≠ []) :
    s.resetWindows = windowsCleared s := by
  rw [resetWindows_eq]
  refine State.attemptSince_of_still fun w => ?_
  rw [windowsCleared_win]
  have hw := not_exists.mp h w
  simp only [ne_eq, not_or, not_not] at hw
  exact ⟨hw.1.symm, hw.2.symm⟩

/-- No window takes requests after the reset, so an attempt leaves the windows, the slots and the arbiter. -/
theorem resetWindows_blocks : s.resetWindows.windows = (windowsCleared s).windows ∧
    s.resetWindows.slots = (windowsCleared s).slots ∧ s.resetWindows.staging = (windowsCleared s).staging ∧
    s.resetWindows.arb = (windowsCleared s).arb := by
  rw [resetWindows_eq]
  rcases (windowsCleared s).attemptSince_cases s with e | e <;> rw [e]
  · exact attempt_blocks_of_no_takes fun w => by rw [windowsCleared_win]; rfl
  · exact ⟨rfl, rfl, rfl, rfl⟩

end

theorem clearedWith_setCmd (s : State) (a : Arbiter) (l : Link) (c d : CommandUnit) (e : EventUnit) :
    (clearedWith s a l c e).setCmd d = clearedWith s a l d e := by
  unfold clearedWith
  rw [← State.setCmd_setAttn]
  rfl

theorem clearedWith_of_setCmd (s : State) (a : Arbiter) (l : Link) (c d : CommandUnit) (e : EventUnit) :
    clearedWith (s.setCmd d) a l c e = clearedWith s a l c e := by
  have ts : queuedTransfers (s.setCmd d) allWindows = queuedTransfers s allWindows :=
    queuedTransfers_congr (fun _ => rfl) (fun _ => rfl) allWindows
  unfold clearedWith
  rw [ts]
  rfl

theorem windowsCleared_cmd (s : State) : (windowsCleared s).cmd = if s.cmd.long.state = .running
    then { s.cmd with long := { s.cmd.long with state := .aborted, detail := .resetWindows } } else s.cmd := by
  rw [windowsCleared_blocks]; rfl

theorem probeEnded_setCmd (s : State) :
    (probeEnded (s.setCmd { s.cmd with receiver := .idle })).arb = (probeEnded s).arb ∧
      (probeEnded (s.setCmd { s.cmd with receiver := .idle })).link = (probeEnded s).link := by
  by_cases h : s.runsLong .attach = true ∧ s.link.state = .probing
  · rw [probeEnded, probeEnded, if_pos h, if_pos (by exact h)]; exact ⟨rfl, rfl⟩
  · rw [probeEnded, probeEnded, if_neg h, if_neg (by exact h)]; exact ⟨rfl, rfl⟩

/-- An ATTACH that ends leaves the arbiter's settings, its cycle count and its transmitter. -/
theorem probeEnded_arb (s : State) : (probeEnded s).arb.mode = s.arb.mode ∧
    (probeEnded s).arb.cycleCount = s.arb.cycleCount ∧ (probeEnded s).arb.cycleLength = s.arb.cycleLength ∧
    (probeEnded s).arb.keepAliveInterval = s.arb.keepAliveInterval ∧
    (probeEnded s).arb.transmitter = s.arb.transmitter := by
  unfold probeEnded
  split <;> exact ⟨rfl, rfl, rfl, rfl, rfl⟩

/-- The reset reads the long-command record alone of the command unit. -/
theorem windowsCleared_setCmd (s : State) : windowsCleared (s.setCmd { s.cmd with receiver := .idle }) =
    (windowsCleared s).setCmd { (windowsCleared s).cmd with receiver := .idle } := by
  have probe := probeEnded_setCmd s
  rw [windowsCleared_cmd, windowsCleared_blocks, windowsCleared_blocks, clearedWith_setCmd, clearedWith_of_setCmd,
    probe.1, probe.2]
  by_cases run : s.cmd.long.state = .running
  · rw [if_pos (by exact run), if_pos (by exact run), if_pos run, if_pos run]; rfl
  · rw [if_neg (by exact run), if_neg (by exact run), if_neg run, if_neg run]; rfl

theorem resetWindows_cmd (s : State) : s.resetWindows.cmd = (windowsCleared s).cmd := by
  obtain ⟨-, -, -, -, cmd, -⟩ := AttemptKeeps.attemptSince (windowsCleared s) s
  rw [resetWindows_eq, cmd]

theorem exec_resetBlockWindows (s : State) (q : Byte) : exec (.resetBlockWindows q 1) s =
    .next (answered (s.setCmd { s.cmd with receiver := .idle }).resetWindows ⟨q, 0x51, .done, .absent, []⟩) := by
  have receiver : (s.setCmd { s.cmd with receiver := .idle }).resetWindows.cmd.receiver = .idle := by
    rw [resetWindows_cmd, windowsCleared_setCmd]; rfl
  show Host.Outcome.next (s.command q 0x51 (judgeReset 1 1 State.resetWindows)) = _
  rw [command_of_done (by exact if_pos rfl) receiver]

/-- What the reset leaves of the blocks that are not cleared. -/
theorem resetWindows_rest (s : State) : s.resetWindows.link = (probeEnded s).link ∧
    s.resetWindows.arb = (probeEnded s).arb ∧ s.resetWindows.eng = s.eng ∧
    s.resetWindows.acc.waitLimit = s.acc.waitLimit ∧ s.resetWindows.ev.windowMask = s.ev.windowMask ∧
    s.resetWindows.ev.deviceMask = s.ev.deviceMask := by
  obtain ⟨-, -, eng, link, -, wm, dm, -, -, -, wait, -⟩ := AttemptKeeps.attemptSince (windowsCleared s) s
  obtain ⟨-, -, -, arb⟩ := resetWindows_blocks s
  rw [arb, resetWindows_eq, eng, link, wait, wm, dm, windowsCleared_blocks]
  refine ⟨rfl, rfl, rfl, rfl, ?_, ?_⟩ <;> by_cases run : s.cmd.long.state = .running <;>
    simp [clearedWith, State.setAttn, run]

/-- To the device's pending set the reset adds, COMMAND_DONE where a long command ran (R162). -/
theorem resetWindows_devicePending (s : State) : ∃ k, s.resetWindows.ev.devicePending =
    (s.ev.devicePending ||| if s.cmd.long.state = .running then DeviceKind.commandDone.bit else 0) ||| k := by
  obtain ⟨k, hk⟩ := attemptSince_devicePending (windowsCleared s) s
  refine ⟨k, ?_⟩
  rw [resetWindows_eq, hk, windowsCleared_blocks]
  by_cases run : s.cmd.long.state = .running <;> simp [clearedWith, State.setAttn, run]

/-- A kind that was pending still is where kinds have only been added. -/
theorem or_and_of_left {n : Nat} (x k : BitVec n) : (x ||| k) &&& x = x := by
  rw [BitVec.or_comm, or_and_self_kind]

/-- Settles O24: the cleared part, and what the attempt after it keeps. -/
theorem resetWindows : Obligations.ResetWindows := by
  intro s q
  have step := exec_resetBlockWindows s q
  generalize ht : s.setCmd { s.cmd with receiver := .idle } = t at step
  have cleared : windowsCleared t = (windowsCleared s).setCmd { (windowsCleared s).cmd with receiver := .idle } := by
    rw [← ht, windowsCleared_setCmd]
  obtain ⟨probeArb, probeLink⟩ : (probeEnded t).arb = (probeEnded s).arb ∧ (probeEnded t).link = (probeEnded s).link := by
    rw [← ht]; exact probeEnded_setCmd s
  obtain ⟨link, arb, eng, wait, wm, dm⟩ := resetWindows_rest t
  rw [probeLink] at link
  rw [probeArb] at arb
  obtain ⟨mode, count, length, interval, transmitter⟩ := probeEnded_arb s
  rw [← arb] at mode count length interval transmitter
  obtain ⟨windows, slots, staging, -⟩ := resetWindows_blocks t
  obtain ⟨k, pend⟩ : ∃ k, t.resetWindows.ev.devicePending =
      (s.ev.devicePending ||| if s.cmd.long.state = .running then DeviceKind.commandDone.bit else 0) ||| k := by
    obtain ⟨k, pend⟩ := resetWindows_devicePending t
    exact ⟨k, by rw [pend, ← ht]; rfl⟩
  have after : ∀ w, t.resetWindows.win w = State.reset.win w := fun w => by
    rw [reset_win, ← windowsCleared_win t w, State.win, State.win, windows]
  refine ⟨?_, fun _ law g => ?_, _, step, after, fun i => ⟨?_, ?_⟩, ?_, fun run => ?_, ?_, ?_, ?_, ?_, ?_, ?_, ?_, ?_, ?_, ?_, ?_⟩
  · show _ = Host.Outcome.next (answered (if _ then (windowsCleared s).attempt else windowsCleared s) _)
    rw [step]
    by_cases moved : ∃ w : WinId, (s.win w).state ≠ .unused ∨ (s.win w).queue ≠ []
    · rw [if_pos moved, resetWindows_moved t (by rw [← ht]; exact moved), cleared, State.setCmd_attempt, answered_setCmd,
        answered_eq, State.attempt_cmd]
    · rw [if_neg moved, resetWindows_still t (by rw [← ht]; exact moved), cleared, answered_setCmd, answered_eq]
  · have entry : ∀ u : State, u.acc.tags = tagsAfter s (queuedTransfers s allWindows) →
        u.tagEntry g = (s.tagEntry g).fall (strictCount (queuedTransfers s allWindows) g) := fun u hu => by
      rw [State.tagEntry, hu, tagsAfter_eq]; exact Vector.getElem_ofFn _
    exact (entry (windowsCleared s) rfl).trans (fall_queuedTransfers (law.1 g))
  · show t.resetWindows.slot i = none
    rw [← windowsCleared_slot t i, State.slot, State.slot, slots]
  · show t.resetWindows.reservation i = []
    rw [← windowsCleared_reservation t i, State.reservation, State.reservation, staging]
  · rw [answered_eq, State.setCmd_cmd, resetWindows_cmd, cleared, State.setCmd_cmd, windowsCleared_cmd]
    by_cases run : s.cmd.long.state = .running <;> simp [run]
  · refine has_of_or (by decide) ⟨k, s.ev.devicePending, pend.trans ?_⟩
    rw [if_pos run]
  · show t.resetWindows.ev.devicePending &&& _ = _
    rw [pend, BitVec.or_assoc, or_and_of_left]
  · exact wm.trans (by rw [← ht]; rfl)
  · exact dm.trans (by rw [← ht]; rfl)
  · exact eng.trans (by rw [← ht]; rfl)
  · exact wait.trans (by rw [← ht]; rfl)
  · show if _ then t.resetWindows.link = _ else t.resetWindows.link = _ ∧ t.resetWindows.arb = _
    rw [link, arb, probeEnded]
    by_cases h : s.runsLong .attach = true ∧ s.link.state = .probing
    · rw [if_pos h, if_pos h]; rfl
    · rw [if_neg h, if_neg h]; exact ⟨rfl, rfl⟩
  · exact mode
  · exact count
  · exact length
  · exact interval
  · exact transmitter

end Sys2Proof.Proofs
end

section
/-! SUPPORT. ABORT (R161): obligation O23. -/
namespace Sys2Proof.Proofs
open Sys2Proof.Machine Sys2Proof.Safety

/-! ### What a step that ends one window's queue leaves of the others -/

/-- What a change of one window and its queue keeps, the attempt after it keeps. -/
theorem othersKept_of {s h t : State} {w : WinId} (others : ∀ v, v ≠ w → h.win v = s.win v)
    (slots : ∀ i, i ∉ (s.win w).queue → h.slot i = s.slot i ∧ h.reservation i = s.reservation i)
    (eng : h.eng = s.eng) (wm : h.ev.windowMask = s.ev.windowMask) (dm : h.ev.deviceMask = s.ev.deviceMask)
    (wait : h.acc.waitLimit = s.acc.waitLimit) (keeps : AttemptKeeps h t) : OthersKept s t w := by
  obtain ⟨kwin, kslot, keng, -, -, kwm, kdm, -, -, -, kwait, -⟩ := keeps
  refine ⟨fun v hv => ?_, fun i hi busy => ?_, keng.trans eng, kwm.trans wm, kdm.trans dm, kwait.trans wait⟩
  · rw [← others v hv]; exact kwin v
  · obtain ⟨hs, hr⟩ := slots i hi
    obtain ⟨ks, kr⟩ := kslot i (by rw [hs]; exact busy)
    exact ⟨ks.trans hs, kr.trans hr⟩

/-! ### The flush mark (R64) -/

section
variable (s : State)

/-- A flush mark is removed once or more often with one effect. -/
theorem foldl_unmark_slot (l : List SlotId) (i : SlotId) :
    (l.foldl (fun s i => s.modSlot i fun t => { t with flushMark := false }) s).slot i =
      if i ∈ l then (s.slot i).map fun t => { t with flushMark := false } else s.slot i := by
  induction l generalizing s with
  | nil => simp
  | cons j l ih =>
    rw [List.foldl_cons, ih]
    by_cases h : i = j
    · subst h
      cases hs : s.slot i <;> by_cases hl : i ∈ l <;> simp [State.modSlot, hs, hl]
    · simp [State.modSlot, State.slot_setSlot, h]

theorem unmarkFlush_slot (w : WinId) (i : SlotId) : (s.unmarkFlush w).slot i =
    if i ∈ (s.win w).queue then (s.slot i).map fun t => { t with flushMark := false } else s.slot i :=
  foldl_unmark_slot s _ i

theorem unmarkFlush_frame (w : WinId) : s.unmarkFlush w = { s with slots := (s.unmarkFlush w).slots } := by
  unfold State.unmarkFlush
  generalize (s.win w).queue = l
  induction l generalizing s with
  | nil => rfl
  | cons i l ih => rw [List.foldl_cons, ih]; rfl

/-! ### The owner of the command that ends -/

/-- The part once the running command is ABORTED (R161). -/
def aborted : State :=
  State.raiseDevice { s with cmd := { receiver := .idle, result := s.cmd.result
                                      long := { s.cmd.long with state := .aborted, detail := .abort } } } .commandDone

theorem aborted_runsFor (w : WinId) : (aborted s).runsFor w = false := by simp [State.runsFor, aborted, State.raiseDevice]

theorem aborted_ev : (aborted s).ev = { s.ev with
    devicePending := s.ev.devicePending ||| DeviceKind.commandDone.bit, attn := (aborted s).attnLevel } := rfl

/-- Of the blocks that no effect of ABORT writes, and COMMAND_DONE, whatever command ran. -/
theorem abortOwner_rest : (aborted s).abortOwner.cmd = (aborted s).cmd ∧ (aborted s).abortOwner.eng = s.eng ∧
    (aborted s).abortOwner.ev.devicePending = s.ev.devicePending ||| DeviceKind.commandDone.bit := by
  have pend : (aborted s).ev.devicePending = s.ev.devicePending ||| DeviceKind.commandDone.bit := rfl
  have eng : (aborted s).eng = s.eng := rfl
  have runs := aborted_runsFor s
  generalize aborted s = t at *
  unfold State.abortOwner
  split
  · next w _ _ =>
    split
    · rw [State.haltWindow_cmd, State.haltWindow_eng, State.haltWindow_ev, runs w]
      exact ⟨rfl, eng, pend⟩
    · exact ⟨rfl, eng, pend⟩
  · unfold State.endProbe; split <;> exact ⟨rfl, eng, pend⟩
  · rw [unmarkFlush_frame]; exact ⟨rfl, eng, pend⟩
  · exact ⟨rfl, eng, pend⟩

theorem attemptSince_cmd (t old : State) : (t.attemptSince old).cmd = t.cmd := by
  obtain ⟨-, -, -, -, cmd, -⟩ := AttemptKeeps.attemptSince t old
  exact cmd

/-- ABORT of a running command: its record, its owner's effect and the attempt where that has changed a window. -/
theorem exec_abort (q : Byte) (run : s.cmd.long.state = .running) : exec (.abort q) s =
    .next (answered ((aborted s).abortOwner.attemptSince s) ⟨q, 0x50, .done, .absent, []⟩) := by
  obtain ⟨cmd, -⟩ := abortOwner_rest s
  have judged : judgeAbort (s.setCmd { s.cmd with receiver := .idle }) =
      .done ((aborted s).abortOwner.attemptSince s) [] := by
    unfold judgeAbort
    rw [if_neg (by simpa using run), State.completeLong_running _ (by exact run)]
    rfl
  show Host.Outcome.next (s.command q 0x50 judgeAbort) = _
  rw [command_of_done judged (by rw [attemptSince_cmd, cmd]; rfl)]

/-- ABORT of an ATTACH takes the link out of PROBING (R140). -/
theorem abortOwner_attach (code : s.cmd.long.code = some .attach) (probing : s.link.state = .probing) :
    (aborted s).abortOwner = detached (aborted s) := by
  have code : (aborted s).cmd.long.code = some .attach := code
  have probing : (aborted s).link.state = .probing := probing
  generalize aborted s = t at *
  unfold State.abortOwner
  rw [code]
  exact if_pos probing

theorem abortOwner_flush {w : WinId} (code : s.cmd.long.code = some .flush) (window : s.cmd.long.window = some w) :
    (aborted s).abortOwner = (aborted s).unmarkFlush w := by
  have code : (aborted s).cmd.long.code = some .flush := code
  have window : (aborted s).cmd.long.window = some w := window
  generalize aborted s = t at *
  unfold State.abortOwner
  rw [code, window]

theorem abortOwner_open {w : WinId} (code : s.cmd.long.code = some .openWindow) (window : s.cmd.long.window = some w)
    (syncing : (s.win w).state = .syncing) : (aborted s).abortOwner = (aborted s).haltWindow w .aborted none none := by
  have code : (aborted s).cmd.long.code = some .openWindow := code
  have window : (aborted s).cmd.long.window = some w := window
  have syncing : ((aborted s).win w).state = .syncing := syncing
  generalize aborted s = t at *
  unfold State.abortOwner
  rw [code, window]
  exact if_pos syncing

end

/-- The event unit of a part that has gained COMMAND_DONE alone. -/
theorem ev_of_aborted {s t : State} (hw : ∀ v, (t.win v).pending = (s.win v).pending) (ev : t.ev = (aborted s).ev) :
    t.ev = { s.ev with devicePending := s.ev.devicePending ||| DeviceKind.commandDone.bit, attn := t.attnLevel } := by
  have level : t.attnLevel = (aborted s).attnLevel := State.attnLevel_congr hw (by rw [ev]) (by rw [ev]) (by rw [ev])
  rw [ev, level]
  exact aborted_ev s

/-- A window without a queue halts with no transfer in its fault record and nothing counted (R116). -/
theorem haltedRecord_of_empty {s : State} {w : WinId} (h : (s.win w).queue = []) (c : FaultCause) :
    haltedRecord s w c none none = { s.win w with
      state := .halted, exchange := none, fault := some ⟨c, none, none, 0⟩
      pending := (s.win w).pending ||| WindowKind.fault.bit } := by
  simp [haltedRecord, h, State.transfersOf, discardedOf, faultTransferOf, failedCounters]

/-- The window and the other blocks after the halt of a SYNCING window whose queue is empty, by an ABORT (R20, R161). -/
theorem haltWindow_of_empty {t : State} {w : WinId} (empty : (t.win w).queue = []) (runs : t.runsFor w = false)
    (c : FaultCause) :
    (t.haltWindow w c none none).slots = t.slots ∧ (t.haltWindow w c none none).staging = t.staging ∧
      (t.haltWindow w c none none).acc = t.acc ∧ (t.haltWindow w c none none).out = t.out ∧
      (t.haltWindow w c none none).ev = { t.ev with attn := (t.haltWindow w c none none).attnLevel } := by
  refine ⟨State.slots_eq_iff.mpr fun i => ?_, State.staging_eq_iff.mpr fun i => ?_, ?_, ?_, ?_⟩
  · rw [State.haltWindow_slot, empty]; rfl
  · rw [State.haltWindow_reservation, empty]; rfl
  · rw [State.haltWindow_acc, empty, show t.transfersOf [] = [] from rfl, tagsAfter_nil]
  · rw [State.haltWindow_out, empty, show t.transfersOf [] = [] from rfl]
    simp [errorAnswers]
  · rw [State.haltWindow_ev, runs]; rfl

/-- Settles O23: the refusal, and each command's owner. -/
theorem abortOutcome : Obligations.AbortOutcome := by
  intro s q
  obtain ⟨cmd, eng, pend⟩ := abortOwner_rest s
  refine ⟨fun idle => ?_, fun run => ⟨_, exec_abort s q run, rfl, rfl, ?_, ?_, ?_, fun code probing => ?_, fun w code window => ?_,
    fun w code window syncing empty => ?_⟩⟩
  · show Host.Outcome.next (s.command q 0x50 judgeAbort) = _
    rw [s.command_refuse (by exact if_pos idle)]
  · rw [answered_eq, State.setCmd_cmd, attemptSince_cmd, cmd]; rfl
  · obtain ⟨k, hk⟩ := attemptSince_devicePending (aborted s).abortOwner s
    exact has_of_or (by decide) ⟨k, s.ev.devicePending, hk.trans (by rw [pend])⟩
  · obtain ⟨-, -, keng, -⟩ := AttemptKeeps.attemptSince (aborted s).abortOwner s
    exact keng.trans eng
  · have still : (detached (aborted s)).attemptSince s = detached (aborted s) :=
      State.attemptSince_of_still fun w => ⟨rfl, rfl⟩
    rw [abortOwner_attach s code probing, still]
    exact ⟨rfl, rfl, rfl, rfl, rfl, rfl, rfl, rfl⟩
  · have frame := unmarkFlush_frame (aborted s) w
    have slot := unmarkFlush_slot (aborted s) w
    have still : ((aborted s).unmarkFlush w).attemptSince s = (aborted s).unmarkFlush w :=
      State.attemptSince_of_still fun v => by rw [frame]; exact ⟨rfl, rfl⟩
    rw [abortOwner_flush s code window, still]
    have kept : ∀ {γ : Type} (g : State → γ) (_ : ∀ (t : State) (x : Vector (Option Transfer) 32),
        g { t with slots := x } = g t), g ((aborted s).unmarkFlush w) = g (aborted s) := fun g hg => by
      rw [frame, hg]
    exact ⟨kept State.windows fun _ _ => rfl, kept State.staging fun _ _ => rfl, kept State.link fun _ _ => rfl,
      kept State.arb fun _ _ => rfl, kept State.acc fun _ _ => rfl, kept State.out fun _ _ => rfl,
      ev_of_aborted (t := answered ((aborted s).unmarkFlush w) _) (fun v => by
        rw [← show (aborted s).win v = s.win v from rfl, ← kept (fun t => t.win v) fun _ _ => rfl]; rfl)
        (kept State.ev fun _ _ => rfl), slot⟩
  · have runs := aborted_runsFor s w
    have win : ∀ v, (aborted s).win v = s.win v := fun _ => rfl
    have blocks : (aborted s).slots = s.slots ∧ (aborted s).staging = s.staging ∧ (aborted s).arb = s.arb ∧
      (aborted s).acc = s.acc ∧ (aborted s).out = s.out ∧ (aborted s).link = s.link := ⟨rfl, rfl, rfl, rfl, rfl, rfl⟩
    have ev := aborted_ev s
    rw [abortOwner_open s code window syncing] at eng ⊢
    generalize aborted s = a at *
    obtain ⟨aSlots, aStaging, aArb, aAcc, aOut, aLink⟩ := blocks
    obtain ⟨slots, staging, acc, out, hEv⟩ := haltWindow_of_empty (by rw [win, empty]) runs .aborted
    have halted : (a.haltWindow w .aborted none none).win w = haltedRecord a w .aborted none none := by
      rw [State.haltWindow_win, if_pos rfl]
    have hLink := a.haltWindow_link w .aborted none none
    have hArb := a.haltWindow_arb w .aborted none none
    have others : ∀ v, v ≠ w → (a.haltWindow w .aborted none none).win v = s.win v := fun v hv => by
      rw [State.haltWindow_win, if_neg hv, win]
    generalize a.haltWindow w .aborted none none = h at *
    have moved : h.attemptSince s = h.attempt :=
      State.attemptSince_of_moved (w := w) (.inl (by rw [halted, syncing]; simp [haltedRecord]))
    rw [moved]
    refine ⟨?_, fun idle => ?_, ?_, ?_⟩
    · show h.attempt.win w = _
      rw [State.attempt_win_of_not_live _ (by rw [halted]; rfl), halted, haltedRecord_of_empty (by rw [win, empty]), win]
    · rw [h.attempt_of_none (by rw [acc, aAcc, idle])]
      exact ⟨by rw [ev] at hEv; exact hEv, slots.trans aSlots, staging.trans aStaging, hArb.trans aArb, acc.trans aAcc,
        out.trans aOut⟩
    · show h.attempt.link = _
      rw [State.attempt_link, hLink, aLink]
    · show OthersKept s h.attempt w
      exact othersKept_of others (fun i _ => ⟨by rw [State.slot, State.slot, slots, aSlots],
        by rw [State.reservation, State.reservation, staging, aStaging]⟩) eng (by rw [hEv, ev]) (by rw [hEv, ev])
        (by rw [acc, aAcc]) (AttemptKeeps.attempt h)

end Sys2Proof.Proofs
end

section
/-! SUPPORT. The responses that settle an exchange (R94 to R100): the ACK of a SYNC, a NAK within the limit, and the
failures that halt the window: obligations O38 and O39. -/
namespace Sys2Proof.Proofs
open Sys2Proof.Machine Sys2Proof.Safety

/-! ### A response that settles -/

theorem windowOfField_windowField (w : WinId) : windowOfField (windowField w) = some w := by revert w; decide

section
variable {s : State} {w : WinId} {x : Exchange} {bit : Bool} {r : Response}

/-- A settling response is matched to the exchange of its window (R94). -/
theorem matchResponse_of_settles (h : Settles s w x bit r) : (heard s).matchResponse (windowField w) bit r = .settles w x := by
  obtain ⟨active, exchange, awaiting, fits, agrees⟩ := h
  have active : (heard s).link.state = .active := active
  have exchange : ((heard s).win w).exchange = some x := exchange
  unfold State.matchResponse
  simp only [windowOfField_windowField, exchange, active, fits, agrees]
  unfold Exchange.isAwaiting at awaiting
  cases hx : x.state <;> simp_all

/-- An ACK or a DATA that settles is acted on; the attempt and the choice follow (R25, R121). -/
theorem receive_choose_of_settles (h : Settles s w x bit r) (hr : (∃ m, r = .ack m) ∨ ∃ data, r = .data data) :
    s.receive (windowField w) bit r = (((heard s).takeResponse w x r).attemptSince (heard s)).choose := by
  unfold State.receive
  rw [show s.goodPacket = heard s from rfl]
  dsimp only
  rw [matchResponse_of_settles h]
  rcases hr with ⟨m, rfl⟩ | ⟨data, rfl⟩ <;> rfl

/-- A NAK or a REFUSE that settles is acted on, and the attempt follows. -/
theorem receive_attempt_of_settles (h : Settles s w x bit r) (hr : r = .nak ∨ r = .refuse) :
    s.receive (windowField w) bit r = ((heard s).takeResponse w x r).attemptSince (heard s) := by
  unfold State.receive
  rw [show s.goodPacket = heard s from rfl]
  dsimp only
  rw [matchResponse_of_settles h]
  rcases hr with rfl | rfl <;> rfl

end

theorem heard_win (s : State) (w : WinId) : (heard s).win w = s.win w := rfl

/-! ### The ACK of a SYNC and the NAK within the limit (O38) -/

/-- A window that opens has changed its state, and an attempt follows. -/
theorem attemptSince_of_state {old new : State} {w : WinId} {x : Window} (h : new.win w = x) (hx : x.state ≠ (old.win w).state) :
    new.attemptSince old = new.attempt := State.attemptSince_of_moved (w := w) (.inl (by rw [h]; exact hx))

/-- The part with the window of a SYNC opened, before the long command. -/
def syncOpened (b : State) (w : WinId) : State :=
  b.setWin w { b.win w with state := .opened, exchange := none, seqBit := false }

/-- The part with its long command DONE and COMMAND_DONE raised (R160). -/
def longDone (t : State) : State :=
  State.raiseDevice { t with cmd := { t.cmd with long := { t.cmd.long with state := .done, detail := .none } } } .commandDone

theorem syncAcknowledged_eq (b : State) (w : WinId) : b.syncAcknowledged w =
    if b.runsLong .openWindow = true ∧ b.cmd.long.window = some w then
      longDone (syncOpened b w)
    else syncOpened b w := by
  unfold State.syncAcknowledged
  dsimp only
  rw [show (b.modWin w fun x => { x with state := .opened, exchange := none, seqBit := false }) = syncOpened b w from rfl]
  by_cases hw : b.cmd.long.window = some w
  · rw [if_pos (by exact hw)]
    unfold State.completeDone
    by_cases hr : b.runsLong .openWindow = true
    · have run : (syncOpened b w).cmd.long.state = .running := runsLong_running b hr
      rw [if_pos (by exact hr), if_pos ⟨hr, hw⟩, State.completeLong_running _ run]
      rfl
    · rw [if_neg (by exact hr), if_neg (by tauto)]
  · rw [if_neg (by exact hw), if_neg (by tauto)]

/-- A NAK counts in NAKS and ends in BACKOFF, or fails where its time would pass the limit (R96, R111). -/
theorem takeNak_eq {b : State} {w : WinId} {x : Exchange} {d : Definition} (hd : (b.win w).defn = some d) :
    b.takeNak w x =
      if d.nakLimit ≠ 0 ∧ d.nakLimit < x.nakUsed + d.nakInterval then
        ((b.countWindow w .naks 1).modWin w fun y => { y with exchange := some { x with state := .backoff 0, strikes := 0 } }).failExchange
          w { x with state := .backoff 0, strikes := 0 } .nakLimit none
      else (b.countWindow w .naks 1).modWin w fun y =>
        { y with exchange := some { x with state := .backoff 0, strikes := 0 } } := by
  unfold State.takeNak
  rw [hd]

/-- Settles O38: the ACK of a SYNC, and a NAK within the limit. -/
theorem syncAcknowledgedAndNakBackoff : Obligations.SyncAcknowledgedAndNakBackoff := by
  refine ⟨fun s w x bit syncing body settles => ?_, fun s w x d bit settles defn within => ?_⟩
  · have act : (heard s).takeResponse w x (.ack true) = (heard s).syncAcknowledged w := by
      rw [State.takeResponse, State.takeAck, body]
    have opened : ((syncOpened (heard s) w).win w) = { s.win w with state := .opened, exchange := none, seqBit := false } :=
      State.win_setWin_self _ _ _
    have moved : ∀ t : State, t.win w = (syncOpened (heard s) w).win w → t.attemptSince (heard s) = t.attempt := fun t ht =>
      attemptSince_of_state (ht.trans opened) (by rw [heard_win, syncing]; simp)
    show Host.Outcome.next (s.receive (windowField w) bit (.ack true)) = _
    rw [receive_choose_of_settles settles (.inl ⟨true, rfl⟩), act, syncAcknowledged_eq]
    by_cases h : s.runsLong .openWindow = true ∧ s.cmd.long.window = some w
    · rw [if_pos (by exact h), if_pos (by exact h), moved (longDone (syncOpened (heard s) w)) rfl]; rfl
    · rw [if_neg (by exact h), if_neg (by exact h), moved _ rfl]; rfl
  · have act : (heard s).takeResponse w x .nak = (heard s).setWin w { s.win w with
        counters := (s.win w).counters.grow .naks 1, exchange := some { x with state := .backoff 0, strikes := 0 } } := by
      rw [State.takeResponse, takeNak_eq (by exact defn), if_neg (by omega), State.countWindow, State.modWin_modWin]
      rfl
    have still : ∀ v : Window, v.state = (s.win w).state → v.queue = (s.win w).queue →
        ((heard s).setWin w v).attemptSince (heard s) = (heard s).setWin w v := fun v hs hq => by
      refine State.attemptSince_of_still fun u => ?_
      rw [State.win_setWin]
      split
      · next e => subst e; exact ⟨hs, hq⟩
      · exact ⟨rfl, rfl⟩
    show Host.Outcome.next (s.receive (windowField w) bit .nak) = _
    rw [receive_attempt_of_settles settles (.inl rfl), act]
    exact congrArg Host.Outcome.next (still _ rfl rfl)

/-! ### The failures (O39) -/

/-- The cause a failing exchange gives its window: SYNC_FAILED for a SYNC (R13, R100). -/
def failCause (x : Exchange) (c : FaultCause) : FaultCause := if x.body = .sync then .syncFailed else c

/-- The far address of the failing packet (R116). -/
def failFarOf (x : Exchange) : Option FarAddr :=
  match x.body with
  | .sync => none
  | .write far _ _ | .read far _ _ => some far

theorem failExchange_eq (b : State) (w : WinId) (x : Exchange) (c : FaultCause) :
    b.failExchange w x c none = b.haltWindow w (failCause x c) none (failFarOf x) := by
  unfold State.failExchange failCause failFarOf
  cases x.body <;> rfl

theorem haltedRecord_withExchange (b : State) (w : WinId) (e : Option Exchange) (c : FaultCause) (k : Option StrikeKind)
    (f : Option FarAddr) :
    haltedRecord (b.modWin w fun y => { y with exchange := e }) w c k f = haltedRecord b w c k f := by
  unfold haltedRecord
  rw [State.win_modWin_self]
  rfl

/-- The failure path removes the exchange, whatever it was. -/
theorem haltWindow_withExchange (b : State) (w : WinId) (e : Option Exchange) (c : FaultCause) (k : Option StrikeKind)
    (f : Option FarAddr) :
    (b.modWin w fun y => { y with exchange := e }).haltWindow w c k f = b.haltWindow w c k f := by
  have queue : ((b.modWin w fun y => { y with exchange := e }).win w).queue = (b.win w).queue := by rw [State.win_modWin_self]
  rw [State.haltWindow_eq, State.haltWindow_eq, State.haltedPart, State.haltedPart]
  rw [haltedRecord_withExchange, queue]
  generalize haltedRecord b w c k f = record
  have answers : ∀ ts, (b.modWin w fun y => { y with exchange := e }).answerErrors ts =
      (b.answerErrors ts).modWin w fun y => { y with exchange := e } := fun ts => by
    rw [State.answerErrors, State.answerErrors, tagsAfter_congr (t := b.modWin w _) (s := b) rfl]
    rfl
  rw [show (b.modWin w fun y => { y with exchange := e }).transfersOf (b.win w).queue = b.transfersOf (b.win w).queue from rfl,
    answers, State.freeAll_modWin]
  generalize (b.answerErrors (b.transfersOf (b.win w).queue)).freeAll (b.win w).queue = t
  have last : (t.modWin w fun y => { y with exchange := e }).setWin w record = t.setWin w record :=
    State.modWin_modWin t w _ fun _ => record
  rw [last]

/-- What the attempt, and the choice that may follow it, keep of a part whose window `w` is out of service. -/
structure AfterHalt (h u : State) (w : WinId) : Prop where
  keeps : AttemptKeeps h u
  win : u.win w = h.win w
  idle : h.acc.presented = none → u.slots = h.slots ∧ u.staging = h.staging ∧ u.acc = h.acc
  devicePending : ∃ k, u.ev.devicePending = h.ev.devicePending ||| k

theorem AfterHalt.attempt {h : State} {w : WinId} (out : (h.win w).state.live = false) : AfterHalt h h.attempt w where
  keeps := .attempt h
  win := h.attempt_win_of_not_live out
  idle none := by rw [h.attempt_of_none none]; exact ⟨rfl, rfl, rfl⟩
  devicePending := h.attempt_devicePending

theorem AfterHalt.choose {h u : State} {w : WinId} (out : (h.win w).state.live = false) (a : AfterHalt h u w) :
    AfterHalt h u.choose w where
  keeps := a.keeps.trans (.choose u)
  win := by rw [u.choose_win_of_not_live (by rw [a.win]; exact out), a.win]
  idle none := by
    rw [State.choose_slots, State.choose_staging, State.choose_acc]
    exact a.idle none
  devicePending := by rw [State.choose_ev]; exact a.devicePending

/-- What a failure of the exchange leaves, from a part `p` in which NAKS may have counted (R13, R20, R63, R113 to R116). -/
structure FailureLeaves (s p u : State) (w : WinId) (x : Exchange) (c : FaultCause) : Prop where
  record : u.win w = haltedRecord p w (failCause x c) none (failFarOf x)
  answers : s.out.answers ++ errorAnswers (s.transfersOf (s.win w).queue) <+: u.out.answers
  slots : s.acc.presented = none →
    (∀ i ∈ (s.win w).queue, u.slot i = none ∧ u.reservation i = []) ∧
      u.acc.tags = tagsAfter s (s.transfersOf (s.win w).queue)
  cmd : u.cmd = if s.runsFor w = true then
      { s.cmd with long := { s.cmd.long with state := .failed, detail := .cause (failCause x c) } } else s.cmd
  done : s.runsFor w = true → u.ev.devicePending &&& DeviceKind.commandDone.bit ≠ 0
  link : u.link = { s.link with timeoutRun := 0 }
  others : OthersKept s u w

theorem failureLeaves_of {s p u : State} {w : WinId} {x : Exchange} {c : FaultCause}
    (queue : (p.win w).queue = (s.win w).queue) (others : ∀ v, v ≠ w → p.win v = s.win v)
    (rest : p = { s with windows := p.windows })
    (after : AfterHalt ((heard p).haltWindow w (failCause x c) none (failFarOf x)) u w) : FailureLeaves s p u w x c := by
  obtain ⟨keeps, win, idle, k, pend⟩ := after
  obtain ⟨-, -, -, klink, kcmd, -, -, -, -, kanswers, -⟩ := id keeps
  have bRecord : ∀ c k f, haltedRecord (heard p) w c k f = haltedRecord p w c k f := fun _ _ _ => rfl
  obtain ⟨bWin, bOut, bAcc, bCmd, bEv, bEng, bSlot, bRes, bLink⟩ : (∀ v, (heard p).win v = p.win v) ∧
      (heard p).out = s.out ∧ (heard p).acc = s.acc ∧ (heard p).cmd = s.cmd ∧ (heard p).ev = s.ev ∧ (heard p).eng = s.eng ∧
      (∀ i, (heard p).slot i = s.slot i) ∧ (∀ i, (heard p).reservation i = s.reservation i) ∧
      (heard p).link = { s.link with timeoutRun := 0 } := by
    rw [rest]; exact ⟨fun _ => rfl, rfl, rfl, rfl, rfl, rfl, fun _ => rfl, fun _ => rfl, rfl⟩
  generalize heard p = b at *
  have bQueue : (b.win w).queue = (s.win w).queue := by rw [bWin, queue]
  have bTransfers : b.transfersOf (s.win w).queue = s.transfersOf (s.win w).queue := by simp [State.transfersOf, bSlot]
  have bTags : tagsAfter b (s.transfersOf (s.win w).queue) = tagsAfter s (s.transfersOf (s.win w).queue) :=
    tagsAfter_congr (by rw [bAcc]) _
  have runs : b.runsFor w = s.runsFor w := State.runsFor_congr bCmd w
  have hWin := b.haltWindow_win w (failCause x c) none (failFarOf x)
  have hOut := b.haltWindow_out w (failCause x c) none (failFarOf x)
  have hAcc := b.haltWindow_acc w (failCause x c) none (failFarOf x)
  have hCmd := b.haltWindow_cmd w (failCause x c) none (failFarOf x)
  have hEv := b.haltWindow_ev w (failCause x c) none (failFarOf x)
  have hSlot := b.haltWindow_slot w (failCause x c) none (failFarOf x)
  have hRes := b.haltWindow_reservation w (failCause x c) none (failFarOf x)
  have hLink := b.haltWindow_link w (failCause x c) none (failFarOf x)
  have hEng := b.haltWindow_eng w (failCause x c) none (failFarOf x)
  generalize b.haltWindow w (failCause x c) none (failFarOf x) = h at *
  rw [bQueue, bTransfers] at hOut hAcc
  rw [bQueue] at hSlot hRes
  refine ⟨?_, ?_, fun free => ?_, ?_, fun run => ?_, ?_, ?_⟩
  · rw [win, hWin, if_pos rfl, bRecord]
  · rw [hOut, bOut] at kanswers; exact kanswers
  · obtain ⟨slots, staging, acc⟩ := idle (by rw [hAcc, bAcc]; exact free)
    refine ⟨fun i hi => ⟨?_, ?_⟩, ?_⟩
    · rw [State.slot, slots, ← State.slot, hSlot, if_pos hi]
    · rw [State.reservation, staging, ← State.reservation, hRes, if_pos hi]
    · rw [acc, hAcc, bTags]
  · rw [kcmd, hCmd, runs, bCmd]
  · refine has_of_or (by decide) ⟨k, s.ev.devicePending, ?_⟩
    rw [pend, hEv, runs, if_pos run, bEv]
  · rw [klink, hLink, bLink]
  · refine othersKept_of (fun v hv => ?_) (fun i hi => ?_) (hEng.trans bEng) (by rw [hEv, bEv]) (by rw [hEv, bEv])
      (by rw [hAcc, bAcc]) keeps
    · rw [hWin, if_neg hv, bWin, others v hv]
    · rw [hSlot, hRes, if_neg hi, if_neg hi, bSlot, bRes]
      exact ⟨rfl, rfl⟩

theorem haltWindow_out_of_service (b : State) (w : WinId) (c : FaultCause) (k : Option StrikeKind) (f : Option FarAddr) :
    ((b.haltWindow w c k f).win w).state.live = false := by
  rw [State.haltWindow_win, if_pos rfl]; rfl

/-- The halt of a window that was not HALTED is a change of it (R25). -/
theorem attemptSince_of_halt (b : State) {old : State} {w : WinId} (live : (old.win w).state ≠ .halted) {c : FaultCause}
    {k : Option StrikeKind} {f : Option FarAddr} :
    (b.haltWindow w c k f).attemptSince old = (b.haltWindow w c k f).attempt :=
  attemptSince_of_state (by rw [State.haltWindow_win, if_pos rfl]) live.symm

/-- Settles O39: the three failures are one halt, and what it leaves is said once. -/
theorem failureHalts : Obligations.FailureHalts := by
  intro s w x bit live
  have record : ∀ (p : State) (c : FaultCause), haltedRecord p w (failCause x c) none (failFarOf x) = (match x.body with
      | .sync => haltedRecord p w .syncFailed none none
      | .write far _ _ => haltedRecord p w c none (some far)
      | .read far _ _ => haltedRecord p w c none (some far)) := fun p c => by
    unfold failCause failFarOf
    cases x.body <;> rfl
  have path : ∀ (b : State) (c : FaultCause), b.haltWindow w (failCause x c) none (failFarOf x) = (match x.body with
      | .sync => b.haltWindow w .syncFailed none none
      | .write far _ _ | .read far _ _ => b.haltWindow w c none (some far)) := fun b c => by
    unfold failCause failFarOf
    cases x.body <;> rfl
  have leaves : ∀ {p u : State} {c : FaultCause} (f : FailureLeaves s p u w x c), u.win w = (match x.body with
      | .sync => haltedRecord p w .syncFailed none none
      | .write far _ _ => haltedRecord p w c none (some far)
      | .read far _ _ => haltedRecord p w c none (some far)) := fun f => f.record.trans (record _ _)
  refine ⟨fun settles => ?_, fun data far len settles body long => ?_, fun d settles defn limit passes => ?_⟩
  · have step : exec (.refuseReceived (windowField w) bit) s =
        .next ((heard s).haltWindow w (failCause x .refused) none (failFarOf x)).attempt := by
      show Host.Outcome.next (s.receive (windowField w) bit .refuse) = _
      rw [receive_attempt_of_settles settles (.inr rfl), State.takeResponse, State.takeRefuse, failExchange_eq,
        attemptSince_of_halt _ (by exact live)]
    obtain ⟨h1, h2, h3, h4, h5, h6, h7⟩ := failureLeaves_of rfl (fun _ _ => rfl) rfl (.attempt (haltWindow_out_of_service (heard s) w _ _ _))
    exact ⟨step.trans (congrArg (fun u : State => Host.Outcome.next u.attempt) (path _ _)), _, step, leaves ⟨h1, h2, h3, h4, h5, h6, h7⟩, h2, h3, h4, h5, h6, h7⟩
  · have step : exec (.dataReceived (windowField w) bit data) s =
        .next ((heard s).haltWindow w (failCause x .oversize) none (failFarOf x)).attempt.choose := by
      have act : (heard s).takeData w x data = (heard s).failExchange w x .oversize none := by
        rw [State.takeData, body]
        exact (if_neg (by omega)).trans (if_neg (by omega))
      show Host.Outcome.next (s.receive (windowField w) bit (.data data)) = _
      rw [receive_choose_of_settles settles (.inr ⟨data, rfl⟩), State.takeResponse, act, failExchange_eq,
        attemptSince_of_halt _ (by exact live)]
    have out := haltWindow_out_of_service (heard s) w (failCause x .oversize) none (failFarOf x)
    obtain ⟨h1, h2, h3, h4, h5, h6, h7⟩ := failureLeaves_of rfl (fun _ _ => rfl) rfl (.choose out (.attempt out))
    exact ⟨step.trans (congrArg (fun u : State => Host.Outcome.next u.attempt.choose) (path _ _)), _, step, leaves ⟨h1, h2, h3, h4, h5, h6, h7⟩, h2, h3, h4, h5, h6, h7⟩
  · have step : exec (.nakReceived (windowField w) bit) s =
        .next ((heard (s.countWindow w .naks 1)).haltWindow w (failCause x .nakLimit) none (failFarOf x)).attempt := by
      show Host.Outcome.next (s.receive (windowField w) bit .nak) = _
      rw [receive_attempt_of_settles settles (.inl rfl), State.takeResponse, takeNak_eq (by exact defn),
        if_pos ⟨limit, passes⟩, failExchange_eq, haltWindow_withExchange, attemptSince_of_halt _ (by exact live)]
      rfl
    have queue : ((s.countWindow w .naks 1).win w).queue = (s.win w).queue := by
      rw [State.countWindow, State.win_modWin_self]
    obtain ⟨h1, h2, h3, h4, h5, h6, h7⟩ := failureLeaves_of (c := .nakLimit) (p := s.countWindow w .naks 1) queue
      (fun v hv => State.win_setWin_of_ne _ hv _) rfl (.attempt (haltWindow_out_of_service _ w _ _ _))
    exact ⟨step.trans (congrArg (fun u : State => Host.Outcome.next u.attempt) (path _ _)), _, step, leaves ⟨h1, h2, h3, h4, h5, h6, h7⟩, h2, h3, h4, h5, h6, h7⟩

end Sys2Proof.Proofs
end

section
/-! SUPPORT. The done and short ends of a head (R52 to R57), as one state: obligation O37. -/
namespace Sys2Proof.Proofs
open Sys2Proof.Machine Sys2Proof.Safety

/-! ### The answer of the head (R29, R52) -/

/-- The answer that ends a head: none for a posted write (R53). -/
def endAnswers (t : Transfer) (ok : Bool) (data : List Byte) : List Answer :=
  if t.kind = .postedWrite then [] else [⟨t.tag, ok, data⟩]

theorem answerTransfer_tags {s : State} {t : Transfer} (h : t.kind ≠ .postedWrite) (ok : Bool) (data : List Byte) :
    (s.answerTransfer t ok data).acc.tags = tagsAfter s [t] := by
  have drop := congrArg (fun u => u.acc.tags) (s.dropTransfer_eq t)
  rw [State.dropTransfer, if_neg h] at drop
  exact drop

/-- A strict head is answered and its tag falls; a posted one leaves nothing. -/
theorem answerHead_eq (s : State) (t : Transfer) (ok : Bool) (data : List Byte) :
    (if t.kind = .postedWrite then s else s.answerTransfer t ok data) = { s with
      acc := { s.acc with tags := tagsAfter s [t] }
      out := { s.out with answers := s.out.answers ++ endAnswers t ok data } } := by
  by_cases h : t.kind = .postedWrite
  · have drop := s.dropTransfer_eq t
    rw [State.dropTransfer, if_pos h] at drop
    have tags : tagsAfter s [t] = s.acc.tags := (congrArg (fun u => u.acc.tags) drop).symm
    simp [endAnswers, h, tags]
  · rw [if_neg h, ← answerTransfer_tags h ok data, endAnswers, if_neg h]
    rfl

/-! ### FLUSH and CLOSE completed by the end (R19, R62) -/

section
variable (s : State)

/-- A flush mark completes a running FLUSH (R62). -/
def flushStep (marked : Bool) : State := if marked then s.completeDone .flush else s

theorem flushStep_eq (marked : Bool) : flushStep s marked =
    if (marked && s.runsLong .flush) = true then longDone s else s := by
  cases marked with
  | false => rfl
  | true =>
    unfold flushStep State.completeDone
    by_cases h : s.runsLong .flush = true
    · have run := runsLong_running s h
      rw [if_pos rfl, if_pos h, if_pos (by simpa using h), s.completeLong_running run]
      rfl
    · rw [if_pos rfl, if_neg h, if_neg (by simpa using h)]

/-- The record of a CLOSING window that closes, CLOSED pending (R19). -/
def closedRecord (x : Window) : Window :=
  { x with state := .defined, exchange := none, pending := x.pending ||| WindowKind.closed.bit }

/-- Whether the end closes the window: CLOSING with no transfer left (R19). -/
def closesNow (x : Window) : Bool := x.state == .closing && x.queue.isEmpty

theorem finishClosing_eq (w : WinId) : s.finishClosing w =
    if closesNow (s.win w) = true then
      (s.modWin w closedRecord).setAttn
    else s := by
  unfold State.finishClosing closesNow
  dsimp only
  have same : ((s.win w).state == .closing) = decide ((s.win w).state = .closing) := rfl
  rw [same]
  split
  · exact congrArg State.setAttn (State.modWin_modWin s w _ _)
  · rfl

end

/-- The part after a head's end and before the offer of the next packet. -/
def headGone (s : State) (w : WinId) (i : SlotId) (t : Transfer) (ok : Bool) (data : List Byte) : State :=
  let a := if t.kind = .postedWrite then s else s.answerTransfer t ok data
  let p := ((a.freeSlot i).modWin w fun x => { x with queue := x.queue.tail }).promote w
  (flushStep ((p.countWindow w .transfers 1).countWindow w .bytes t.bytesDone) t.flushMark).finishClosing w

theorem endHead_eq (s : State) (w : WinId) (i : SlotId) (t : Transfer) (ok : Bool) (data : List Byte) :
    s.endHead w i t ok data = (headGone s w i t ok data).offer w := rfl

/-! ### The end, block by block -/

/-- What the end of a head finds: the exchange removed, the bit toggled, SHORT_READS and the events of a short end, and of
the slots and reservations the head's own alone written. -/
structure HeadFound (b u : State) (w : WinId) (i : SlotId) (short : Nat) (kinds : WindowKinds) : Prop where
  win : u.win w = { b.win w with
    exchange := none
    seqBit := !(b.win w).seqBit
    counters := (b.win w).counters.grow .shortReads short
    pending := (b.win w).pending ||| kinds }
  others : ∀ v, v ≠ w → u.win v = b.win v
  slot : ∀ j, j ≠ i → u.slot j = b.slot j
  reservation : ∀ j, j ≠ i → u.reservation j = b.reservation j
  rest : u = { b with windows := u.windows, slots := u.slots, staging := u.staging, ev := { b.ev with attn := u.ev.attn } }
  attn : u.ev.attn = if kinds = 0 then b.ev.attn else u.attnLevel

section
variable (s : State) (w : WinId) (i : SlotId) (t : Transfer) (ok : Bool) (data : List Byte)

/-- The part with the head answered, gone and counted, and the next transfer head. -/
def headCounted : State :=
  let a := if t.kind = .postedWrite then s else s.answerTransfer t ok data
  let p := ((a.freeSlot i).modWin w fun x => { x with queue := x.queue.tail }).promote w
  (p.countWindow w .transfers 1).countWindow w .bytes t.bytesDone

theorem headGone_eq : headGone s w i t ok data = (flushStep (headCounted s w i t ok data) t.flushMark).finishClosing w := rfl

theorem headCounted_win : (headCounted s w i t ok data).win w = { s.win w with
    queue := (s.win w).queue.tail
    counters := ((s.win w).counters.grow .transfers 1).grow .bytes t.bytesDone } := by
  unfold headCounted
  rw [answerHead_eq]
  dsimp only
  rw [State.countWindow, State.countWindow, State.modWin_modWin, State.win_modWin_self, win_pop, if_pos rfl]
  rfl

theorem headCounted_win_other {v : WinId} (hv : v ≠ w) : (headCounted s w i t ok data).win v = s.win v := by
  unfold headCounted
  rw [answerHead_eq]
  dsimp only
  rw [State.countWindow, State.countWindow, State.modWin_modWin, State.win_modWin_of_ne _ hv, win_pop, if_neg hv]
  rfl

theorem headCounted_slot (j : SlotId) : (headCounted s w i t ok data).slot j =
    if j = i then none
    else if (s.win w).queue.tail.head? = some j then (s.slot j).map fun next => { next with state := .head }
    else s.slot j := by
  unfold headCounted
  rw [answerHead_eq]
  refine (State.slot_pop _ w i j).trans ?_
  by_cases h : j = i
  · rw [if_pos h, if_pos h]; simp
  · rw [if_neg h, if_neg h]; rfl

theorem headCounted_reservation (j : SlotId) : (headCounted s w i t ok data).reservation j =
    if j = i then [] else s.reservation j := by
  unfold headCounted
  rw [answerHead_eq]
  dsimp only
  rw [State.promote_frame]
  exact State.reservation_freeSlot _ i j

theorem headCounted_frame : headCounted s w i t ok data = { s with
    windows := (headCounted s w i t ok data).windows
    slots := (headCounted s w i t ok data).slots
    staging := (headCounted s w i t ok data).staging
    acc := { s.acc with tags := tagsAfter s [t] }
    out := { s.out with answers := s.out.answers ++ endAnswers t ok data } } := by
  unfold headCounted
  rw [answerHead_eq]
  unfold State.promote
  dsimp only
  split <;> rfl

end

/-! ### The end as one state -/

section
variable (b : State) (w : WinId) (i : SlotId) (t : Transfer) (answers : List Answer) (bytes short : Nat)
  (kinds : WindowKinds)

/-- Whether the end of its head closes the window, before the transfer has left (R19). -/
def endCloses (x : Window) : Bool := x.state == .closing && x.queue.tail.isEmpty

/-- The record of the window after the end of its head (R19, R50, R57). -/
def endedRecord (x : Window) : Window :=
  { x with
    state := if endCloses x then .defined else x.state
    queue := x.queue.tail
    exchange := none
    seqBit := !x.seqBit
    counters := ((x.counters.grow .shortReads short).grow .transfers 1).grow .bytes bytes
    pending := x.pending ||| kinds ||| (if endCloses x then WindowKind.closed.bit else 0) }

theorem headEnded_windows : (headEnded b w i t answers bytes short kinds).windows =
    (b.setWin w (endedRecord bytes short kinds (b.win w))).windows := by
  unfold headEnded
  dsimp only
  split <;> rfl

theorem headEnded_win (v : WinId) : (headEnded b w i t answers bytes short kinds).win v =
    if v = w then endedRecord bytes short kinds (b.win w) else b.win v := by
  rw [State.win, headEnded_windows, ← State.win, State.win_setWin]

theorem headEnded_slot (j : SlotId) : (headEnded b w i t answers bytes short kinds).slot j =
    if j = i then none
    else if (b.win w).queue.tail.head? = some j then (b.slot j).map fun next => { next with state := .head }
    else b.slot j := by
  unfold headEnded
  dsimp only
  split <;> exact Vector.getElem_ofFn _

theorem headEnded_reservation (j : SlotId) : (headEnded b w i t answers bytes short kinds).reservation j =
    if j = i then [] else b.reservation j := by
  unfold headEnded
  dsimp only
  split <;> exact Vector.getElem_ofFn _

/-- Whether the end completes a FLUSH (R62). -/
def endFlushes (b : State) (t : Transfer) : Bool := t.flushMark && b.runsLong .flush

theorem headEnded_frame : headEnded b w i t answers bytes short kinds = { b with
    windows := (headEnded b w i t answers bytes short kinds).windows
    slots := (headEnded b w i t answers bytes short kinds).slots
    staging := (headEnded b w i t answers bytes short kinds).staging
    acc := { b.acc with tags := tagsAfter b [t] }
    out := { b.out with answers := b.out.answers ++ answers }
    cmd := if endFlushes b t then { b.cmd with long := { b.cmd.long with state := .done, detail := .none } } else b.cmd
    ev := { b.ev with
      devicePending := if endFlushes b t then b.ev.devicePending ||| DeviceKind.commandDone.bit else b.ev.devicePending
      attn := if kinds = 0 ∧ endCloses (b.win w) = false ∧ endFlushes b t = false then b.ev.attn
        else (headEnded b w i t answers bytes short kinds).attnLevel } } := by
  by_cases h : kinds = 0 ∧ endCloses (b.win w) = false ∧ endFlushes b t = false
  · rw [if_pos h]
    unfold headEnded
    dsimp only
    rw [if_pos (by exact h)]
    rfl
  · rw [if_neg h]
    unfold headEnded
    dsimp only
    rw [if_neg (by exact h)]
    rfl

end

/-- FLUSH completed where `flushes`, and then the window closed where `closes` (R19, R62). -/
def endCompleted (c : State) (w : WinId) (flushes closes : Bool) : State :=
  let f := if flushes then longDone c else c
  if closes then (f.modWin w closedRecord).setAttn else f

section
variable (c : State) (w : WinId) (flushes closes : Bool)

theorem endCompleted_win (v : WinId) : (endCompleted c w flushes closes).win v =
    if v = w ∧ closes = true then closedRecord (c.win w) else c.win v := by
  have modified : ∀ f : State, (f.modWin w closedRecord).setAttn.win v =
      if v = w then closedRecord (f.win w) else f.win v := fun f => State.win_modWin f w v _
  have done : (longDone c).win = c.win := rfl
  cases closes <;> cases flushes <;> simp [endCompleted, modified, done]

theorem endCompleted_frame : endCompleted c w flushes closes = { c with
    windows := (endCompleted c w flushes closes).windows
    cmd := if flushes then { c.cmd with long := { c.cmd.long with state := .done, detail := .none } } else c.cmd
    ev := { c.ev with
      devicePending := if flushes then c.ev.devicePending ||| DeviceKind.commandDone.bit else c.ev.devicePending
      attn := if flushes = false ∧ closes = false then c.ev.attn else (endCompleted c w flushes closes).attnLevel } } := by
  cases flushes <;> cases closes <;> rfl

end

/-- The end of a head, from what it finds, is the ended part (R52, R57). -/
theorem headGone_eq_headEnded {b u : State} {w : WinId} {i : SlotId} {short : Nat} {kinds : WindowKinds}
    (f : HeadFound b u w i short kinds) (t : Transfer) (ok : Bool) (data : List Byte) :
    headGone u w i t ok data = headEnded b w i t (endAnswers t ok data) t.bytesDone short kinds := by
  have cWin := headCounted_win u w i t ok data
  have cOther := fun {v : WinId} (hv : v ≠ w) => headCounted_win_other u w i t ok data hv
  have cSlot := headCounted_slot u w i t ok data
  have cRes := headCounted_reservation u w i t ok data
  have cFrame := headCounted_frame u w i t ok data
  have gone : headGone u w i t ok data = endCompleted (headCounted u w i t ok data) w (endFlushes b t) (endCloses (b.win w)) := by
    have runs : (headCounted u w i t ok data).runsLong .flush = b.runsLong .flush :=
      runsLong_congr (by rw [cFrame, f.rest]) _
    have closes : closesNow ((headCounted u w i t ok data).win w) = endCloses (b.win w) := by
      rw [cWin, f.win]; rfl
    rw [headGone_eq, flushStep_eq, finishClosing_eq, runs]
    generalize headCounted u w i t ok data = c at *
    unfold endCompleted endFlushes
    by_cases h : (t.flushMark && b.runsLong .flush) = true
    · rw [if_pos h, show (longDone c).win w = c.win w from rfl, closes]
    · rw [if_neg h, closes]
  rw [gone]
  generalize headCounted u w i t ok data = c at *
  have gWin := endCompleted_win c w (endFlushes b t) (endCloses (b.win w))
  have gFrame := endCompleted_frame c w (endFlushes b t) (endCloses (b.win w))
  have eWin := headEnded_win b w i t (endAnswers t ok data) t.bytesDone short kinds
  have eSlot := headEnded_slot b w i t (endAnswers t ok data) t.bytesDone short kinds
  have eRes := headEnded_reservation b w i t (endAnswers t ok data) t.bytesDone short kinds
  have eFrame := headEnded_frame b w i t (endAnswers t ok data) t.bytesDone short kinds
  have gSlots : (endCompleted c w (endFlushes b t) (endCloses (b.win w))).slots = c.slots := by rw [gFrame]
  have gStaging : (endCompleted c w (endFlushes b t) (endCloses (b.win w))).staging = c.staging := by rw [gFrame]
  generalize endCompleted c w (endFlushes b t) (endCloses (b.win w)) = g at *
  generalize headEnded b w i t (endAnswers t ok data) t.bytesDone short kinds = e at *
  have win : ∀ v, g.win v = e.win v := fun v => by
    rw [gWin, eWin]
    by_cases hv : v = w
    · subst hv
      rw [cWin, f.win]
      simp only [endedRecord, closedRecord]
      cases endCloses (b.win v) <;> simp
    · rw [if_neg (fun h => hv h.1), if_neg hv, cOther hv, f.others v hv]
  have uBlocks : u.acc = b.acc ∧ u.out = b.out ∧ u.cmd = b.cmd ∧ u.ev = { b.ev with attn := u.ev.attn } := by
    rw [f.rest]; exact ⟨rfl, rfl, rfl, rfl⟩
  obtain ⟨uAcc, uOut, uCmd, uEv⟩ := uBlocks
  have cEv : c.ev = u.ev := by rw [cFrame]
  have gEv := congrArg State.ev gFrame
  have eEv := congrArg State.ev eFrame
  have pend : g.ev.devicePending = e.ev.devicePending := by rw [gEv, eEv, cEv, uEv]
  have wm : g.ev.windowMask = e.ev.windowMask := by rw [gEv, eEv, cEv, uEv]
  have dm : g.ev.deviceMask = e.ev.deviceMask := by rw [gEv, eEv, cEv, uEv]
  have counters : g.ev.counters = e.ev.counters := by rw [gEv, eEv, cEv, uEv]
  have level : g.attnLevel = e.attnLevel := State.attnLevel_congr (fun v => by rw [win]) wm pend dm
  have attn : g.ev.attn = e.ev.attn := by
    by_cases quiet : endFlushes b t = false ∧ endCloses (b.win w) = false
    · have gAttn : g.ev.attn = u.ev.attn := by rw [gEv, ← cEv]; exact if_pos quiet
      by_cases none : kinds = 0
      · rw [gAttn, f.attn, if_pos none, eEv]
        exact (if_pos ⟨none, quiet.2, quiet.1⟩).symm
      · have uLevel : g.attnLevel = u.attnLevel := by
          refine State.attnLevel_congr (fun v => ?_) (by rw [gEv, cEv]) (by rw [gEv, cEv]; exact if_neg (by simp [quiet.1]))
            (by rw [gEv, cEv])
          rw [gWin, if_neg (by simp [quiet.2])]
          by_cases hv : v = w
          · rw [hv, cWin]
          · rw [cOther hv]
        rw [gAttn, f.attn, if_neg none, ← uLevel, level, eEv]
        exact (if_neg fun h => none h.1).symm
    · rw [gEv, eEv]
      exact (if_neg quiet).trans (level.trans (if_neg fun h => quiet ⟨h.2.2, h.2.1⟩).symm)
  refine State.ext_blocks win (fun j => ?_) (fun j => ?_) ?_ ?_ ?_ ?_ ?_ ?_ ?_ ?_ ?_
  · rw [State.slot, gSlots, ← State.slot, cSlot, eSlot, f.win]
    by_cases h : j = i
    · rw [if_pos h, if_pos h]
    · rw [if_neg h, if_neg h, f.slot j h]
  · rw [State.reservation, gStaging, ← State.reservation, cRes, eRes]
    by_cases h : j = i
    · rw [if_pos h, if_pos h]
    · rw [if_neg h, if_neg h, f.reservation j h]
  · rw [gFrame, eFrame, cFrame]
    dsimp only
    rw [tagsAfter_congr (t := u) (s := b) (by rw [uAcc]), uAcc]
  · rw [gFrame, eFrame, cFrame, f.rest]
  · rw [gFrame, eFrame, cFrame, f.rest]
  · rw [gFrame, eFrame, cFrame, f.rest]
  · rw [gFrame, eFrame, cFrame]
    dsimp only
    rw [uCmd]
  · exact eventUnit_ext pend wm dm counters attn
  · rw [gFrame, eFrame, cFrame]
    dsimp only
    rw [uOut]
  · rw [gFrame, eFrame, cFrame, f.rest]
  · rw [gFrame, eFrame, cFrame, f.rest]

/-! ### What the end of a head finds -/

section
variable {b u : State} {w : WinId} {i : SlotId} {n : Nat} {kinds : WindowKinds}

/-- The exchange removed and the bit toggled (R50, R89). -/
theorem HeadFound.settled : HeadFound b (b.settleExchange w) w i 0 0 where
  win := by simp [State.settleExchange, State.win_modWin_self]
  others v hv := State.win_modWin_of_ne b hv _
  slot _ _ := rfl
  reservation _ _ := rfl
  rest := rfl
  attn := rfl

theorem HeadFound.setSlot (f : HeadFound b u w i n kinds) (o : Option Transfer) :
    HeadFound b (u.setSlot i o) w i n kinds where
  win := f.win
  others := f.others
  slot j hj := by rw [State.slot_setSlot, if_neg hj, f.slot j hj]
  reservation := f.reservation
  rest := by rw [f.rest]; rfl
  attn := f.attn

theorem HeadFound.setReservation (f : HeadFound b u w i n kinds) (r : List Byte) :
    HeadFound b (u.setReservation i r) w i n kinds where
  win := f.win
  others := f.others
  slot := f.slot
  reservation j hj := by rw [State.reservation_setReservation, if_neg hj, f.reservation j hj]
  rest := by rw [f.rest]; rfl
  attn := f.attn

/-- A short end counts in SHORT_READS (R57). -/
theorem HeadFound.shortRead (f : HeadFound b u w i 0 0) : HeadFound b (u.countWindow w .shortReads 1) w i 1 0 where
  win := by simp [State.countWindow, f.win]
  others v hv := by rw [State.countWindow, State.win_modWin_of_ne _ hv, f.others v hv]
  slot := f.slot
  reservation := f.reservation
  rest := by rw [f.rest]; rfl
  attn := by rw [if_pos rfl]; exact f.attn

/-- Under FILL it raises SHORT (R55). -/
theorem HeadFound.raise (f : HeadFound b u w i n 0) :
    HeadFound b (u.raiseWindow w .short) w i n WindowKind.short.bit where
  win := by
    rw [State.win_raiseWindow, if_pos rfl, f.win]
    simp
  others v hv := by rw [State.win_raiseWindow, if_neg hv, f.others v hv]
  slot := f.slot
  reservation := f.reservation
  rest := by rw [f.rest]; rfl
  attn := by rw [if_neg (by decide)]; rfl

/-- The bytes done of the head say nothing of its end. -/
theorem headEnded_withBytes (b : State) (w : WinId) (i : SlotId) (t : Transfer) (n : Nat) (answers : List Answer)
    (bytes short : Nat) (kinds : WindowKinds) :
    headEnded b w i { t with bytesDone := n } answers bytes short kinds = headEnded b w i t answers bytes short kinds := by
  have tags : tagsAfter b [{ t with bytesDone := n }] = tagsAfter b [t] := by
    have counts : ∀ g, strictCount [{ t with bytesDone := n }] g = strictCount [t] g := fun g => by
      simp only [strictCount, List.filter_cons, List.filter_nil]
      split <;> rfl
    simp only [tagsAfter_eq, counts]
  unfold headEnded
  rw [tags]

/-- The end of a head with its bytes done as they are now. -/
theorem endHead_of_found (f : HeadFound b u w i n kinds) (t : Transfer) (done : Nat) (ok : Bool) (data : List Byte) :
    u.endHead w i { t with bytesDone := done } ok data = (headEnded b w i t (endAnswers t ok data) done n kinds).offer w := by
  rw [endHead_eq, headGone_eq_headEnded f, headEnded_withBytes]
  rfl

end

/-- The transfer has left the queue, and an attempt follows (R25). -/
theorem attemptSince_of_ended {s : State} {w : WinId} {i : SlotId} {t u : Transfer} (head : s.headOf w = some (i, t))
    (answers : List Answer) (bytes short : Nat) (kinds : WindowKinds) :
    ((headEnded (heard s) w i u answers bytes short kinds).offer w).attemptSince (heard s) =
      ((headEnded (heard s) w i u answers bytes short kinds).offer w).attempt := by
  refine State.attemptSince_of_moved (w := w) (.inr ?_)
  rw [State.offer_win, if_pos rfl, headEnded_win, if_pos rfl, heard_win]
  show (s.win w).queue.tail ≠ (s.win w).queue
  obtain ⟨front, -⟩ := State.headOf_some head
  cases queue : (s.win w).queue with
  | nil => rw [queue] at front; simp at front
  | cons j q => simp

/-! ### The three ends of a head (O37) -/

section
variable {b : State} {w : WinId} {i : SlotId} {t : Transfer}

theorem headOf_settleExchange (h : b.headOf w = some (i, t)) : (b.settleExchange w).headOf w = some (i, t) := by
  unfold State.headOf at h ⊢
  rw [State.settleExchange_win_self]
  exact h

/-- The last packet's success ends the head done (R50, R52). -/
theorem packetSucceeds_done (h : b.headOf w = some (i, t)) {len : Nat} (all : t.bytesDone + len = t.size) :
    b.packetSucceeds w len =
      ((b.settleExchange w).setSlot i (some { t with bytesDone := t.bytesDone + len })).endHead w i
        { t with bytesDone := t.bytesDone + len } true (if t.kind = .read then b.reservation i else []) := by
  unfold State.packetSucceeds
  dsimp only
  rw [headOf_settleExchange h]
  exact if_pos all

theorem placeRead_eq (h : b.headOf w = some (i, t)) (data : List Byte) :
    b.placeRead w data = b.setReservation i ((b.reservation i).take t.bytesDone ++ data) := by
  unfold State.placeRead
  rw [h]
  rfl

theorem fillByte_counted (b : State) (w : WinId) (i : SlotId) (o : Option Transfer) :
    ((((b.settleExchange w).setSlot i o).countWindow w .shortReads 1).win w).fillByte = (b.win w).fillByte := by
  rw [State.countWindow, State.win_modWin_self]
  show (((b.settleExchange w).win w)).fillByte = _
  rw [State.settleExchange_win_self]
  rfl

/-- Under FILL the rest of the reservation is filled, the answer is OK and SHORT is raised (R55, R78). -/
theorem endShort_fill (h : b.headOf w = some (i, t)) {d : Definition} {fill : Byte} (hd : (b.win w).defn = some d)
    (hf : d.shortPolicy = .fill fill) (n : Nat) {r : List Byte}
    (hr : r = (b.reservation i).take (t.bytesDone + n) ++ List.replicate (t.size - (t.bytesDone + n)) fill) :
    b.endShort w n =
      (((((b.settleExchange w).setSlot i (some { t with bytesDone := t.bytesDone + n })).countWindow w .shortReads
        1).setReservation i r).raiseWindow w .short).endHead w i { t with bytesDone := t.bytesDone + n } true r := by
  have fb : (b.win w).fillByte = some fill := by simp [Window.fillByte, hd, hf]
  unfold State.endShort
  dsimp only
  rw [headOf_settleExchange h]
  dsimp only
  rw [fillByte_counted, fb]
  dsimp only
  rw [State.reservation_setReservation, if_pos rfl, hr]
  rfl

/-- Under ERROR the answer is ERROR with no data (R56). -/
theorem endShort_error (h : b.headOf w = some (i, t)) {d : Definition} (hd : (b.win w).defn = some d)
    (hf : d.shortPolicy = .error) (n : Nat) :
    b.endShort w n =
      (((b.settleExchange w).setSlot i (some { t with bytesDone := t.bytesDone + n })).countWindow w .shortReads
        1).endHead w i { t with bytesDone := t.bytesDone + n } false [] := by
  have fb : (b.win w).fillByte = none := by simp [Window.fillByte, hd, hf]
  unfold State.endShort
  dsimp only
  rw [headOf_settleExchange h]
  dsimp only
  rw [fillByte_counted, fb]

end

/-- Settles O37: each end is the one ended part, and the attempt and the choice follow. -/
theorem headEnds : Obligations.HeadEnds := by
  intro s w x i t d bit far len head defn
  have head' : (heard s).headOf w = some (i, t) := head
  refine ⟨fun settles body all strict => ?_, fun data settles body read => ⟨fun full all => ?_, fun fill less policy => ?_,
    fun less policy => ?_⟩⟩
  · have act : (heard s).takeResponse w x (.ack false) =
        (headEnded (heard s) w i t (endAnswers t true []) (t.bytesDone + len) 0 0).offer w := by
      rw [State.takeResponse, State.takeAck, body]
      dsimp only
      rw [packetSucceeds_done head' all, if_neg strict]
      exact endHead_of_found (HeadFound.settled.setSlot _) t _ true []
    show Host.Outcome.next (s.receive (windowField w) bit (.ack false)) = _
    rw [receive_choose_of_settles settles (.inl ⟨false, rfl⟩), act, attemptSince_of_ended head, all]
    rfl
  all_goals
    have answers : ∀ ok bs, endAnswers t ok bs = [⟨t.tag, ok, bs⟩] := fun _ _ => if_neg (by rw [read]; decide)
    have placed := placeRead_eq head' data
    have head'' : ((heard s).setReservation i (((heard s).reservation i).take t.bytesDone ++ data)).headOf w = some (i, t) := head
    have found := fun r : List Byte => (HeadFound.settled (b := heard s) (w := w) (i := i)).setReservation r
    have received : ∀ r : List Byte, ((heard s).setReservation i r).reservation i = r := fun r => by
      rw [State.reservation_setReservation, if_pos rfl]
    show Host.Outcome.next (s.receive (windowField w) bit (.data data)) = _
    rw [receive_choose_of_settles settles (.inr ⟨data, rfl⟩), State.takeResponse, State.takeData, body]
    dsimp only
  · rw [if_pos full, placed, packetSucceeds_done head'' (by omega), received, if_pos read,
      endHead_of_found (by exact (found _).setSlot _) t, attemptSince_of_ended head, answers,
      show t.bytesDone + len = t.size by omega]
    rfl
  · rw [if_neg (by omega), if_pos less, placed,
      endShort_fill head'' (by exact defn) policy data.length (by rw [received]),
      endHead_of_found (by exact ((((found _).setSlot _).shortRead).setReservation _).raise) t,
      attemptSince_of_ended head, answers]
    rfl
  · rw [if_neg (by omega), if_pos less, placed, endShort_error head'' (by exact defn) policy data.length,
      endHead_of_found (by exact ((found _).setSlot _).shortRead) t, attemptSince_of_ended head, answers]

end Sys2Proof.Proofs
end

section
/-! SUPPORT. The acceptance point (chapter 2): the verdicts of a judged request, what a presented request comes to, and
obligations O27 to O32. -/
namespace Sys2Proof.Machine
open Sys2Proof.Safety

/-! ### The presented request -/

section
variable (s : State)

/-- The part with another presented request, or none. -/
def State.setPresented (o : Option Presented) : State := { s with acc := { s.acc with presented := o } }

/-- A request as the upstream port presents it (R24). -/
def firstPresented (r : BusRequest) : Presented := { req := r, reason := .none, waited := 0, expired := none }

@[simp] theorem State.setPresented_presented (o : Option Presented) : (s.setPresented o).acc.presented = o := rfl

@[simp] theorem State.setPresented_setPresented (o o' : Option Presented) :
    (s.setPresented o).setPresented o' = s.setPresented o' := rfl

theorem State.setPresented_self {o : Option Presented} (h : s.acc.presented = o) : s.setPresented o = s := by subst h; rfl

/-- A request is judged by the window table, the tags and the resources, whatever is presented (R25). -/
@[simp] theorem State.judge_setPresented (o : Option Presented) (r : BusRequest) : (s.setPresented o).judge r = s.judge r :=
  rfl

@[simp] theorem State.dispose_eq : s.dispose = s.setPresented none := rfl

@[simp] theorem State.waitFor_eq (p : Presented) (w : WaitReason) :
    s.waitFor p w = s.setPresented (some { p with reason := w }) := rfl

theorem State.errorAnswer_eq (g : Tag) : s.errorAnswer g = (s.setPresented none).answer ⟨g, false, []⟩ := rfl

theorem State.note_setPresented (o : Option Presented) (k : ErrorKind) :
    (s.setPresented o).note k = (s.note k).setPresented o := by cases k <;> rfl

theorem State.taken_setPresented (o : Option Presented) (r : BusRequest) (w : WinId) (i : SlotId) :
    (s.setPresented o).taken r w i = s.taken r w i := by
  have record : (s.setPresented o).win w = s.win w := rfl
  unfold State.taken
  dsimp only
  rw [record]
  split <;> rfl

/-- What a verdict comes to does not depend on the request held before. -/
theorem State.apply_setPresented (o : Option Presented) (p : Presented) (v : Verdict) :
    (s.setPresented o).apply p v = s.apply p v := by
  cases v with
  | error k => rw [State.apply, State.note_setPresented]; rfl
  | take w i => simp only [State.apply, State.take_eq, State.taken_setPresented]
  | forward => rfl
  | wait w => rfl

theorem State.taken_presented (r : BusRequest) (w : WinId) (i : SlotId) : (s.taken r w i).acc.presented = none := rfl

/-! ### Attempts by what is presented (R25) -/

variable {s} {p : Presented}

theorem State.attempt_of_fresh (h : s.acc.presented = some p) (fresh : p.expired = none) :
    s.attempt = s.apply p (s.judge p.req) := by simp only [State.attempt, h, fresh]

theorem State.attempt_of_expired {k : ErrorKind} (h : s.acc.presented = some p) (expired : p.expired = some k) :
    s.attempt = s.attemptExpired p k := by simp only [State.attempt, h, expired]

/-- A request that is presented comes to what its verdict says (R24, R25). -/
theorem exec_requestPresented {r : BusRequest} (h : s.acc.presented = none) :
    exec (.requestPresented r) s = .next (s.apply (firstPresented r) (s.judge r)) := by
  have presented : exec (.requestPresented r) s = .next (s.setPresented (some (firstPresented r))).attempt := by
    show execRequestPresented r s = _
    simp only [execRequestPresented, h]
    rfl
  rw [presented, State.attempt_of_fresh (p := (firstPresented r)) rfl rfl, State.apply_setPresented]
  rfl

/-! ### Verdicts (R26 to R32) -/

theorem State.judge_malformed {r : BusRequest} (h : s.classify r = .malformed) :
    s.judge r = s.errorVerdict r.tag .malformed := by simp only [State.judge, h]

theorem State.judge_straddle {r : BusRequest} (h : s.classify r = .straddle) :
    s.judge r = s.errorVerdict r.tag .straddle := by simp only [State.judge, h]

theorem State.judge_local {r : BusRequest} (h : s.classify r = .localMem) : s.judge r = s.judgeLocal r := by
  simp only [State.judge, h]

theorem State.judge_refused {r : BusRequest} {w : WinId} (h : s.classify r = .far w)
    (out : (s.win w).state.takes = false) : s.judge r = s.errorVerdict r.tag .refused := by
  simp [State.judge, h, out]

theorem State.judge_far {r : BusRequest} {w : WinId} (h : s.classify r = .far w)
    (takes : (s.win w).state.takes = true) : s.judge r = s.judgeFar r w := by
  simp only [State.judge, h, takes, if_true]

theorem State.errorVerdict_of_none {g : Tag} (h : (s.tagEntry g).dest = .none) (k : ErrorKind) :
    s.errorVerdict g k = .error k := if_pos h

theorem State.errorVerdict_of_ne {g : Tag} (h : (s.tagEntry g).dest ≠ .none) (k : ErrorKind) :
    s.errorVerdict g k = .wait .tag := if_neg h

/-- A local request is forwarded when its tag and the downstream count allow (R29, R32). -/
theorem State.judgeLocal_eq (r : BusRequest) :
    s.judgeLocal r =
      if (s.tagEntry r.tag).dest = .none ∨ (s.tagEntry r.tag).dest = .localMem then
        if s.acc.downstream < 16 then .forward else .wait .downstream
      else .wait .tag := by
  unfold State.judgeLocal
  cases h : (s.tagEntry r.tag).dest <;> simp [Config.maxDownstream] <;> rfl

/-- The tag permits a far request that becomes outstanding under the same window, and any under NONE (R29, R30). -/
theorem State.tagPermitsFar_iff {r : BusRequest} {w : WinId} :
    s.tagPermitsFar r w = true ↔ (s.tagEntry r.tag).dest = .none ∨
      ((s.win w).kindFor r.op ≠ .postedWrite ∧ (s.tagEntry r.tag).dest = .window w) := by
  simp [State.tagPermitsFar]

theorem Window.kindFor_defined {x : Window} {d : Definition} (h : x.defn = some d) (op : BusOp) :
    x.kindFor op = transferKind d.cls op := by simp only [Window.kindFor, h]

theorem State.lowestFree_eq_some {i : SlotId} (free : s.slot i = none) (low : ∀ j : SlotId, j < i → s.slot j ≠ none) :
    s.lowestFree = some i := by
  cases h : s.lowestFree with
  | none => exact absurd free (s.lowestFree_none h i)
  | some j =>
    obtain ⟨freeJ, lowJ⟩ := s.lowestFree_some h
    rcases lt_trichotomy i j with lt | eq | gt
    · exact absurd free (lowJ i lt)
    · rw [eq]
    · exact absurd freeJ (low j gt)

/-- No slot is FREE exactly when the search finds none (R31). -/
theorem State.lowestFree_eq_none (busy : ∀ i : SlotId, s.slot i ≠ none) : s.lowestFree = none := by
  cases h : s.lowestFree with
  | none => rfl
  | some j => exact absurd (s.lowestFree_some h).1 (busy j)

/-- A far request waits for its tag, a slot or staging, in that order, and is taken when it lacks none (R31). -/
theorem State.judgeFar_eq (r : BusRequest) (w : WinId) :
    s.judgeFar r w =
      if s.tagPermitsFar r w = true then
        match s.lowestFree with
        | none => .wait .slot
        | some i => if s.reserved w + BusOp.count r.op ≤ (s.win w).area then .take w i else .wait .staging
      else .wait .tag := by
  unfold State.judgeFar
  cases s.tagPermitsFar r w <;> rfl

end

/-- A request that has been answered, forwarded or taken is presented no more (R24). -/
theorem State.apply_presented (s : State) (p : Presented) (v : Verdict) :
    (s.apply p v).acc.presented = match v with
      | .wait r => some { p with reason := r }
      | .error _ | .take _ _ | .forward => none := by
  cases v with
  | error k => rfl
  | take w i => simp only [State.apply, State.take_eq, State.choose_acc, State.offer_acc, State.taken_presented]
  | forward => rfl
  | wait r => rfl

/-- Of two presentations of one request the verdict makes the same, but for the time waited. -/
theorem State.apply_waited (s : State) (p : Presented) (h : p.expired = none) (v : Verdict) :
    s.apply p v = (s.apply (firstPresented p.req) v).setPresented
      ((s.apply (firstPresented p.req) v).acc.presented.map fun q => { q with waited := p.waited }) := by
  cases v with
  | wait r =>
    obtain ⟨req, reason, waited, expired⟩ := p
    obtain rfl : expired = none := h
    rfl
  | error k => rw [State.setPresented_self _ (by simp [State.apply_presented])]; rfl
  | take w i => rw [State.setPresented_self _ (by simp [State.apply_presented])]; rfl
  | forward => rw [State.setPresented_self _ (by simp [State.apply_presented])]; rfl

end Sys2Proof.Machine

namespace Sys2Proof.Proofs
open Sys2Proof.Machine Sys2Proof.Safety

theorem takes_iff (x : WindowState) : x.takes = true ↔ x = .opened ∨ x = .held := by cases x <;> decide

/-- A request without a tag outstanding that is bound for an ERROR answer gets it at once (R30, R40). -/
theorem exec_requestPresented_error {s : State} {r : BusRequest} {k : ErrorKind} (h : s.acc.presented = none)
    (tag : (s.tagEntry r.tag).dest = .none) (judged : s.judge r = s.errorVerdict r.tag k) :
    exec (.requestPresented r) s = .next ((s.note k).answer ⟨r.tag, false, []⟩) := by
  rw [exec_requestPresented h, judged, State.errorVerdict_of_none tag, State.apply, State.errorAnswer_eq,
    State.setPresented_self _ (by rw [State.note_frame]; exact h)]
  rfl

/-- Settles O27: by the class of the request. -/
theorem requestAnsweredError : Obligations.RequestAnsweredError := by
  intro s r free tag
  obtain ⟨malformed, rest⟩ := (windowMatchAndClass s).2 r
  refine ⟨fun bad => ?_, fun good ne => ?_, fun w good first last out => ?_⟩
  · exact exec_requestPresented_error free tag (State.judge_malformed (malformed bad))
  · exact exec_requestPresented_error free tag (State.judge_straddle ((rest good).2.2 ne))
  · have notTakes : (s.win w).state.takes = false := by
      simpa [takes_iff, ← Bool.not_eq_true] using out
    exact exec_requestPresented_error free tag (State.judge_refused ((rest good).2.1 w first last) notTakes)

/-- Settles O28: the verdict is a taking, and its parts are the rule's. -/
theorem farRequestTaken : Obligations.FarRequestTaken := by
  intro s r w i d free far state defn tag slot room
  obtain ⟨freeSlot, low⟩ := slot
  have kind := Window.kindFor_defined defn r.op
  have judged : s.judge r = .take w i := by
    rw [State.judge_far far ((takes_iff _).mpr state), State.judgeFar_eq,
      if_pos (State.tagPermitsFar_iff.mpr (by rw [kind]; exact tag)), State.lowestFree_eq_some freeSlot low]
    exact if_pos room
  have record : (s.win w).newTransfer w r =
      { state := if (s.win w).queue = [] then .head else .queued, window := w, kind := transferKind d.cls r.op
        tag := r.tag, upAddr := r.addr, farAddr := d.farBase + (r.addr - d.base).setWidth 32
        size := BusOp.count r.op, bytesDone := 0, flushMark := false, cycleMark := false } := by
    simp [Window.newTransfer, kind, defn]
  rw [exec_requestPresented free, judged, State.apply, State.take_eq, show (firstPresented r).req = r from rfl]
  unfold State.taken
  rw [record]
  dsimp only
  obtain ⟨addr, op, g⟩ := r
  split <;> rw [State.dispose_eq, State.setPresented_self _ (by exact free)] <;> cases op <;> rfl

/-- A request that waits is presented with its reason (R25). -/
theorem exec_requestPresented_waits {s : State} {r : BusRequest} {reason : WaitReason} (h : s.acc.presented = none)
    (judged : s.judge r = .wait reason) :
    exec (.requestPresented r) s =
      .next { s with acc := { s.acc with presented := some ⟨r, reason, 0, none⟩ } } := by
  rw [exec_requestPresented h, judged]
  rfl

/-- Settles O29: by the class of the request, its tag and the resources. -/
theorem requestForwardedOrWaits : Obligations.RequestForwardedOrWaits := by
  intro s r free
  refine ⟨fun loc => ⟨fun tag => ⟨fun room => ?_, fun full => ?_⟩, fun some notLocal => ?_⟩, fun bound tag => ?_,
    fun w far out tag => ?_, fun w d far takes defn => ?_⟩
  · rw [exec_requestPresented free, State.judge_local loc, State.judgeLocal_eq, if_pos tag, if_pos room, State.apply,
      State.forward, State.dispose_eq, State.setPresented_self _ (by exact free)]
    rfl
  · refine exec_requestPresented_waits free ?_
    rw [State.judge_local loc, State.judgeLocal_eq, if_pos tag, if_neg (by omega)]
  · refine exec_requestPresented_waits free ?_
    rw [State.judge_local loc, State.judgeLocal_eq, if_neg (by tauto)]
  · refine exec_requestPresented_waits free ?_
    rcases bound with bad | straddle
    · rw [State.judge_malformed bad, State.errorVerdict_of_ne tag]
    · rw [State.judge_straddle straddle, State.errorVerdict_of_ne tag]
  · refine exec_requestPresented_waits free ?_
    rw [State.judge_refused far out, State.errorVerdict_of_ne tag]
  · have permits := State.tagPermitsFar_iff (s := s) (r := r) (w := w)
    rw [Window.kindFor_defined defn] at permits
    have judged := (State.judge_far far takes).trans (s.judgeFar_eq r w)
    refine ⟨fun no => ?_, fun yes busy => ?_, fun yes ⟨i, hi⟩ full => ?_⟩ <;>
      refine exec_requestPresented_waits free (judged.trans ?_)
    · rw [if_neg (mt permits.mp no)]
    · rw [if_pos (permits.mpr yes), State.lowestFree_eq_none busy]
    · rw [if_pos (permits.mpr yes)]
      cases low : s.lowestFree with
      | none => exact absurd hi (s.lowestFree_none low i)
      | some j => exact if_neg (not_le.mpr full)

/-- An attempt on an expired request is the rule's (R30, R34, R40). -/
theorem attemptExpired_eq (s : State) (p : Presented) (k : ErrorKind) (h : p.expired = some k) :
    s.attemptExpired p k = expiredAttempt s p k := by
  unfold State.attemptExpired expiredAttempt
  rw [← h]
  split
  · cases k <;> rfl
  · rfl

/-- Settles O30: the verdict of an attempt is that of a fresh presentation. -/
theorem attemptJudgesAfresh : Obligations.AttemptJudgesAfresh := by
  refine ⟨fun s free => congrArg _ (s.attempt_of_none free), fun s r held => ?_, fun s p h fresh => ?_,
    fun s p k h expired => ?_, fun s => ⟨rfl, .attempt s⟩⟩
  · obtain ⟨p, h⟩ := Option.isSome_iff_exists.mp held
    show execRequestPresented r s = _
    simp only [execRequestPresented, h]
  · have again : exec (.requestPresented p.req) (s.setPresented none) = .next (s.apply (firstPresented p.req) (s.judge p.req)) := by
      rw [exec_requestPresented rfl, State.apply_setPresented]
      rfl
    refine ⟨_, rfl, _, again, ?_⟩
    rw [State.attempt_of_fresh h fresh]
    exact s.apply_waited p fresh _
  · show Host.Outcome.next s.attempt = _
    rw [State.attempt_of_expired h expired, attemptExpired_eq s p k expired]

/-! ### The wait limit and the downstream port (R34, R39) -/

section
variable (s : State) (r : BusRequest)

/-- What the expiry counts, by the verdict of the request as it stands (R34). -/
theorem countExpiry_local {why : WaitReason} (judged : s.judge r = .wait why) (h : s.classify r = .localMem) :
    s.countExpiry r = s.countDevice .localWaitExpired 1 := by simp only [State.countExpiry, judged, h]

theorem countExpiry_far {why : WaitReason} {w : WinId} (judged : s.judge r = .wait why) (h : s.classify r = .far w)
    (takes : (s.win w).state.takes = true) :
    s.countExpiry r = (s.countWindow w .waitExpired 1).raiseWindow w .wait := by
  simp only [State.countExpiry, judged, h, takes, if_true]

/-- A request bound for an ERROR answer counts nothing at its expiry. -/
theorem countExpiry_bound (h : s.classify r = .malformed ∨ s.classify r = .straddle ∨
    ∃ w, s.classify r = .far w ∧ (s.win w).state.takes = false) : s.countExpiry r = s := by
  unfold State.countExpiry
  rcases h with h | h | ⟨w, h, out⟩
  · rw [h]; split <;> rfl
  · rw [h]; split <;> rfl
  · simp only [h, out]; split <;> rfl

end

/-! ### The passing of time seen by the acceptance point -/

section
variable (s : State) (n : Nat)

theorem elapse_state (w : WinId) : ((s.elapse n).win w).state = (s.win w).state := by rw [State.elapse_win]

theorem elapse_holder (a : Nat) : (s.elapse n).holder a = s.holder a := by
  have holds : ∀ w, ((s.elapse n).win w).holds a = (s.win w).holds a := fun w => by rw [State.elapse_win]; rfl
  simp only [State.holder, holds]

/-- Time changes no request's class (R26, R27). -/
theorem elapse_classify (r : BusRequest) : (s.elapse n).classify r = s.classify r := by
  simp only [State.classify, elapse_holder]

/-- Time changes nothing that a request is judged by (R25). -/
theorem elapse_judge (r : BusRequest) : (s.elapse n).judge r = s.judge r := by
  have far : ∀ w, (s.elapse n).judgeFar r w = s.judgeFar r w := fun w => by
    have kind : ((s.elapse n).win w).kindFor = (s.win w).kindFor := by rw [State.elapse_win]; rfl
    have permits : (s.elapse n).tagPermitsFar r w = s.tagPermitsFar r w := by simp only [State.tagPermitsFar, kind]; rfl
    have area : ((s.elapse n).win w).area = (s.win w).area := by rw [State.elapse_win]; rfl
    have reserved : (s.elapse n).reserved w = s.reserved w := by simp only [State.reserved]; rw [State.elapse_win]; rfl
    have low : (s.elapse n).lowestFree = s.lowestFree := rfl
    simp only [State.judgeFar_eq, permits, area, reserved, low]
  simp only [State.judge, elapse_classify, elapse_state, far]
  rfl

end

/-- An expired request's attempt writes its mark afresh. -/
theorem expiredAttempt_setPresented (s : State) (o : Option Presented) (p : Presented) (e : Option ErrorKind)
    (k : ErrorKind) : expiredAttempt (s.setPresented o) { p with expired := e } k = expiredAttempt s p k := by
  have tag : ∀ g, (s.setPresented o).tagEntry g = s.tagEntry g := fun _ => rfl
  unfold expiredAttempt
  dsimp only
  rw [tag]
  split
  · cases k <;> rfl
  · rfl

/-- Settles O31: the expiry, and what it counts. -/
theorem waitLimitExpires : Obligations.WaitLimitExpires := by
  intro s p h fresh limit n s' counted
  refine ⟨?_, fun why judged loc => ?_, fun why w judged far takes => ?_, fun bound => ?_, fun w far out => ?_⟩
  · have kind : s'.errorKind p.req = expiredKind s p.req := by
      show State.errorKind (s.elapse n) p.req = _
      unfold State.errorKind expiredKind
      rw [elapse_classify]
      cases s.classify p.req <;> simp only [elapse_state]
    have expires : exec .waitLimitExpiry s = .next (s'.expireWait { p with waited := p.waited + n }) := by
      show execWaitLimitExpiry s = _
      simp only [execWaitLimitExpiry, h, fresh, limit]
      rfl
    rw [expires, State.expireWait]
    dsimp only
    rw [kind, attemptExpired_eq _ _ _ rfl]
    exact congrArg _ (expiredAttempt_setPresented counted (some _) { p with waited := p.waited + n } (some _) _)
  · exact countExpiry_local _ _ ((elapse_judge s n _).trans judged) ((elapse_classify s n _).trans loc)
  · exact countExpiry_far _ _ ((elapse_judge s n _).trans judged) ((elapse_classify s n _).trans far)
      (by rw [elapse_state]; exact takes)
  · exact countExpiry_bound _ _ (by rw [elapse_classify]; tauto)
  · exact countExpiry_bound _ _ (.inr (.inr ⟨w, (elapse_classify s n _).trans far, by rw [elapse_state]; exact out⟩))

/-- Settles O32: passed back when its tag is LOCAL and a local request is outstanding, and discarded otherwise. -/
theorem downstreamResponsePassedBack : Obligations.DownstreamResponsePassedBack := by
  intro s g ok data
  refine ⟨fun loc out => ?_, fun none => ?_⟩
  · show execDownstreamResponse g ok data s = _
    have both : (s.tagEntry g).dest = .localMem ∧ s.acc.downstream ≠ 0 := ⟨loc, Nat.pos_iff_ne_zero.mp out⟩
    unfold execDownstreamResponse State.tagFalls
    rw [if_pos both, State.answer_tagEntry]
    dsimp only
    rw [loc]
    rfl
  · show execDownstreamResponse g ok data s = _
    unfold execDownstreamResponse
    rw [if_neg (by tauto)]

/-- Settles O2: each timer runs on by one microsecond, no further than its limit. -/
theorem emptyQueueLetsAMicrosecondPass : Obligations.EmptyQueueLetsAMicrosecondPass := by
  intro s empty tick
  have timer : ∀ limit e, runTimer 1 limit e = tick limit e := fun limit e => by
    show _ = if e < limit then e + 1 else e
    unfold runTimer
    split <;> omega
  have timers : ∀ limit, runTimer 1 limit = tick limit := fun limit => funext (timer limit)
  refine ⟨s.elapse 1, by simp only [step, empty], fun w => ?_, rfl, rfl, rfl, rfl, rfl, rfl, rfl, rfl, rfl, ?_, ?_⟩
  · have win : (s.elapse 1).win w = (s.win w).elapse 1 (s.link.state = .active) := by
      simp [State.elapse, State.mapWins, State.win]
    rw [win]
    obtain ⟨state, defn, pages, queue, bit, fault, pending, counters, exchange, remaining⟩ := s.win w
    cases exchange with
    | none => rfl
    | some x =>
      cases defn with
      | none => rfl
      | some d => cases hs : x.state <;> simp [Window.elapse, Machine.Exchange.elapse, hs, timer]
  · simp only [State.elapse, timers]
  · simp only [State.elapse, timers, Config.probeInterval]

end Sys2Proof.Proofs
end

section
/-! SUPPORT. The tag order table (R29) and the heads' packets (R49, R84, R105), read for proofs: what each law says of a
window's queue, and when it stays. -/
namespace Sys2Proof.Proofs
open Sys2Proof.Machine Sys2Proof.Safety

/-! ### A transfer without its marks -/

/-- A transfer but for its flush mark and its head-at-cycle-start mark. -/
def gist (t : Transfer) : Transfer := { t with flushMark := false, cycleMark := false }

/-- Two slots hold the same transfer, or none, but for its marks. -/
def SameGist (o o' : Option Transfer) : Prop := o'.map gist = o.map gist

theorem SameGist.refl (o : Option Transfer) : SameGist o o := rfl

theorem SameGist.symm {o o' : Option Transfer} (h : SameGist o o') : SameGist o' o := Eq.symm h

theorem SameGist.trans {o p q : Option Transfer} (h : SameGist o p) (k : SameGist p q) : SameGist o q := Eq.trans k h

theorem SameGist.of_eq {o o' : Option Transfer} (h : o' = o) : SameGist o o' := congrArg _ h

theorem SameGist.some {o : Option Transfer} {t : Transfer} (h : SameGist (some t) o) : ∃ u, o = Option.some u ∧ gist u = gist t :=
  Option.map_eq_some_iff.mp h

/-- What does not read the marks is the same of both slots. -/
theorem SameGist.map {α : Type} {o o' : Option Transfer} (h : SameGist o o') (f : Transfer → α)
    (hf : ∀ t, f (gist t) = f t) : o'.map f = o.map f := by
  have through : ∀ p : Option Transfer, p.map f = (p.map gist).map f := fun p => by
    rw [Option.map_map]; exact congrArg (fun g => p.map g) (funext fun t => (hf t).symm)
  rw [through o', through o, h]

theorem SameGist.core {o o' : Option Transfer} (h : SameGist o o') : o'.map core = o.map core := h.map _ fun _ => rfl

theorem packetBody_gist {t u : Transfer} (h : gist u = gist t) (n : Nat) (b : Bool) : packetBody u n b = packetBody t n b := by
  show packetBody (gist u) n b = packetBody (gist t) n b
  rw [h]

theorem progressFits_gist {t u : Transfer} (h : gist u = gist t) : progressFits u = progressFits t := by
  show progressFits (gist u) = progressFits (gist t)
  rw [h]

/-! ### What is outstanding (R29) -/

/-- Whether a slot holds a STRICT_WRITE or READ with a tag. -/
def strictAt (g : Tag) (o : Option Transfer) : Bool := o.any fun t => t.kind != .postedWrite && t.tag == g

theorem outstanding_eq (s : State) (w : WinId) (g : Tag) :
    outstanding s w g = (s.win w).queue.countP fun i => strictAt g (s.slot i) := by
  unfold outstanding State.transfersOf
  induction (s.win w).queue with
  | nil => rfl
  | cons i q ih =>
    rw [List.countP_cons, ← ih]
    cases h : s.slot i with
    | none => simp [strictAt, h]
    | some t => simp [strictAt, h, List.filter_cons]; split <;> simp

theorem SameGist.strictAt {o o' : Option Transfer} (h : SameGist o o') (g : Tag) : strictAt g o' = strictAt g o := by
  have through : ∀ p : Option Transfer, Proofs.strictAt g p = (p.map fun t => t.kind != .postedWrite && t.tag == g).getD false := by
    intro p; cases p <;> rfl
  rw [through, through, h.map _ fun _ => rfl]

/-- A queue that stays, its slots' tags with it, has the same outstanding. -/
theorem outstanding_of_strictAt {s t : State} {w : WinId} {g : Tag} (queue : (t.win w).queue = (s.win w).queue)
    (slots : ∀ i ∈ (s.win w).queue, strictAt g (t.slot i) = strictAt g (s.slot i)) :
    outstanding t w g = outstanding s w g := by
  rw [outstanding_eq, outstanding_eq, queue]
  exact List.countP_congr fun i hi => by rw [slots i hi]

theorem outstanding_congr {s t : State} {w : WinId} (queue : (t.win w).queue = (s.win w).queue)
    (slots : ∀ i ∈ (s.win w).queue, SameGist (s.slot i) (t.slot i)) (g : Tag) :
    outstanding t w g = outstanding s w g := outstanding_of_strictAt queue fun i hi => (slots i hi).strictAt g

theorem outstanding_of_nil {s : State} {w : WinId} (h : (s.win w).queue = []) (g : Tag) : outstanding s w g = 0 := by
  rw [outstanding_eq, h]; rfl

/-- The tag order table tells what is outstanding, read per tag and window. -/
structure TagsFit (s : State) : Prop where
  shown : ∀ g w, outstanding s w g = if (s.tagEntry g).dest = .window w then (s.tagEntry g).count else 0
  used : ∀ g, (s.tagEntry g).count = 0 ↔ (s.tagEntry g).dest = .none
  sum : (allTags.map fun g => localCount (s.tagEntry g)).sum = s.acc.downstream

theorem tagFits_iff (s : State) (g : Tag) :
    tagFits s g = true ↔ (∀ w, outstanding s w g = if (s.tagEntry g).dest = .window w then (s.tagEntry g).count else 0) ∧
      ((s.tagEntry g).count = 0 ↔ (s.tagEntry g).dest = .none) := by
  unfold tagFits
  have all : ∀ p : WinId → Bool, allWindows.all p = true ↔ ∀ w, p w = true := fun p => by
    simp [mem_allWindows]
  cases h : (s.tagEntry g).dest with
  | none => simp [h, and_comm, mem_allWindows]
  | localMem => simp [h, and_comm, mem_allWindows]
  | window v =>
    simp only [h, Bool.and_eq_true, all, bne_iff_ne, beq_iff_eq, Bool.or_eq_true, TagDest.window.injEq, reduceCtorEq,
      iff_false]
    constructor
    · rintro ⟨⟨some, here⟩, elsewhere⟩
      refine ⟨fun w => ?_, some⟩
      split
      · next e => rw [← e, here]
      · next e => exact (elsewhere w).resolve_left (Ne.symm e)
    · rintro ⟨shown, some⟩
      refine ⟨⟨some, by rw [shown v, if_pos rfl]⟩, fun w => ?_⟩
      by_cases e : w = v
      · exact .inl e
      · exact .inr (by rw [shown w, if_neg (Ne.symm e)])

theorem tagLaw_iff (s : State) : TagLaw s ↔ TagsFit s := by
  constructor
  · rintro ⟨fits, sum⟩
    exact ⟨fun g => ((tagFits_iff s g).mp (fits g)).1, fun g => ((tagFits_iff s g).mp (fits g)).2, sum⟩
  · rintro ⟨shown, used, sum⟩
    exact ⟨fun g => (tagFits_iff s g).mpr ⟨shown g, used g⟩, sum⟩

/-- A sum over the tags of which one summand grows. -/
theorem sum_allTags_add {f f' : Tag → Nat} {g : Tag} {n : Nat} (h : ∀ u, f' u = f u + if u = g then n else 0) :
    (allTags.map f').sum = (allTags.map f).sum + n := by
  have one : (allTags.map fun u => if u = g then n else 0).sum = n := by
    rw [List.sum_map_eq_nsmul_single g _ fun u hu _ => if_neg hu,
      List.count_eq_one_of_mem (by decide) (mem_allTags g), if_pos rfl, one_smul]
  rw [funext h, List.sum_map_add, one]

theorem fall_one (e : TagEntry) : e.fall 1 = if e.count ≤ 1 then ⟨.none, 0⟩ else ⟨e.dest, e.count - 1⟩ := rfl

section
variable {s t : State} (f : TagsFit s)
include f

/-- What leaves the queues, the tags and the downstream count keeps the law. -/
theorem TagsFit.same (out : ∀ w g, outstanding t w g = outstanding s w g) (tags : t.acc.tags = s.acc.tags)
    (down : t.acc.downstream = s.acc.downstream) : TagsFit t := by
  have entry := State.tags_eq_iff.mp tags
  exact ⟨fun g w => by rw [out, entry]; exact f.shown g w, fun g => by rw [entry]; exact f.used g, by
    simp only [entry, down]; exact f.sum⟩

/-- Answers that leave for transfers of the queues, and those transfers gone (R29): of each tag, which is outstanding at
one window at most, as many answers as transfers. -/
theorem TagsFit.falls (gone : WinId → Tag → Nat) (out : ∀ w g, outstanding t w g + gone w g = outstanding s w g)
    (tags : ∀ g v, (∀ w, w ≠ v → outstanding s w g = 0) → t.tagEntry g = (s.tagEntry g).fall (gone v g))
    (down : t.acc.downstream = s.acc.downstream) : TagsFit t := by
  have entry : ∀ g, (∀ w, outstanding t w g = if (t.tagEntry g).dest = .window w then (t.tagEntry g).count else 0) ∧
      ((t.tagEntry g).count = 0 ↔ (t.tagEntry g).dest = .none) ∧
      localCount (t.tagEntry g) = localCount (s.tagEntry g) := by
    intro g
    have used := f.used g
    cases h : (s.tagEntry g).dest with
    | window v =>
      have shown : ∀ w, outstanding s w g = if v = w then (s.tagEntry g).count else 0 := fun w => by
        rw [f.shown, h]; simp
      have e := tags g v fun w hw => by rw [shown, if_neg hw.symm]
      have here := out v g
      rw [shown, if_pos rfl] at here
      have there : ∀ w, v ≠ w → outstanding t w g = 0 := fun w hw => by
        have := out w g
        rw [shown, if_neg hw] at this
        omega
      have split : ∀ w, outstanding t w g = if v = w then outstanding t v g else 0 := fun w => by
        split
        · next e => rw [e]
        · next e => exact there w e
      have some : (s.tagEntry g).count ≠ 0 := fun z => by rw [used.mp z] at h; cases h
      rw [e]
      unfold TagEntry.fall
      split
      · next z =>
        refine ⟨fun w => ?_, used, rfl⟩
        rw [split w, h]
        simp only [TagDest.window.injEq]
        congr 1
        omega
      · split
        · refine ⟨fun w => ?_, by simp, by simp [localCount, h]⟩
          rw [split w]
          simp
          omega
        · refine ⟨fun w => ?_, ?_, by simp [localCount, h]⟩
          · rw [split w, h]
            simp only [TagDest.window.injEq]
            congr 1
            omega
          · simp only [h, reduceCtorEq, iff_false]
            omega
    | _ =>
      have shown : ∀ w, outstanding s w g = 0 := fun w => by rw [f.shown, h]; simp
      have none : ∀ w, outstanding t w g = 0 ∧ gone w g = 0 := fun w => by
        have := out w g
        rw [shown] at this
        omega
      rw [tags g 0 fun w _ => shown w, (none 0).2, TagEntry.fall_zero]
      exact ⟨fun w => by rw [(none w).1, h]; simp, used, rfl⟩
  refine ⟨fun g => (entry g).1, fun g => (entry g).2.1, ?_⟩
  rw [down, ← f.sum]
  exact congrArg (fun f => (allTags.map f).sum) (funext fun g => (entry g).2.2)

/-- A request that becomes outstanding where its tag already is, or is nowhere yet (R29). -/
theorem TagsFit.rises {g : Tag} {d : TagDest} (some : d ≠ .none)
    (free : (s.tagEntry g).dest = .none ∨ (s.tagEntry g).dest = d)
    (tags : ∀ u, t.tagEntry u = if u = g then ⟨d, (s.tagEntry g).count + 1⟩ else s.tagEntry u)
    (out : ∀ w u, outstanding t w u = outstanding s w u + if d = .window w ∧ u = g then 1 else 0)
    (down : t.acc.downstream = s.acc.downstream + if d = .localMem then 1 else 0) : TagsFit t := by
  have count : (s.tagEntry g).dest = d ∨ (s.tagEntry g).count = 0 := by
    rcases free with h | h
    · exact .inr ((f.used g).mpr h)
    · exact .inl h
  refine ⟨fun u w => ?_, fun u => ?_, ?_⟩
  · rw [out, tags, f.shown]
    by_cases e : u = g
    · subst e
      rw [if_pos rfl]
      rcases count with h | h
      · rw [h]; by_cases hw : d = .window w <;> simp [hw]
      · simp [h]
    · rw [if_neg e]; simp [e]
  · rw [tags]
    split
    · simp [some]
    · exact f.used u
  · rw [down, ← f.sum]
    refine sum_allTags_add (g := g) fun u => ?_
    rw [tags]
    by_cases e : u = g
    · subst e
      rw [if_pos rfl, if_pos rfl]
      by_cases hd : d = .localMem
      · rcases count with h | h
        · simp [localCount, hd, h]
        · simp [localCount, hd, h]
      · rcases count with h | h
        · simp [localCount, hd, h]
        · simp [localCount, hd, h]
    · simp [e]

/-- A response of local memory passed back: both counts fall (R29, R39). -/
theorem TagsFit.passes {g : Tag} (loc : (s.tagEntry g).dest = .localMem)
    (tags : ∀ u, t.tagEntry u = (s.tagEntry u).fall (if g = u then 1 else 0))
    (out : ∀ w u, outstanding t w u = outstanding s w u) (down : t.acc.downstream = s.acc.downstream - 1) : TagsFit t := by
  have some : (s.tagEntry g).count ≠ 0 := fun z => by rw [(f.used g).mp z] at loc; cases loc
  have sum : (allTags.map fun u => localCount (s.tagEntry u)).sum =
      (allTags.map fun u => localCount (t.tagEntry u)).sum + 1 := by
    refine sum_allTags_add (g := g) fun u => ?_
    rw [tags]
    by_cases e : u = g
    · subst e
      simp only [if_true, fall_one]
      split
      · simp [localCount, loc]; omega
      · simp [localCount, loc]; omega
    · rw [if_neg (Ne.symm e), if_neg e]; rfl
  rw [f.sum] at sum
  refine ⟨fun u w => ?_, fun u => ?_, by rw [down]; omega⟩
  · rw [out, f.shown, tags]
    by_cases e : g = u
    · subst e
      rw [if_pos rfl, fall_one, loc, if_neg (by simp)]
      split <;> simp
    · rw [if_neg e]; rfl
  · rw [tags]
    by_cases e : g = u
    · subst e
      rw [if_pos rfl, fall_one]
      split
      · simp
      · simp only [loc, reduceCtorEq, iff_false]; omega
    · rw [if_neg e]; exact f.used u

end

/-! ### The heads' packets (R49, R84, R105) -/

/-- A WRITE or READ exchange carries the packet of its window's head. -/
def PacketFits (s : State) (w : WinId) : Prop :=
  ∀ b, (s.win w).exchange.map (·.body) = some b → b ≠ .sync → ∃ i t d, (s.win w).queue.head? = some i ∧
    s.slot i = some t ∧ (s.win w).defn = some d ∧ b = packetBody t d.packetSize (s.win w).seqBit

/-- The law of heads and progress, with the heads read as slots. -/
structure HeadsFit (s : State) : Prop where
  packet : ∀ w, PacketFits s w
  progress : ∀ i t, s.slot i = some t → progressFits t = true

theorem headOf_iff {s : State} {w : WinId} {i : SlotId} {t : Transfer} :
    s.headOf w = some (i, t) ↔ (s.win w).queue.head? = some i ∧ s.slot i = some t := by
  refine ⟨State.headOf_some, fun ⟨front, slot⟩ => ?_⟩
  unfold State.headOf
  cases queue : (s.win w).queue with
  | nil => simp [queue] at front
  | cons j q =>
    obtain rfl : j = i := by simpa [queue] using front
    simp [slot]

theorem progressFits_iff (t : Transfer) :
    progressFits t = true ↔ 1 ≤ t.size ∧ t.size ≤ 256 ∧ t.bytesDone < t.size ∧ (t.state = .head ∨ t.bytesDone = 0) := by
  simp [progressFits, and_assoc]

theorem headLaw_iff (s : State) : HeadLaw s ↔ HeadsFit s := by
  have slots : (∀ i : SlotId, (s.slot i).all progressFits = true) ↔ ∀ i t, s.slot i = some t → progressFits t = true :=
    forall_congr' fun i => by cases s.slot i <;> simp
  unfold HeadLaw
  rw [slots]
  constructor
  · rintro ⟨heads, progress⟩
    refine ⟨fun w b hb ns => ?_, progress⟩
    have h := heads w
    unfold headFits at h
    obtain ⟨e, he, rfl⟩ := Option.map_eq_some_iff.mp hb
    rw [he] at h
    cases hh : s.headOf w with
    | none => simp [hh, ns] at h
    | some p =>
      obtain ⟨i, t⟩ := p
      obtain ⟨front, slot⟩ := headOf_iff.mp hh
      cases hd : (s.win w).defn with
      | none => simp [hh, hd, ns] at h
      | some d =>
        simp only [hh, hd, Bool.or_eq_true, beq_iff_eq, Bool.and_eq_true] at h
        exact ⟨i, t, d, front, slot, rfl, (h.resolve_left ns).2⟩
  · rintro ⟨packet, progress⟩
    refine ⟨fun w => ?_, progress⟩
    unfold headFits
    cases he : (s.win w).exchange with
    | none => rfl
    | some e =>
      by_cases ns : e.body = .sync
      · simp [ns]
      · obtain ⟨i, t, d, front, slot, defn, body⟩ := packet w e.body (by rw [he]; rfl) ns
        have small := ((progressFits_iff t).mp (progress i t slot)).2.2.1
        simp [headOf_iff.mpr ⟨front, slot⟩, defn, body, small]

/-- A window without an exchange has no packet to fit. -/
theorem PacketFits.of_none {s : State} {w : WinId} (h : (s.win w).exchange = none) : PacketFits s w := fun _ hb => by
  simp [h] at hb

theorem PacketFits.of_sync {s : State} {w : WinId} (h : (s.win w).exchange.map (·.body) = some .sync) : PacketFits s w :=
  fun _ hb ns => absurd (Option.some.inj (hb.symm.trans h)) ns

/-- Where the exchange's body, the definition, the bit and the front of the queue stay, the packet fits as before. -/
theorem PacketFits.same {s t : State} {w : WinId} (f : PacketFits s w)
    (body : (t.win w).exchange.map (·.body) = (s.win w).exchange.map (·.body)) (defn : (t.win w).defn = (s.win w).defn)
    (bit : (t.win w).seqBit = (s.win w).seqBit)
    (front : ∀ i, (s.win w).queue.head? = some i → (s.slot i).isSome = true →
      (t.win w).queue.head? = some i ∧ SameGist (s.slot i) (t.slot i)) : PacketFits t w := by
  intro b hb ns
  obtain ⟨i, x, d, head, slot, hd, h⟩ := f b (body ▸ hb) ns
  obtain ⟨head', same⟩ := front i head (by rw [slot]; rfl)
  rw [slot] at same
  obtain ⟨y, hy, g⟩ := same.some
  exact ⟨i, y, d, head', hy, defn.trans hd, by rw [h, bit, packetBody_gist g]⟩

theorem HeadsFit.progress_of_gist {s t : State} (f : HeadsFit s) {i : SlotId} (same : SameGist (s.slot i) (t.slot i)) :
    ∀ x, t.slot i = some x → progressFits x = true := by
  intro x hx
  rw [hx] at same
  obtain ⟨y, hy, g⟩ := same.symm.some
  rw [← progressFits_gist g]
  exact f.progress i y hy

end Sys2Proof.Proofs
end

section
/-! SUPPORT. What one operation of the part keeps: ATTN (R167) and the bounds (R32, R68, R132, R142), the tag order table
(R29) and the heads' packets (R49, R84, R105), each with the laws it leans on, as one relation (`LawsKept`); and the many
operations that write nothing these laws read (`Aside`). -/
namespace Sys2Proof.Proofs
open Sys2Proof.Machine Sys2Proof.Safety

/-- The second state keeps what the first has of each law. -/
structure LawsKept (s t : State) : Prop where
  attn : AttnLaw s → AttnLaw t
  bounds : BoundsLaw s → BoundsLaw t
  transfers : TransferLaw s → TransferLaw t
  exchanges : ExchangeLaw s → ExchangeLaw t
  tags : TransferLaw s → TagLaw s → TagLaw t
  heads : TransferLaw s → ExchangeLaw s → HeadLaw s → HeadLaw t

theorem LawsKept.refl (s : State) : LawsKept s s := ⟨id, id, id, id, fun _ => id, fun _ _ => id⟩

/-- One operation, and another before it. -/
theorem LawsKept.after {s t u : State} (k : LawsKept t u) (h : LawsKept s t) : LawsKept s u :=
  ⟨fun a => k.attn (h.attn a), fun b => k.bounds (h.bounds b), fun f => k.transfers (h.transfers f),
    fun x => k.exchanges (h.exchanges x), fun f g => k.tags (h.transfers f) (h.tags f g),
    fun f x d => k.heads (h.transfers f) (h.exchanges x) (h.heads f x d)⟩

theorem LawsKept.foldl {α : Type} {f : State → α → State} (h : ∀ s a, LawsKept s (f s a)) (l : List α) (s : State) :
    LawsKept s (l.foldl f s) :=
  foldl_invariant (fun t => LawsKept s t) f (fun t a ht => (h t a).after ht) l s (.refl s)

/-- A state in which every law holds. -/
theorem LawsKept.of_all {t : State} (attn : AttnLaw t) (bounds : BoundsLaw t) (transfers : TransferLaw t)
    (exchanges : ExchangeLaw t) (tags : TagLaw t) (heads : HeadLaw t) (s : State) : LawsKept s t :=
  ⟨fun _ => attn, fun _ => bounds, fun _ => transfers, fun _ => exchanges, fun _ _ => tags, fun _ _ _ => heads⟩

/-- A chain of changes keeps queues, slots and reservations in agreement, and R83 (O52, O57). -/
theorem transferLaw_of_changes {s t : State} (c : Changes s t) (f : TransferLaw s) : TransferLaw t := by
  induction c with
  | refl => exact f
  | tail _ h ih => exact (transferLaw_iff _).mpr (((transferLaw_iff _).mp ih).change h)

theorem exchangeLaw_of_changes {s t : State} (c : Changes s t) (x : ExchangeLaw s) : ExchangeLaw t := by
  induction c with
  | refl => exact x
  | tail _ h ih => exact ExchangeLaw.change ih h

/-! ### The bounds -/

/-- The parameters in force, the timeout run and the downstream count stay in range, and the pages stay. -/
structure Bounded (s t : State) : Prop where
  settings : SettingsLaw s → SettingsLaw t
  run : TimeoutRunLaw s → TimeoutRunLaw t
  downstream : DownstreamLaw s → DownstreamLaw t
  pages : PagesLaw s → PagesLaw t

theorem Bounded.kept {s t : State} (b : Bounded s t) : BoundsLaw s → BoundsLaw t :=
  fun ⟨h1, h2, h3, h4⟩ => ⟨b.settings h1, b.run h2, b.downstream h3, b.pages h4⟩

/-- The six parameters' five numbers, as SET-LINK writes them (R132). -/
def numbersOf (s : State) : Nat × Nat × Nat × Nat × Nat :=
  (s.arb.cycleLength, s.arb.keepAliveInterval, s.eng.responseLimit, s.link.recoveryLimit, s.acc.waitLimit)

theorem settingsLaw_of_numbers {s t : State} (h : numbersOf t = numbersOf s) (l : SettingsLaw s) : SettingsLaw t := by
  simp only [numbersOf, Prod.mk.injEq] at h
  obtain ⟨h1, h2, h3, h4, h5⟩ := h
  unfold SettingsLaw
  rw [h1, h2, h3, h4, h5]
  exact l

theorem pagesLaw_of_pages {s t : State} (h : ∀ w, (t.win w).pages = (s.win w).pages) (l : PagesLaw s) : PagesLaw t := by
  unfold PagesLaw
  simp only [h]
  exact l

/-- The bounds where the numbers, the downstream count and the pages stay and the timeout run does not grow. -/
theorem Bounded.of_same {s t : State} (numbers : numbersOf t = numbersOf s)
    (run : t.link.timeoutRun ≤ s.link.timeoutRun) (down : t.acc.downstream = s.acc.downstream)
    (pages : ∀ w, (t.win w).pages = (s.win w).pages) : Bounded s t :=
  ⟨settingsLaw_of_numbers numbers, fun h => Nat.lt_of_le_of_lt run h, fun h => by
    unfold DownstreamLaw; rw [down]; exact h, pagesLaw_of_pages pages⟩

/-! ### What the laws do not read -/

/-- A window record of which nothing that these laws read has changed. -/
structure AsideWin (x y : Window) : Prop where
  state : y.state = x.state
  defn : y.defn = x.defn
  pages : y.pages = x.pages
  queue : y.queue = x.queue
  seqBit : y.seqBit = x.seqBit
  body : y.exchange.map (·.body) = x.exchange.map (·.body)

theorem AsideWin.refl (x : Window) : AsideWin x x := ⟨rfl, rfl, rfl, rfl, rfl, rfl⟩

theorem AsideWin.of_eq {x y : Window} (h : y = x) : AsideWin x y := h ▸ .refl x

theorem AsideWin.trans {x y z : Window} (h : AsideWin x y) (k : AsideWin y z) : AsideWin x z :=
  ⟨k.state.trans h.state, k.defn.trans h.defn, k.pages.trans h.pages, k.queue.trans h.queue, k.seqBit.trans h.seqBit,
    k.body.trans h.body⟩

/-- Nothing of what the laws of slots and tags read has changed, whatever the window records are. -/
structure AsideRest (s t : State) : Prop where
  slots : ∀ i, SameGist (s.slot i) (t.slot i)
  tags : t.acc.tags = s.acc.tags
  downstream : t.acc.downstream = s.acc.downstream
  settings : SettingsLaw s → SettingsLaw t
  run : TimeoutRunLaw s → TimeoutRunLaw t
  attn : AttnLaw s → AttnLaw t

theorem AsideRest.after {s t u : State} (k : AsideRest t u) (h : AsideRest s t) : AsideRest s u :=
  ⟨fun i => (h.slots i).trans (k.slots i), k.tags.trans h.tags, k.downstream.trans h.downstream,
    fun l => k.settings (h.settings l), fun l => k.run (h.run l), fun l => k.attn (h.attn l)⟩

/-- Nothing that these laws read has changed. -/
structure Aside (s t : State) : Prop where
  win : ∀ w, AsideWin (s.win w) (t.win w)
  rest : AsideRest s t

theorem Aside.after {s t u : State} (k : Aside t u) (h : Aside s t) : Aside s u :=
  ⟨fun w => (h.win w).trans (k.win w), k.rest.after h.rest⟩

theorem AsideRest.refl (s : State) : AsideRest s s := ⟨fun _ => .refl _, rfl, rfl, id, id, id⟩

theorem Aside.refl (s : State) : Aside s s := ⟨fun _ => .refl _, .refl s⟩

theorem Aside.foldl {α : Type} {f : State → α → State} (h : ∀ s a, Aside s (f s a)) (l : List α) (s : State) :
    Aside s (l.foldl f s) :=
  foldl_invariant (fun t => Aside s t) f (fun t a ht => (h t a).after ht) l s (.refl s)

/-- The bounds and the transfers need only what stays of the windows. -/
theorem AsideRest.bounded {s t : State} (a : AsideRest s t) (pages : ∀ w, (t.win w).pages = (s.win w).pages) :
    Bounded s t :=
  ⟨a.settings, a.run, fun h => by unfold DownstreamLaw; rw [a.downstream]; exact h, pagesLaw_of_pages pages⟩

theorem AsideRest.tagLaw {s t : State} (a : AsideRest s t) (queue : ∀ w, (t.win w).queue = (s.win w).queue)
    (g : TagLaw s) : TagLaw t :=
  (tagLaw_iff t).mpr (((tagLaw_iff s).mp g).same
    (fun w g => outstanding_congr (queue w) (fun i _ => a.slots i) g) a.tags a.downstream)

theorem AsideRest.packet {s t : State} (a : AsideRest s t) {w : WinId} (win : AsideWin (s.win w) (t.win w))
    (f : PacketFits s w) : PacketFits t w :=
  f.same win.body win.defn win.seqBit fun i hi _ => ⟨by rw [win.queue]; exact hi, a.slots i⟩

/-- A change of one window record but for its queue and its pages, if its state then allows its queue, and its exchange is
then none, a SYNC, or the packet of its head. -/
theorem LawsKept.of_window {s t : State} (w : WinId) (others : ∀ v, v ≠ w → AsideWin (s.win v) (t.win v))
    (queue : (t.win w).queue = (s.win w).queue) (pages : (t.win w).pages = (s.win w).pages) (rest : AsideRest s t)
    (still : QueuesFit s → queueless (t.win w).state = true → (s.win w).queue = [])
    (fits : ExchangeLaw s → exchangeFits (t.win w) = true)
    (packet : ExchangeLaw s → HeadsFit s → PacketFits t w) : LawsKept s t := by
  have queues : ∀ v, (t.win v).queue = (s.win v).queue := fun v => by
    by_cases e : v = w
    · rw [e, queue]
    · exact (others v e).queue
  have allPages : ∀ v, (t.win v).pages = (s.win v).pages := fun v => by
    by_cases e : v = w
    · rw [e, pages]
    · exact (others v e).pages
  refine ⟨rest.attn, (rest.bounded allPages).kept, fun f => ?_, fun x v => ?_,
    fun _ => rest.tagLaw queues, fun _ x h => (headLaw_iff t).mpr ?_⟩
  · have f := (transferLaw_iff s).mp f
    refine (transferLaw_iff t).mpr (f.same queues (fun v => ?_) (fun v => .inl (allPages v)) fun i => (rest.slots i).core)
    by_cases e : v = w
    · rw [e]; exact still f
    · rw [(others v e).state]; exact f.still v
  · by_cases e : v = w
    · rw [e]; exact fits x
    · exact (exchangeFits_congr (others v e).state (others v e).queue (others v e).body).trans (x v)
  · have fits := (headLaw_iff s).mp h
    refine ⟨fun v => ?_, fun i => fits.progress_of_gist (rest.slots i)⟩
    by_cases e : v = w
    · rw [e]; exact packet x fits
    · exact rest.packet (others v e) (fits.packet v)

theorem Aside.kept {s t : State} (a : Aside s t) : LawsKept s t where
  attn := a.rest.attn
  bounds := (a.rest.bounded fun w => (a.win w).pages).kept
  transfers f := (transferLaw_iff t).mpr (((transferLaw_iff s).mp f).same (fun w => (a.win w).queue)
    (fun w h => ((transferLaw_iff s).mp f).still w (by rw [← (a.win w).state]; exact h)) (fun w => .inl (a.win w).pages)
    fun i => (a.rest.slots i).core)
  exchanges x w := (exchangeFits_congr (a.win w).state (a.win w).queue (a.win w).body).trans (x w)
  tags _ := a.rest.tagLaw fun w => (a.win w).queue
  heads _ _ h := by
    have fits := (headLaw_iff s).mp h
    exact (headLaw_iff t).mpr
      ⟨fun w => a.rest.packet (a.win w) (fits.packet w), fun i => fits.progress_of_gist (a.rest.slots i)⟩

/-! ### Operations that write nothing the laws read -/

/-- What ATTN is judged by, the windows' pending sets apart. -/
def signalsOf (s : State) : Bool × DeviceKinds × WindowKinds × DeviceKinds :=
  (s.ev.attn, s.ev.devicePending, s.ev.windowMask, s.ev.deviceMask)

theorem attnLaw_of_signals {s t : State} (pending : ∀ w, (t.win w).pending = (s.win w).pending)
    (h : signalsOf t = signalsOf s) (l : AttnLaw s) : AttnLaw t := by
  simp only [signalsOf, Prod.mk.injEq] at h
  obtain ⟨attn, device, windowMask, deviceMask⟩ := h
  unfold AttnLaw
  rw [State.attnLevel_congr pending windowMask device deviceMask, attn]
  exact l

/-- The blocks that these laws read but for the windows. -/
def readOf (s : State) : Vector (Option Transfer) 32 × Vector TagEntry 16 × Nat × (Nat × Nat × Nat × Nat × Nat) :=
  (s.slots, s.acc.tags, s.acc.downstream, numbersOf s)

theorem AsideRest.of_read {s t : State} (read : readOf t = readOf s) (run : t.link.timeoutRun ≤ s.link.timeoutRun)
    (attn : AttnLaw s → AttnLaw t) : AsideRest s t := by
  simp only [readOf, Prod.mk.injEq] at read
  obtain ⟨slots, tags, down, numbers⟩ := read
  exact ⟨fun i => .of_eq (State.slots_eq_iff.mp slots i), tags, down, settingsLaw_of_numbers numbers,
    fun h => Nat.lt_of_le_of_lt run h, attn⟩

/-- An operation that leaves the windows and what is read of the other blocks. -/
theorem Aside.of_read {s t : State} (win : t.windows = s.windows) (read : readOf t = readOf s)
    (run : t.link.timeoutRun ≤ s.link.timeoutRun) (attn : AttnLaw s → AttnLaw t) : Aside s t :=
  ⟨fun w => .of_eq (State.windows_eq_iff.mp win w), .of_read read run attn⟩

/-- The same with ATTN and what it is judged by left. -/
theorem Aside.same {s t : State} (win : t.windows = s.windows) (read : readOf t = readOf s)
    (run : t.link.timeoutRun ≤ s.link.timeoutRun) (signals : signalsOf t = signalsOf s) : Aside s t :=
  .of_read win read run (attnLaw_of_signals (fun w => by rw [State.windows_eq_iff.mp win w]) signals)

theorem Aside.mapWins (s : State) {f : WinId → Window → Window} (h : ∀ w, AsideWin (s.win w) (f w (s.win w)))
    (pending : ∀ w, (f w (s.win w)).pending = (s.win w).pending) : Aside s (s.mapWins f) :=
  ⟨fun w => by rw [State.win_mapWins]; exact h w,
    .of_read rfl le_rfl (attnLaw_of_signals (fun w => by rw [State.win_mapWins]; exact pending w) rfl)⟩

theorem AsideRest.modWin (s : State) (w : WinId) {f : Window → Window}
    (pending : (f (s.win w)).pending = (s.win w).pending) : AsideRest s (s.modWin w f) :=
  .of_read rfl le_rfl (attnLaw_of_signals (fun v => by
    rw [State.win_modWin]; split
    · next e => rw [e, pending]
    · rfl) rfl)

theorem AsideWin.modWin_other (s : State) {w v : WinId} (h : v ≠ w) (f : Window → Window) :
    AsideWin (s.win v) ((s.modWin w f).win v) := .of_eq (s.win_modWin_of_ne h f)

theorem Aside.modWin (s : State) (w : WinId) {f : Window → Window} (h : AsideWin (s.win w) (f (s.win w)))
    (pending : (f (s.win w)).pending = (s.win w).pending) : Aside s (s.modWin w f) := by
  refine ⟨fun v => ?_, .modWin s w pending⟩
  rw [State.win_modWin]
  split
  · next e => subst e; exact h
  · exact .refl _

/-- ATTN at its level after a change of one window's pending set (R165, R167, R169). -/
theorem Aside.signal (s : State) (w : WinId) (k : WindowKinds → WindowKinds) :
    Aside s (s.modWin w fun x => { x with pending := k x.pending }).setAttn := by
  refine ⟨fun v => ?_, .of_read rfl le_rfl fun _ => rfl⟩
  rw [State.setAttn_win, State.win_modWin]
  split
  · next e => subst e; exact ⟨rfl, rfl, rfl, rfl, rfl, rfl⟩
  · exact .refl _

theorem Aside.countWindow (s : State) (w : WinId) (k : WindowCounter) (n : Nat) : Aside s (s.countWindow w k n) :=
  .modWin s w ⟨rfl, rfl, rfl, rfl, rfl, rfl⟩ rfl

theorem Aside.raiseWindow (s : State) (w : WinId) (k : WindowKind) : Aside s (s.raiseWindow w k) :=
  .signal s w fun p => p ||| k.bit

theorem Aside.raiseDevice (s : State) (k : DeviceKind) : Aside s (s.raiseDevice k) := .of_read rfl rfl le_rfl fun _ => rfl

theorem Aside.countDevice (s : State) (k : DeviceCounter) (n : Nat) : Aside s (s.countDevice k n) :=
  .same rfl rfl le_rfl rfl

theorem Aside.stray (s : State) : Aside s s.stray := .after (.raiseDevice _ .stray) (.countDevice s .stray 1)

theorem Aside.goodPacket (s : State) : Aside s s.goodPacket := .same rfl rfl (Nat.zero_le _) rfl

theorem Aside.completeLong (s : State) (st : LongState) (d : LongDetail) : Aside s (s.completeLong st d) := by
  by_cases h : s.cmd.long.state = .running
  · rw [s.completeLong_running h]
    exact .of_read rfl rfl le_rfl fun _ => rfl
  · rw [s.completeLong_idle h]
    exact .refl s

theorem Aside.completeDone (s : State) (c : LongCode) : Aside s (s.completeDone c) := by
  unfold State.completeDone
  split
  · exact .completeLong s _ _
  · exact .refl s

theorem Aside.setResult (s : State) (r : ResultRecord) : Aside s (s.setResult r) := .same rfl rfl le_rfl rfl

theorem Aside.endTransaction (s : State) : Aside s s.endTransaction := .same rfl rfl le_rfl rfl

theorem Aside.startLong (s : State) (c : LongCode) (q : Byte) (w : Option WinId) : Aside s (s.startLong c q w) :=
  .same rfl rfl le_rfl rfl

theorem Aside.toDetached (s : State) : Aside s s.toDetached := .same rfl rfl (Nat.zero_le _) rfl

theorem Aside.toActive (s : State) (c l : Nat) : Aside s (s.toActive c l) := .same rfl rfl (Nat.zero_le _) rfl

theorem Aside.quietArbiter (s : State) : Aside s s.quietArbiter := .same rfl rfl le_rfl rfl

theorem Aside.helloDue (s : State) : Aside s s.helloDue := .same rfl rfl le_rfl rfl

theorem Aside.idleDue (s : State) : Aside s s.idleDue := .same rfl rfl le_rfl rfl

theorem Aside.toFree (s : State) : Aside s s.toFree := .same rfl rfl le_rfl rfl

theorem Aside.takeAttach (s : State) : Aside s s.takeAttach := .same rfl rfl le_rfl rfl

theorem Aside.endProbe (s : State) : Aside s s.endProbe := by
  unfold State.endProbe
  split
  · exact .toDetached s
  · exact .refl s

theorem Aside.setReservation (s : State) (i : SlotId) (bs : List Byte) : Aside s (s.setReservation i bs) :=
  .same rfl rfl le_rfl rfl

theorem Aside.placeRead (s : State) (w : WinId) (data : List Byte) : Aside s (s.placeRead w data) := by
  unfold State.placeRead
  split
  · exact .refl s
  · exact .setReservation s _ _

/-! ### Exchanges, choices and time -/

theorem AsideWin.elapse (n : Nat) (b : Bool) (x : Window) : AsideWin x (x.elapse n b) := by
  unfold Window.elapse
  split
  · next e d he hd => exact ⟨rfl, rfl, rfl, rfl, rfl, by simp [he, Exchange.elapse_body]⟩
  · exact .refl x

theorem Aside.elapse (s : State) (n : Nat) : Aside s (s.elapse n) :=
  .after (t := s.mapWins fun _ x => x.elapse n (s.link.state = .active)) (.same rfl rfl le_rfl rfl)
    (.mapWins s (fun _ => .elapse _ _ _) fun w => by unfold Window.elapse; split <;> rfl)

theorem Aside.choose (s : State) : Aside s s.choose := by
  have numbers : numbersOf s.choose = numbersOf s := by unfold numbersOf; rw [s.choose_arb]; simp
  refine ⟨fun w => ?_, .of_read (by unfold readOf; rw [numbers]; simp) (by simp) (attnLaw_of_signals (fun w => ?_) ?_)⟩
  · rcases s.choose_sends with h | ⟨v, e, he, h⟩
    · exact .of_eq (h w)
    · rw [h, s.sendExchange_win he]
      split
      · next e => subst e; exact ⟨rfl, rfl, rfl, rfl, rfl, by simp [he]⟩
      · exact .refl _
  · rw [s.choose_win w]
  · unfold signalsOf; rw [State.choose_ev]

/-- A slot written with the same transfer but for its marks. -/
theorem Aside.setSlot (s : State) (i : SlotId) {o : Option Transfer} (h : SameGist (s.slot i) o) : Aside s (s.setSlot i o) := by
  refine ⟨fun w => .refl _, ⟨fun j => ?_, rfl, rfl, id, id, attnLaw_of_signals (fun _ => rfl) rfl⟩⟩
  rw [State.slot_setSlot]
  split
  · next e => subst e; exact h
  · exact .refl _

theorem Aside.unmarkFlush (s : State) (w : WinId) : Aside s (s.unmarkFlush w) :=
  .foldl (fun u i => .setSlot u i (by cases h : u.slot i <;> exact rfl)) _ s

theorem Aside.markHead (s : State) (w : WinId) : Aside s (s.markHead w) := by
  unfold State.markHead
  split
  · split
    · next i t h => exact .setSlot s i (by rw [(State.headOf_some h).2]; rfl)
    · exact .refl s
  · exact .refl s

theorem Aside.markHeads (s : State) : Aside s s.markHeads := .foldl .markHead _ s

theorem Aside.markNewHeads (s : State) : Aside s s.markNewHeads := by
  rcases s.markNewHeads_cases with ⟨-, h⟩ | ⟨-, h⟩ <;> rw [h]
  · exact .markHeads s
  · exact .refl s

theorem Aside.lateDetection (s : State) : Aside s s.lateDetection := by
  refine .after (.markHeads _) (.foldl (fun u w => ?_) allWindows s)
  split
  · exact .after (.raiseWindow _ w .late) (.countWindow u w .late 1)
  · exact .refl u

theorem Aside.startCycle (s : State) : Aside s s.startCycle := by
  unfold State.startCycle
  refine .after (.lateDetection _) (.after (.mapWins _ (fun _ => ?_) fun w => ?_) (.same rfl rfl le_rfl rfl)) <;>
    unfold Window.refill <;> split
  · exact ⟨rfl, rfl, rfl, rfl, rfl, rfl⟩
  · exact .refl _
  · rfl
  · rfl

theorem Aside.startTraffic (s : State) : Aside s s.startTraffic := by
  unfold State.startTraffic
  split
  · exact .startCycle s
  · exact .same rfl rfl le_rfl rfl

theorem Aside.toCycled (s : State) : Aside s s.toCycled := by
  unfold State.toCycled
  dsimp only
  split
  · exact .after (.startCycle _) (.same rfl rfl le_rfl rfl)
  · exact .same rfl rfl le_rfl rfl

theorem AsideWin.rewind (x : Window) : AsideWin x { x with exchange := x.exchange.map Exchange.rewind } := by
  refine ⟨rfl, rfl, rfl, rfl, rfl, ?_⟩
  cases x.exchange with
  | none => rfl
  | some e => cases hs : e.state <;> simp [Machine.Exchange.rewind, hs]

theorem Aside.enterRecovering (s : State) : Aside s s.enterRecovering := by
  have lost : Aside s { s with link := { s.link with state := .recovering, timeoutRun := 0, recoveryTimer := some 0 } } :=
    .same rfl rfl (Nat.zero_le _) rfl
  have counted := Aside.after (.countDevice _ .recoveries 1) (.after (.raiseDevice _ .recovering) lost)
  have rewound := Aside.after (.mapWins _ (f := fun _ x => { x with exchange := x.exchange.map Exchange.rewind })
    (fun _ => .rewind _) fun _ => rfl) counted
  exact (Aside.helloDue _).after ((Aside.quietArbiter _).after rewound)

/-- The eighth expiry in a row loses the link, so the timeout run stays below 8 (R142). -/
theorem Aside.countTimeout (s : State) : Aside s s.countTimeout := by
  unfold State.countTimeout
  split
  · dsimp only
    split
    · exact .enterRecovering s
    · next h => exact ⟨fun _ => .refl _, ⟨fun _ => .refl _, rfl, rfl, id, fun _ => not_le.mp h, id⟩⟩
  · exact .refl s

theorem Aside.startAwaiting (s : State) (w : WinId) : Aside s (s.startAwaiting w) := by
  unfold State.startAwaiting
  split
  · next x hx =>
    split
    · exact .after (t := s.modWin w fun y => { y with exchange := some { x with state := .awaiting 0 _ _ } })
        (.same rfl rfl le_rfl rfl) (.modWin s w ⟨rfl, rfl, rfl, rfl, rfl, by simp [hx]⟩ rfl)
    · exact .refl s
  · exact .refl s

/-! ### The acceptance point -/

theorem Aside.note (s : State) (k : ErrorKind) : Aside s (s.note k) := by
  cases k with
  | malformed => exact .after (.raiseDevice _ _) (.countDevice s _ _)
  | straddle => exact .after (.raiseDevice _ _) (.countDevice s _ _)
  | refused => exact .refl s
  | expired => exact .refl s

theorem Aside.errorAnswer (s : State) (g : Tag) : Aside s (s.errorAnswer g) := .same rfl rfl le_rfl rfl

theorem Aside.setPresented (s : State) (o : Option Presented) : Aside s (s.setPresented o) := .same rfl rfl le_rfl rfl

theorem Aside.attemptExpired (s : State) (p : Presented) (k : ErrorKind) : Aside s (s.attemptExpired p k) := by
  rcases s.attemptExpired_cases p k with ⟨-, h⟩ | ⟨-, h⟩ <;> rw [h]
  · exact .after (.errorAnswer _ _) (.note s k)
  · exact .setPresented s _

theorem Aside.countExpiry (s : State) (r : BusRequest) : Aside s (s.countExpiry r) := by
  unfold State.countExpiry
  split
  · split
    · exact .countDevice s _ _
    · split
      · exact .after (.raiseWindow _ _ .wait) (.countWindow s _ .waitExpired 1)
      · exact .refl s
    · exact .refl s
    · exact .refl s
  · exact .refl s
  · exact .refl s
  · exact .refl s

theorem Aside.expireWait (s : State) (p : Presented) : Aside s (s.expireWait p) :=
  .after (.attemptExpired _ _ _) (.after (.setPresented (s.countExpiry p.req) _) (.countExpiry s p.req))

end Sys2Proof.Proofs
end

section
/-! SUPPORT. The operations that move tags, queues, slots or exchanges, and what each keeps (`LawsKept`): the offer of a
packet, a taking, a forwarding, the failure path, the ends of a head and the window-table reset. -/
namespace Sys2Proof.Proofs
open Sys2Proof.Machine Sys2Proof.Safety

/-! ### The offer of a packet (R49, R84) -/

theorem LawsKept.offer (s : State) (w : WinId) : LawsKept s (s.offer w) := by
  rcases s.offer_cases w with h | ⟨d, i, t, -, hd, head, -, h⟩
  · rw [h]; exact .refl s
  · obtain ⟨front, slot⟩ := headOf_iff.mp head
    have changes := (Quiet.offer s w).changes
    rw [h] at changes ⊢
    have at_w := s.win_modWin_self w fun x => { x with exchange := some (.new (packetBody t d.packetSize x.seqBit)) }
    refine .of_window w (fun v hv => .modWin_other s hv _) (by rw [at_w]) (by rw [at_w]) (.modWin s w rfl)
      (fun f => by rw [at_w]; exact f.still w) (fun x => exchangeLaw_of_changes changes x w) fun _ _ b hb _ => ?_
    rw [at_w] at hb ⊢
    exact ⟨i, t, d, front, slot, hd, (Option.some.inj hb).symm⟩

/-! ### Taking and forwarding (R36, R38) -/

section
variable {s : State} {r : BusRequest} {w : WinId} {i : SlotId}

theorem taken_tagEntry (g : Tag) : (s.taken r w i).tagEntry g =
    if (s.win w).kindFor r.op ≠ .postedWrite ∧ g = r.tag then ⟨.window w, (s.tagEntry r.tag).count + 1⟩
    else s.tagEntry g := by
  have kind : ((s.win w).newTransfer w r).kind = (s.win w).kindFor r.op := rfl
  unfold State.taken
  dsimp only
  rw [State.dispose_tagEntry, kind]
  split
  · next h => simp [h]
  · next h => rw [State.tagEntry_tagRises]; simp [h]

/-- A taken request counts among the outstanding of its window unless it is a posted write (R36). -/
theorem taken_outstanding (f : QueuesFit s) (free : s.slot i = none) (v : WinId) (g : Tag) :
    outstanding (s.taken r w i) v g =
      outstanding s v g + if (s.win w).kindFor r.op ≠ .postedWrite ∧ TagDest.window w = .window v ∧ g = r.tag then 1 else 0 := by
  have old : ∀ u, ∀ j ∈ (s.win u).queue, (s.taken r w i).slot j = s.slot j := fun u j hj => by
    rw [State.taken_slot, if_neg fun e => f.not_mem free u (by rw [← e]; exact hj)]
  by_cases e : v = w
  · subst e
    have new : (s.taken r v i).slot i = some ((s.win v).newTransfer v r) := by rw [State.taken_slot, if_pos rfl]
    have strict : strictAt g (some ((s.win v).newTransfer v r)) = true ↔
        (s.win v).kindFor r.op ≠ .postedWrite ∧ TagDest.window v = .window v ∧ g = r.tag := by
      unfold strictAt Window.newTransfer
      simp only [Option.any_some, Bool.and_eq_true, bne_iff_ne, beq_iff_eq, true_and, eq_comm (a := r.tag)]
    rw [outstanding_eq, outstanding_eq, State.taken_win, if_pos rfl, List.countP_append, List.countP_singleton, new,
      List.countP_congr fun j hj => by rw [old v j hj]]
    simp only [strict]
  · rw [if_neg (by simp [Ne.symm e])]
    exact outstanding_congr (by rw [State.taken_win, if_neg e]) (fun j hj => .of_eq (old v j hj)) g

/-- The size of a request that is not malformed is 1 to 256 (R26). -/
theorem count_of_judge_take (judged : s.judge r = .take w i) : 1 ≤ BusOp.count r.op ∧ BusOp.count r.op ≤ 256 := by
  obtain ⟨far, -⟩ := s.judge_take judged
  have good : ¬ malformedRequest r = true := fun h => by simp [State.classify, h] at far
  rw [malformedRequest_iff] at good
  omega

theorem LawsKept.taken (judged : s.judge r = .take w i) : LawsKept s (s.taken r w i) := by
  obtain ⟨-, -, permits, low, -⟩ := s.judge_take judged
  have free := (s.lowestFree_some low).1
  have changes := (Change.takes r w i judged rfl).changes
  have frame := s.taken_frame r w i
  have down : (s.taken r w i).acc.downstream = s.acc.downstream := by unfold State.taken; dsimp only; split <;> rfl
  have at_w : (s.taken r w i).win w = { s.win w with queue := (s.win w).queue ++ [i] } := by
    rw [State.taken_win, if_pos rfl]
  have other : ∀ v, v ≠ w → (s.taken r w i).win v = s.win v := fun v hv => by rw [State.taken_win, if_neg hv]
  have busy : ∀ j, (s.slot j).isSome = true → (s.taken r w i).slot j = s.slot j := fun j hj => by
    rw [State.taken_slot, if_neg fun e => by simp [e, free] at hj]
  refine ⟨attnLaw_of_signals (fun v => ?_) (by rw [frame]; rfl),
    (Bounded.of_same (by rw [frame]; rfl) (by rw [frame]) down fun v => ?_).kept, transferLaw_of_changes changes,
    exchangeLaw_of_changes changes, fun f g => ?_, fun _ x h => ?_⟩
  · rw [State.taken_win]; split
    · next e => rw [e]
    · rfl
  · rw [State.taken_win]; split
    · next e => rw [e]
    · rfl
  · have out := taken_outstanding (r := r) (w := w) ((transferLaw_iff s).mp f) free
    refine (tagLaw_iff _).mpr ?_
    have fits := (tagLaw_iff s).mp g
    by_cases posted : (s.win w).kindFor r.op = .postedWrite
    · exact fits.same (fun v g => by rw [out, if_neg (by simp [posted])]; rfl)
        (State.tags_eq_iff.mpr fun g => by rw [taken_tagEntry, if_neg (by simp [posted])]) down
    · refine fits.rises (g := r.tag) (d := .window w) (by simp) ?_ (fun g => ?_) (fun v g => ?_) (by rw [down, if_neg (by simp)]; rfl)
      · exact (State.tagPermitsFar_iff.mp permits).imp_right And.right
      · rw [taken_tagEntry]; simp [posted]
      · rw [out]; simp [posted]
  · have fits := (headLaw_iff s).mp h
    refine (headLaw_iff _).mpr ⟨fun v => ?_, fun j t ht => ?_⟩
    · by_cases e : v = w
      · subst e
        refine (fits.packet v).same (by rw [at_w]) (by rw [at_w]) (by rw [at_w]) fun j hj hs => ⟨?_, .of_eq (busy j hs)⟩
        rw [at_w]
        cases queue : (s.win v).queue with
        | nil => simp [queue] at hj
        | cons k q => simpa [queue] using hj
      · exact (fits.packet v).same (by rw [other v e]) (by rw [other v e]) (by rw [other v e]) fun j hj hs =>
          ⟨by rw [other v e]; exact hj, .of_eq (busy j hs)⟩
    · rw [State.taken_slot] at ht
      split at ht
      · obtain rfl := Option.some.inj ht
        have size := count_of_judge_take judged
        exact (progressFits_iff _).mpr ⟨size.1, size.2, size.1, .inr rfl⟩
      · exact fits.progress j t ht

end

/-- Where the windows and slots stay, the packets fit as before. -/
theorem headLaw_of_same {s t : State} (win : ∀ w, t.win w = s.win w) (slots : ∀ i, t.slot i = s.slot i) (h : HeadLaw s) :
    HeadLaw t := by
  have fits := (headLaw_iff s).mp h
  refine (headLaw_iff t).mpr ⟨fun w => (fits.packet w).same (by rw [win]) (by rw [win]) (by rw [win]) fun i hi _ =>
    ⟨by rw [win]; exact hi, .of_eq (slots i)⟩, fun i => ?_⟩
  rw [slots]
  exact fits.progress i

end Sys2Proof.Proofs
end

section
/-! SUPPORT. The forwarding and the passing back of local requests (R38, R39), the failure path (R113 to R116) and the
window-table reset (R23), and what they keep of the laws (`LawsKept`). -/
namespace Sys2Proof.Proofs
open Sys2Proof.Machine Sys2Proof.Safety

/-! ### Local requests -/

section
variable {s : State} {r : BusRequest}

/-- A forwarding is judged only where tag and downstream count allow (R29, R32). -/
theorem judge_forward (judged : s.judge r = .forward) :
    ((s.tagEntry r.tag).dest = .none ∨ (s.tagEntry r.tag).dest = .localMem) ∧ s.acc.downstream < 16 := by
  have no_error : ∀ k, s.errorVerdict r.tag k ≠ .forward := fun k => by
    unfold State.errorVerdict; split <;> simp
  cases h : s.classify r with
  | malformed => rw [s.judge_malformed h] at judged; exact absurd judged (no_error _)
  | straddle => rw [s.judge_straddle h] at judged; exact absurd judged (no_error _)
  | localMem =>
    rw [s.judge_local h, State.judgeLocal_eq] at judged
    split at judged
    · next tag =>
      split at judged
      · next room => exact ⟨tag, room⟩
      · cases judged
    · cases judged
  | far w =>
    by_cases takes : (s.win w).state.takes = true
    · rw [s.judge_far h takes, State.judgeFar] at judged
      split at judged
      · cases judged
      · split at judged
        · cases judged
        · split at judged <;> cases judged
    · rw [s.judge_refused h (by simpa using takes)] at judged; exact absurd judged (no_error _)

theorem LawsKept.forward (judged : s.judge r = .forward) : LawsKept s (s.forward r) := by
  obtain ⟨tag, room⟩ := judge_forward judged
  have changes := (Quiet.forward s r).changes
  refine ⟨attnLaw_of_signals (fun _ => rfl) rfl, ?_, transferLaw_of_changes changes, exchangeLaw_of_changes changes,
    fun _ g => (tagLaw_iff _).mpr (((tagLaw_iff s).mp g).rises (g := r.tag) (d := .localMem) (by simp) tag
      (fun u => s.tagEntry_tagRises r.tag u _) (fun _ _ => rfl) rfl),
    fun _ _ => headLaw_of_same (fun _ => rfl) (fun _ => rfl)⟩
  exact fun ⟨settings, run, _, pages⟩ => ⟨settings, run, Nat.succ_le_of_lt room, pages⟩

/-- A response of local memory passed back, before the attempt that follows (R39). -/
def passedBack (s : State) (g : Tag) (ok : Bool) (data : List Byte) : State :=
  let u := (s.answer ⟨g, ok, data⟩).tagFalls g
  { u with acc := { u.acc with downstream := u.acc.downstream - 1 } }

theorem LawsKept.passedBack {g : Tag} (loc : (s.tagEntry g).dest = .localMem) (ok : Bool) (data : List Byte) :
    LawsKept s (passedBack s g ok data) := by
  have changes : Changes s (Proofs.passedBack s g ok data) := Quiet.changes (.of_eq rfl rfl rfl rfl)
  refine ⟨attnLaw_of_signals (fun _ => rfl) rfl, ?_, transferLaw_of_changes changes, exchangeLaw_of_changes changes,
    fun _ f => (tagLaw_iff _).mpr (((tagLaw_iff s).mp f).passes loc
      (fun u => (s.answer ⟨g, ok, data⟩).tagEntry_tagFalls_eq g u) (fun _ _ => rfl) rfl),
    fun _ _ => headLaw_of_same (fun _ => rfl) (fun _ => rfl)⟩
  exact fun ⟨settings, run, down, pages⟩ => ⟨settings, run, Nat.sub_le_of_le_add (Nat.le_add_right_of_le down), pages⟩

end

/-- An attempt keeps the laws. -/
theorem LawsKept.attempt (s : State) : LawsKept s s.attempt := by
  cases presented : s.acc.presented with
  | none => rw [State.attempt, presented]; exact .refl s
  | some p =>
    cases expired : p.expired with
    | some k => rw [State.attempt_of_expired presented expired]; exact (Aside.attemptExpired s p k).kept
    | none =>
      rw [State.attempt_of_fresh presented expired]
      cases judged : s.judge p.req with
      | error k => exact (Aside.after (.errorAnswer _ _) (.note s k)).kept
      | take w i =>
        show LawsKept s (s.take p.req w i)
        rw [State.take_eq]
        exact (Aside.choose _).kept.after ((LawsKept.offer _ w).after (.taken judged))
      | forward => exact .forward judged
      | wait why => exact (Aside.setPresented s _).kept

theorem LawsKept.attemptSince (s old : State) : LawsKept s (s.attemptSince old) := by
  rcases s.attemptSince_cases old with h | h <;> rw [h]
  · exact .attempt s
  · exact .refl s

theorem LawsKept.settle (s : State) : LawsKept s s.settle := (Aside.choose _).kept.after (.attempt s)

/-! ### The failure path (R113 to R116) -/

/-- Where the answers of these transfers have left, each tag has fallen by theirs (R29). -/
theorem tagEntry_of_tagsAfter {s t : State} {ts : List Transfer} (h : t.acc.tags = tagsAfter s ts) (g : Tag) :
    t.tagEntry g = (s.tagEntry g).fall (strictCount ts g) := by
  rw [State.tagEntry, h, tagsAfter_eq]
  exact Vector.getElem_ofFn _

/-- The transfers of a queue answered are what was outstanding there. -/
theorem strictCount_transfersOf (s : State) (w : WinId) (g : Tag) :
    strictCount (s.transfersOf (s.win w).queue) g = outstanding s w g := rfl

theorem LawsKept.haltWindow (s : State) (w : WinId) (c : FaultCause) (k : Option StrikeKind) (far : Option FarAddr) :
    LawsKept s (s.haltWindow w c k far) := by
  have acc := s.haltWindow_acc w c k far
  have ev := s.haltWindow_ev w c k far
  have at_w : (s.haltWindow w c k far).win w = haltedRecord s w c k far := by rw [s.haltWindow_win, if_pos rfl]
  have other : ∀ v, v ≠ w → (s.haltWindow w c k far).win v = s.win v := fun v hv => by rw [s.haltWindow_win, if_neg hv]
  have gone : ∀ i ∈ (s.win w).queue, (s.haltWindow w c k far).slot i = none := fun i hi => by
    rw [s.haltWindow_slot, if_pos hi]
  have stays : ∀ i, i ∉ (s.win w).queue → (s.haltWindow w c k far).slot i = s.slot i := fun i hi => by
    rw [s.haltWindow_slot, if_neg hi]
  have arb := s.haltWindow_arb w c k far
  have eng := s.haltWindow_eng w c k far
  have link := s.haltWindow_link w c k far
  generalize s.haltWindow w c k far = t at *
  refine ⟨fun _ => by unfold AttnLaw; rw [ev], (Bounded.of_same ?_ (by rw [link]) (by rw [acc]) fun v => ?_).kept,
    fun f => ?_, fun x v => ?_, fun f g => ?_, fun f x h => ?_⟩
  · unfold numbersOf; rw [arb, eng, link, acc]
  · by_cases e : v = w
    · rw [e, at_w]; rfl
    · rw [other v e]
  · have fits := (transferLaw_iff s).mp f
    refine (transferLaw_iff t).mpr (fits.keep (· = w) ?_ (fun v e => by rw [other v e]) (fun v e => ?_)
      (fun v e => .inl (by rw [other v e])) ?_ fun i hi => by rw [stays i (hi w rfl)])
    · rintro _ rfl; rw [at_w]; rfl
    · rw [other v e]; exact fits.still v
    · rintro _ rfl; exact gone
  · by_cases e : v = w
    · rw [e, at_w]; exact exchangeFits_none rfl
    · rw [other v e]; exact x v
  · have fits := (transferLaw_iff s).mp f
    refine (tagLaw_iff t).mpr (((tagLaw_iff s).mp g).falls (fun v g => if v = w then outstanding s w g else 0) (fun v g => ?_)
      (fun g v alone => ?_) (by rw [acc]))
    · by_cases e : v = w
      · subst e
        rw [if_pos rfl, outstanding_of_nil (by rw [at_w]; rfl), Nat.zero_add]
      · rw [if_neg e, Nat.add_zero]
        exact outstanding_congr (by rw [other v e]) (fun i hi => .of_eq (stays i fun h => e (fits.unique hi h))) g
    · rw [tagEntry_of_tagsAfter (by rw [acc]), strictCount_transfersOf]
      by_cases e : v = w
      · rw [if_pos e]
      · rw [if_neg e, alone w (Ne.symm e)]
  · have fits := (transferLaw_iff s).mp f
    have heads := (headLaw_iff s).mp h
    refine (headLaw_iff t).mpr ⟨fun v => ?_, fun i u hu => ?_⟩
    · by_cases e : v = w
      · exact .of_none (by rw [e, at_w]; rfl)
      · have q : (t.win v).queue = (s.win v).queue := by rw [other v e]
        exact (heads.packet v).same (by rw [other v e]) (by rw [other v e]) (by rw [other v e]) fun i hi _ =>
          ⟨by rw [q]; exact hi, .of_eq (stays i fun h => e (fits.unique (List.mem_of_mem_head? hi) h))⟩
    · by_cases hi : i ∈ (s.win w).queue
      · rw [gone i hi] at hu; cases hu
      · exact heads.progress i u (by rw [← stays i hi]; exact hu)

theorem LawsKept.failExchange (s : State) (w : WinId) (x : Exchange) (c : FaultCause) (k : Option StrikeKind) :
    LawsKept s (s.failExchange w x c k) := by
  unfold State.failExchange
  split <;> exact .haltWindow s w _ _ _

/-- Halts of the windows that a fold chooses. -/
theorem LawsKept.haltFold (s : State) (p : State → WinId → Bool) (c : FaultCause) :
    LawsKept s (allWindows.foldl (fun s w => if p s w then s.haltWindow w c none none else s) s) := by
  refine .foldl (fun u w => ?_) _ s
  split
  · exact .haltWindow u w c none none
  · exact .refl u

theorem LawsKept.haltAllLive (s : State) (c : FaultCause) : LawsKept s (s.haltAllLive c) :=
  .haltFold s (fun s w => (s.win w).state.live) c

theorem LawsKept.recoveryCheck (s : State) (fresh : Bool) : LawsKept s (s.recoveryCheck fresh) := by
  unfold State.recoveryCheck
  dsimp only
  refine .after (.haltFold _ (fun s w => (s.win w).state.live && s.outOfRange w) .farRange) ?_
  split
  · exact .haltFold s (fun s w => (s.win w).state.carriesQueue) .moduleReset
  · exact .refl s

theorem LawsKept.giveUpRecovery (s : State) : LawsKept s s.giveUpRecovery :=
  (LawsKept.haltAllLive _ _).after (Aside.after (.raiseDevice _ _) (.toDetached s)).kept

end Sys2Proof.Proofs
end

section
/-! SUPPORT. The window-table reset (R23), the progress and the ends of a head (R50 to R57), strikes and responses (R94 to
R111), and what they keep of the laws (`LawsKept`). -/
namespace Sys2Proof.Proofs
open Sys2Proof.Machine Sys2Proof.Safety

/-! ### The window-table reset (R23) -/

theorem pagesLaw_of_reset {t : State} (win : ∀ w, t.win w = .reset) : PagesLaw t := by
  unfold PagesLaw
  simp only [win]
  decide

theorem windowsCleared_numbers (s : State) : numbersOf (windowsCleared s) = numbersOf s ∧
    (windowsCleared s).link.timeoutRun ≤ s.link.timeoutRun := by
  unfold windowsCleared probeEnded
  split
  · exact ⟨rfl, Nat.zero_le _⟩
  · exact ⟨rfl, le_rfl⟩

/-- With every window and slot cleared the laws of queues, exchanges and heads hold. -/
theorem queuesFit_of_cleared {t : State} (win : ∀ w, t.win w = .reset) (slots : ∀ i, t.slot i = none) : QueuesFit t := by
  have empty : ∀ w, (t.win w).queue = [] := fun w => by rw [win]; rfl
  exact ⟨fun w _ => empty w, fun w => by simp [empty], fun w => by simp [empty], fun i x hx => by simp [slots] at hx,
    fun w => by simp [State.reserved_of_nil (empty w)]⟩

theorem headsFit_of_cleared {t : State} (win : ∀ w, t.win w = .reset) (slots : ∀ i, t.slot i = none) : HeadsFit t :=
  ⟨fun w => .of_none (by rw [win]; rfl), fun i x hx => by simp [slots] at hx⟩

theorem LawsKept.windowsCleared (s : State) : LawsKept s (windowsCleared s) := by
  have win := windowsCleared_win s
  have slots := windowsCleared_slot s
  obtain ⟨numbers, run⟩ := windowsCleared_numbers s
  have tags : (Proofs.windowsCleared s).acc.tags = tagsAfter s (queuedTransfers s allWindows) := rfl
  have down : (Proofs.windowsCleared s).acc.downstream = s.acc.downstream := rfl
  refine ⟨fun _ => rfl, Bounded.kept ⟨settingsLaw_of_numbers numbers, fun h => Nat.lt_of_le_of_lt run h, fun h => by
      unfold DownstreamLaw; rw [down]; exact h, fun _ => pagesLaw_of_reset win⟩,
    fun _ => (transferLaw_iff _).mpr (queuesFit_of_cleared win slots), fun _ w => exchangeFits_none (by rw [win]; rfl),
    fun _ g => (tagLaw_iff _).mpr (((tagLaw_iff s).mp g).falls (outstanding s) (fun w g => ?_) (fun g v alone => ?_) down),
    fun _ _ _ => (headLaw_iff _).mpr (headsFit_of_cleared win slots)⟩
  · rw [outstanding_of_nil (by rw [win]; rfl), Nat.zero_add]
  · rw [tagEntry_of_tagsAfter tags, strictCount_of_single alone]

theorem LawsKept.resetWindows (s : State) : LawsKept s s.resetWindows := by
  rw [resetWindows_eq]
  exact (LawsKept.attemptSince _ s).after (.windowsCleared s)

/-! ### The end of a head (R52 to R57) -/

section
variable {b : State} {w : WinId} {i : SlotId} {t : Transfer} (answers : List Answer) (bytes short : Nat) (kinds : WindowKinds)

/-- One transfer answered is one outstanding, unless it is a posted write. -/
theorem strictCount_singleton (t : Transfer) (g : Tag) : strictCount [t] g = if strictAt g (some t) then 1 else 0 := by
  by_cases h : strictAt g (some t) = true
  · rw [if_pos h]; exact congrArg List.length (List.filter_cons_of_pos (by exact h))
  · rw [if_neg h]; exact congrArg List.length (List.filter_cons_of_neg (by exact h))

theorem headEnded_strictAt {j : SlotId} (hj : j ≠ i) (g : Tag) :
    strictAt g ((headEnded b w i t answers bytes short kinds).slot j) = strictAt g (b.slot j) := by
  rw [headEnded_slot, if_neg hj]
  split
  · cases b.slot j <;> rfl
  · rfl

theorem headEnded_slot_other (f : QueuesFit b) (front : (b.win w).queue.head? = some i) {v : WinId} (hv : v ≠ w)
    {j : SlotId} (hj : j ∈ (b.win v).queue) : (headEnded b w i t answers bytes short kinds).slot j = b.slot j := by
  have away : j ∉ (b.win w).queue := fun h => hv (f.unique hj h)
  rw [headEnded_slot, if_neg fun e : j = i => away (by rw [e]; exact List.mem_of_mem_head? front),
    if_neg fun e : _ = some j => away (List.mem_of_mem_tail (List.mem_of_mem_head? e))]

theorem headEnded_outstanding (f : QueuesFit b) (head : b.headOf w = some (i, t)) (v : WinId) (g : Tag) :
    outstanding (headEnded b w i t answers bytes short kinds) v g + (if v = w then strictCount [t] g else 0) =
      outstanding b v g := by
  obtain ⟨front, slot⟩ := headOf_iff.mp head
  by_cases e : v = w
  · subst e
    obtain ⟨q, queue⟩ : ∃ q, (b.win v).queue = i :: q := by
      cases h : (b.win v).queue with
      | nil => simp [h] at front
      | cons j q => exact ⟨q, by simpa [h] using front⟩
    have away : i ∉ q := (List.nodup_cons.mp (queue ▸ f.nodup v)).1
    have rest : ((headEnded b v i t answers bytes short kinds).win v).queue = q := by
      rw [headEnded_win, if_pos rfl, endedRecord, queue]; rfl
    rw [if_pos rfl, outstanding_eq, outstanding_eq, rest, queue, List.countP_cons, slot, strictCount_singleton]
    congr 1
    exact List.countP_congr fun j hj => by rw [headEnded_strictAt _ _ _ _ fun e : j = i => away (by rw [← e]; exact hj)]
  · rw [if_neg e, Nat.add_zero]
    exact outstanding_congr (by rw [headEnded_win, if_neg e])
      (fun j hj => .of_eq (headEnded_slot_other _ _ _ _ f front e hj)) g

theorem headEnded_queuesFit (f : QueuesFit b) (head : b.headOf w = some (i, t)) :
    QueuesFit (headEnded b w i t answers bytes short kinds) := by
  have pops := f.pops (headOf_iff.mp head).1
  have popWin := win_pop b w i
  have popSlot := State.slot_pop b w i
  generalize ((b.freeSlot i).modWin w fun x => { x with queue := x.queue.tail }).promote w = p at *
  refine pops.same (fun v => ?_) (fun v => ?_) (fun v => .inl ?_) fun j => ?_
  · rw [headEnded_win, popWin]; split <;> rfl
  · have still := pops.still v
    rw [popWin] at still
    rw [headEnded_win, popWin]
    by_cases e : v = w
    · simp only [if_pos e] at still ⊢
      by_cases closes : endCloses (b.win w) = true
      · exact fun _ => List.isEmpty_iff.mp (Bool.and_eq_true_iff.mp closes).2
      · intro h
        exact still (by simpa [endedRecord, closes] using h)
    · simpa only [if_neg e] using still
  · rw [headEnded_win, popWin]; split <;> rfl
  · rw [headEnded_slot, popSlot]
    by_cases e : j = i
    · simp [e]
    · simp [e]

theorem LawsKept.headEnded (head : b.headOf w = some (i, t)) :
    LawsKept b (headEnded b w i t answers bytes short kinds) := by
  have front := (headOf_iff.mp head).1
  have frame := headEnded_frame b w i t answers bytes short kinds
  have win := headEnded_win b w i t answers bytes short kinds
  have slots := headEnded_slot b w i t answers bytes short kinds
  refine ⟨fun attn => ?_, (Bounded.of_same ?_ ?_ ?_ fun v => ?_).kept, fun f => ?_, fun x v => ?_, fun f g => ?_,
    fun f x h => ?_⟩
  · by_cases quiet : kinds = 0 ∧ endCloses (b.win w) = false ∧ endFlushes b t = false
    · refine attnLaw_of_signals (fun v => ?_) ?_ attn
      · rw [win]
        split
        · next e => simp [e, endedRecord, quiet]
        · rfl
      · unfold signalsOf
        rw [frame]
        simp [quiet]
    · have level := congrArg (fun u : State => u.ev.attn) frame
      exact level.trans (if_neg quiet)
  · unfold numbersOf; rw [frame]
  · rw [frame]
  · rw [frame]
  · rw [win]
    split
    · next e => rw [e]; rfl
    · rfl
  · exact (transferLaw_iff _).mpr (headEnded_queuesFit _ _ _ _ ((transferLaw_iff b).mp f) head)
  · rw [win]
    split
    · exact exchangeFits_none rfl
    · exact x v
  · refine (tagLaw_iff _).mpr (((tagLaw_iff b).mp g).falls (fun v g => if v = w then strictCount [t] g else 0)
      (headEnded_outstanding _ _ _ _ ((transferLaw_iff b).mp f) head) (fun g v alone => ?_) (by rw [frame]))
    rw [tagEntry_of_tagsAfter (by rw [frame])]
    by_cases e : v = w
    · rw [if_pos e]
    · have := headEnded_outstanding answers bytes short kinds ((transferLaw_iff b).mp f) head w g
      rw [if_pos rfl, alone w (Ne.symm e)] at this
      rw [if_neg e, (Nat.add_eq_zero_iff.mp this).2]
  · have heads := (headLaw_iff b).mp h
    refine (headLaw_iff _).mpr ⟨fun v => ?_, fun j u hu => ?_⟩
    · by_cases e : v = w
      · exact .of_none (by rw [win, if_pos e]; rfl)
      · have same : (Safety.headEnded b w i t answers bytes short kinds).win v = b.win v := by rw [win, if_neg e]
        exact (heads.packet v).same (by rw [same]) (by rw [same]) (by rw [same]) fun j hj _ => ⟨by rw [same]; exact hj,
          .of_eq (headEnded_slot_other _ _ _ _ ((transferLaw_iff b).mp f) front e (List.mem_of_mem_head? hj))⟩
    · rw [slots] at hu
      split at hu
      · cases hu
      · split at hu
        · obtain ⟨y, hy, rfl⟩ := Option.map_eq_some_iff.mp hu
          obtain ⟨one, most, less, -⟩ := (progressFits_iff y).mp (heads.progress j y hy)
          exact (progressFits_iff _).mpr ⟨one, most, less, .inl rfl⟩
        · exact heads.progress j u hu

end

/-! ### A packet's success, case by case (R50 to R56) -/

section
variable {s : State} {w : WinId} {i : SlotId} {t : Transfer}

theorem headOf_settleExchange_none (h : s.headOf w = none) : (s.settleExchange w).headOf w = none := by
  rw [← h]
  unfold State.headOf
  rw [State.settleExchange_win_self]
  rfl

theorem packetSucceeds_headless (h : s.headOf w = none) (len : Nat) : s.packetSucceeds w len = s.settleExchange w := by
  unfold State.packetSucceeds
  dsimp only
  rw [headOf_settleExchange_none h]

theorem packetSucceeds_part (h : s.headOf w = some (i, t)) {len : Nat} (part : t.bytesDone + len ≠ t.size) :
    s.packetSucceeds w len =
      ((s.settleExchange w).setSlot i (some { t with bytesDone := t.bytesDone + len })).offer w := by
  unfold State.packetSucceeds
  dsimp only
  rw [headOf_settleExchange h]
  exact if_neg part

theorem packetSucceeds_ended (h : s.headOf w = some (i, t)) {len : Nat} (all : t.bytesDone + len = t.size) :
    ∃ answers, s.packetSucceeds w len = (headEnded s w i t answers (t.bytesDone + len) 0 0).offer w :=
  ⟨_, by rw [packetSucceeds_done h all, endHead_of_found (HeadFound.settled.setSlot _)]⟩

theorem endShort_headless (h : s.headOf w = none) (received : Nat) : s.endShort w received = s.settleExchange w := by
  unfold State.endShort
  dsimp only
  rw [headOf_settleExchange_none h]

/-- A short end is an end of the head, under either policy (R54 to R56). -/
theorem endShort_ended (h : s.headOf w = some (i, t)) (received : Nat) : ∃ answers kinds,
    s.endShort w received = (headEnded s w i t answers (t.bytesDone + received) 1 kinds).offer w := by
  unfold State.endShort
  dsimp only
  rw [headOf_settleExchange h]
  dsimp only
  split
  · exact ⟨_, _, endHead_of_found ((((HeadFound.settled.setSlot _).shortRead).setReservation _).raise) t _ true _⟩
  · exact ⟨_, _, endHead_of_found ((HeadFound.settled.setSlot _).shortRead) t _ false []⟩

end

/-! ### The progress of a head (R50) -/

section
variable {s : State} {w : WinId} {i : SlotId} {t : Transfer}

/-- The exchange of a packet's success removed, the bit toggled, and nothing else changed. -/
theorem LawsKept.settleExchange (s : State) (w : WinId) : LawsKept s (s.settleExchange w) := by
  have at_w := State.settleExchange_win_self s w
  exact .of_window w (fun v hv => .modWin_other s hv _) (by rw [at_w]) (by rw [at_w]) (.modWin s w rfl)
    (fun f => by rw [at_w]; exact f.still w) (fun _ => by rw [at_w]; exact exchangeFits_none rfl)
    fun _ _ => .of_none (by rw [at_w])

/-- The exchange of a WRITE or READ carries no more than its head has left (R49, R84). -/
theorem cost_le {x : Exchange} (hx : (s.win w).exchange = some x) (data : x.body ≠ .sync) (h : HeadsFit s)
    (head : s.headOf w = some (i, t)) : t.bytesDone + x.body.cost ≤ t.size := by
  obtain ⟨front, slot⟩ := headOf_iff.mp head
  obtain ⟨j, u, d, front', slot', -, body⟩ := h.packet w x.body (by rw [hx]; rfl) data
  obtain rfl : i = j := Option.some.inj (front.symm.trans front')
  obtain rfl : t = u := Option.some.inj (slot.symm.trans slot')
  have small := ((progressFits_iff t).mp (h.progress i t slot)).2.2.1
  have cost : x.body.cost = min d.packetSize (t.size - t.bytesDone) := by
    rw [body]; unfold packetBody; cases t.kind <;> rfl
  omega

/-- The head forward by a packet that is not its last, its exchange gone. -/
theorem LawsKept.progress {x : Exchange} (hx : (s.win w).exchange = some x) (data : x.body ≠ .sync)
    (head : s.headOf w = some (i, t)) (part : t.bytesDone + x.body.cost ≠ t.size) :
    LawsKept s ((s.settleExchange w).setSlot i (some { t with bytesDone := t.bytesDone + x.body.cost })) := by
  obtain ⟨front, slot⟩ := headOf_iff.mp head
  have settled := LawsKept.settleExchange s w
  have changes := ((Quiet.progress (headOf_settleExchange head) (t.bytesDone + x.body.cost)).after (.settleExchange s w)).changes
  have slots : ∀ j, ((s.settleExchange w).setSlot i (some { t with bytesDone := t.bytesDone + x.body.cost })).slot j =
      if j = i then some { t with bytesDone := t.bytesDone + x.body.cost } else s.slot j :=
    fun j => State.slot_setSlot _ i j _
  have strict : ∀ g j, strictAt g (((s.settleExchange w).setSlot i
      (some { t with bytesDone := t.bytesDone + x.body.cost })).slot j) = strictAt g (s.slot j) := fun g j => by
    rw [slots]
    split
    · next e => rw [e, slot]; rfl
    · rfl
  refine ⟨fun a => settled.attn a, fun b => settled.bounds b, transferLaw_of_changes changes, exchangeLaw_of_changes changes,
    fun f g => (tagLaw_iff _).mpr (((tagLaw_iff _).mp (settled.tags f g)).same
      (fun v g => outstanding_of_strictAt rfl fun j _ => strict g j) rfl rfl), fun f c h => ?_⟩
  have fits := (headLaw_iff s).mp h
  refine (headLaw_iff _).mpr ⟨fun v => ?_, fun j u hu => ?_⟩
  · by_cases e : v = w
    · exact .of_none (by rw [State.setSlot_win, e, State.settleExchange_win_self])
    · have same : ((s.settleExchange w).setSlot i (some { t with bytesDone := t.bytesDone + x.body.cost })).win v = s.win v :=
        State.win_modWin_of_ne s e fun x => { x with exchange := none, seqBit := !x.seqBit }
      refine (fits.packet v).same (by rw [same]) (by rw [same]) (by rw [same]) fun j hj _ => ⟨by rw [same]; exact hj, .of_eq ?_⟩
      rw [slots, if_neg]
      rintro rfl
      exact e (((transferLaw_iff s).mp f).unique (List.mem_of_mem_head? hj) (List.mem_of_mem_head? front))
  · rw [slots] at hu
    split at hu
    · obtain rfl := Option.some.inj hu
      obtain ⟨one, most, -, -⟩ := (progressFits_iff t).mp (fits.progress i t slot)
      have less := cost_le hx data fits head
      obtain ⟨y, hy, -, place⟩ := ((transferLaw_iff s).mp f).holds w i (List.mem_of_mem_head? front)
      obtain rfl : t = y := Option.some.inj (slot.symm.trans hy)
      exact (progressFits_iff _).mpr ⟨one, most, lt_of_le_of_ne less part, .inl (place.mpr front)⟩
    · exact fits.progress j u hu

theorem LawsKept.packetSucceeds {x : Exchange} (hx : (s.win w).exchange = some x) (data : x.body ≠ .sync) :
    LawsKept s (s.packetSucceeds w x.body.cost) := by
  cases head : s.headOf w with
  | none => rw [packetSucceeds_headless head]; exact .settleExchange s w
  | some p =>
    obtain ⟨i, t⟩ := p
    by_cases all : t.bytesDone + x.body.cost = t.size
    · obtain ⟨answers, ended⟩ := packetSucceeds_ended head all
      rw [ended]
      exact (LawsKept.offer _ w).after (.headEnded _ _ _ _ head)
    · rw [packetSucceeds_part head all]
      exact (LawsKept.offer _ w).after (.progress hx data head all)

theorem LawsKept.endShort (s : State) (w : WinId) (received : Nat) : LawsKept s (s.endShort w received) := by
  cases head : s.headOf w with
  | none => rw [endShort_headless head]; exact .settleExchange s w
  | some p =>
    obtain ⟨answers, kinds, ended⟩ := endShort_ended head received
    rw [ended]
    exact (LawsKept.offer _ w).after (.headEnded _ _ _ _ head)

end

end Sys2Proof.Proofs
end

section
/-! SUPPORT. Every command keeps the laws together (`exec_kept`), and so does every step (`step_kept`): obligations O51, O58
and O59. -/
namespace Sys2Proof.Proofs
open Sys2Proof.Machine Sys2Proof.Safety

/-! ### Strikes and responses (R94 to R111) -/

section
variable {s : State} {w : WinId} {x : Exchange}

/-- A window's exchange rewritten with the same body. -/
theorem Aside.setExchange (hx : (s.win w).exchange = some x) {y : Exchange} (body : y.body = x.body) :
    Aside s (s.modWin w fun v => { v with exchange := some y }) :=
  .modWin s w ⟨rfl, rfl, rfl, rfl, rfl, by simp [hx, body]⟩ rfl

theorem countWindow_exchange (s : State) (w : WinId) (k : WindowCounter) (n : Nat) :
    ((s.countWindow w k n).win w).exchange = (s.win w).exchange := by
  rw [State.countWindow, State.win_modWin_self]

theorem LawsKept.strike (s : State) (w : WinId) (k : StrikeKind) : LawsKept s (s.strike w k) := by
  unfold State.strike
  split
  · next x d hx hd =>
    have struck := ((Aside.setExchange ((countWindow_exchange s w .strikes 1).trans hx)
      (y := { x with state := .ready, strikes := x.strikes + 1, lastStrike := some k }) rfl).after
        (.countWindow s w .strikes 1)).kept
    dsimp only
    split
    · exact struck
    · exact (LawsKept.failExchange _ w _ _ _).after struck
  · exact .refl s

theorem LawsKept.takeNak (hx : (s.win w).exchange = some x) : LawsKept s (s.takeNak w x) := by
  unfold State.takeNak
  split
  · exact .refl s
  · have backoff := ((Aside.setExchange ((countWindow_exchange s w .naks 1).trans hx)
      (y := { x with state := .backoff 0, strikes := 0 }) rfl).after (.countWindow s w .naks 1)).kept
    dsimp only
    split
    · exact (LawsKept.failExchange _ w _ _ _).after backoff
    · exact backoff

theorem placeRead_exchange (s : State) (w : WinId) (data : List Byte) :
    ((s.placeRead w data).win w).exchange = (s.win w).exchange := by rw [State.placeRead_win]

theorem LawsKept.takeData (hx : (s.win w).exchange = some x) (data : List Byte) : LawsKept s (s.takeData w x data) := by
  have placed := (Aside.placeRead s w data).kept
  unfold State.takeData
  split
  · next far len bit body =>
    split
    · have cost : x.body.cost = len := by rw [body]; rfl
      have ends := LawsKept.packetSucceeds ((placeRead_exchange s w data).trans hx) (by rw [body]; exact nofun)
      rw [cost] at ends
      exact ends.after placed
    · split
      · exact (LawsKept.endShort _ w _).after placed
      · exact .failExchange s w x _ _
  · exact .refl s
  · exact .refl s

/-- An acknowledged SYNC opens its window (R12, R100). -/
theorem LawsKept.syncAcknowledged (s : State) (w : WinId) : LawsKept s (s.syncAcknowledged w) := by
  have at_w := s.win_modWin_self w fun v => { v with state := .opened, exchange := none, seqBit := false }
  have opened : LawsKept s (s.modWin w fun v => { v with state := .opened, exchange := none, seqBit := false }) := by
    refine .of_window w (fun v hv => .modWin_other s hv _) (by rw [at_w]) (by rw [at_w]) (.modWin s w rfl)
      (fun _ h => ?_) (fun _ => by rw [at_w]; exact exchangeFits_none rfl) fun _ _ => .of_none (by rw [at_w])
    rw [at_w] at h
    cases h
  unfold State.syncAcknowledged
  dsimp only
  split
  · exact (Aside.completeDone _ _).kept.after opened
  · exact opened

theorem LawsKept.takeAck (hx : (s.win w).exchange = some x) : LawsKept s (s.takeAck w x) := by
  unfold State.takeAck
  split
  · next far len bit body =>
    have ends := LawsKept.packetSucceeds hx (by rw [body]; exact nofun)
    rwa [show x.body.cost = len by rw [body]; rfl] at ends
  · exact .syncAcknowledged s w
  · exact .refl s

theorem LawsKept.takeResponse (hx : (s.win w).exchange = some x) (r : Response) : LawsKept s (s.takeResponse w x r) := by
  cases r with
  | ack mark => exact .takeAck hx
  | nak => exact .takeNak hx
  | refuse => exact .failExchange s w x _ _
  | data bytes => exact .takeData hx bytes

end

theorem LawsKept.receive (s : State) (f : BitVec 4) (bit : Bool) (r : Response) : LawsKept s (s.receive f bit r) := by
  have good := (Aside.goodPacket s).kept
  unfold State.receive
  dsimp only
  split
  · exact (Aside.stray _).kept.after good
  · exact (Aside.choose _).kept.after ((LawsKept.attemptSince _ _).after ((LawsKept.strike _ _ _).after good))
  · next w x h =>
    have taken := (LawsKept.attemptSince _ s.goodPacket).after ((LawsKept.takeResponse (State.matchResponse_settles h) r).after good)
    split
    · exact (Aside.choose _).kept.after taken
    · exact (Aside.choose _).kept.after taken
    · exact taken
    · exact taken

/-! ### Commands of the management port -/

/-- What a judged frame leaves keeps the laws. -/
def JudgedKept (s : State) : Judged → Prop
  | .refuse _ => True
  | .done t _ => LawsKept s t
  | .pending t => LawsKept s t

theorem LawsKept.command {s : State} (q c : Byte) {judge : State → Judged} (h : ∀ u, JudgedKept u (judge u)) :
    LawsKept s (s.command q c judge) := by
  refine .after (t := s.endTransaction) ?_ (Aside.endTransaction s).kept
  show LawsKept _ (s.endTransaction.conclude q c (judge s.endTransaction))
  have kept := h s.endTransaction
  cases hj : judge s.endTransaction with
  | refuse r => exact (Aside.setResult _ _).kept
  | done t p => rw [hj] at kept; exact .after (Aside.setResult _ _).kept kept
  | pending t => rw [hj] at kept; exact .after (Aside.setResult _ _).kept kept

theorem LawsKept.commandUnlessBusy {s : State} (q c : Byte) {judge : State → Judged} (h : ∀ u, JudgedKept u (judge u)) :
    LawsKept s (s.commandUnlessBusy q c judge) := by
  unfold State.commandUnlessBusy
  split
  · exact (Aside.after (.setResult _ _) (.endTransaction s)).kept
  · exact .command q c h

theorem JudgedKept.onWindow {s : State} {b : Byte} {judge : WinId → Judged} (h : ∀ w, JudgedKept s (judge w)) :
    JudgedKept s (onWindow b judge) := by
  unfold Machine.onWindow
  split
  · trivial
  · exact h _

theorem JudgedKept.onTarget {s : State} {b : Byte} {judge : Target → Judged} (h : ∀ t, JudgedKept s (judge t)) :
    JudgedKept s (onTarget b judge) := by
  unfold Machine.onTarget
  split
  · trivial
  · exact h _

/-! ### The window commands -/

theorem queue_of_idle {s : State} (f : QueuesFit s) {w : WinId} (h : (s.win w).state = .unused ∨ (s.win w).state = .defined ∨
    (s.win w).state = .halted) : (s.win w).queue = [] := f.still w (by rcases h with h | h | h <;> rw [h] <;> rfl)

/-- A window without an exchange out of service stays without a packet. -/
theorem exchange_none_of_idle {s : State} (x : ExchangeLaw s) {w : WinId} (h : (s.win w).state.live = false) :
    (s.win w).exchange = none := by
  have fits := x w
  unfold exchangeFits at fits
  cases e : (s.win w).exchange with
  | none => rfl
  | some y => simp [e, h] at fits

/-- A window out of service, rewritten but for its queue, its pages and its exchange. -/
theorem LawsKept.rewriteIdle (s : State) (w : WinId) {f : Window → Window} (idle : queueless (s.win w).state = true)
    (dead : (s.win w).state.live = false) (queue : (f (s.win w)).queue = (s.win w).queue)
    (pages : (f (s.win w)).pages = (s.win w).pages) (pending : (f (s.win w)).pending = (s.win w).pending)
    (exchange : (f (s.win w)).exchange = (s.win w).exchange) : LawsKept s (s.modWin w f) := by
  have at_w := s.win_modWin_self w f
  have none : ExchangeLaw s → ((s.modWin w f).win w).exchange = Option.none := fun x => by
    rw [at_w, exchange]; exact exchange_none_of_idle x dead
  exact .of_window w (fun v hv => .modWin_other s hv _) (by rw [at_w, queue]) (by rw [at_w, pages]) (.modWin s w pending)
    (fun f _ => f.still w idle) (fun x => exchangeFits_none (none x)) fun x _ => .of_none (none x)

theorem kept_define (b : Byte) (p : DefineParams) (s : State) : JudgedKept s (judgeDefine b p s) := by
  refine .onWindow fun w => ?_
  split
  · trivial
  · next d hd =>
    dsimp only
    split
    · trivial
    · next st =>
      split
      · trivial
      · have idle : (s.win w).state = .unused ∨ (s.win w).state = .defined := by tauto
        have written : LawsKept s (s.modWin w fun x => { x with state := .defined, defn := some d, remaining := d.freshBudget }) :=
          .rewriteIdle s w (by rcases idle with h | h <;> rw [h] <;> rfl) (by rcases idle with h | h <;> rw [h] <;> rfl)
            rfl rfl rfl rfl
        show LawsKept s (ite _ _ _)
        split
        · exact (LawsKept.attempt _).after written
        · exact written

theorem kept_undefine (b : Byte) (s : State) : JudgedKept s (judgeUndefine b s) := by
  refine .onWindow fun w => ?_
  split
  · trivial
  · next st =>
    have st : (s.win w).state = .defined := by simpa using st
    exact (LawsKept.attempt _).after (.rewriteIdle s w (by rw [st]; rfl) (by rw [st]; rfl) rfl rfl rfl rfl)

/-- The page counts of a LAYOUT that is taken are in range (R69). -/
theorem pagesLaw_layout {s : State} {counts : Vector Byte 12} (range : countsInRange counts = true)
    (sum : ¬ (pageCounts counts).sum > Config.totalPages) :
    PagesLaw (s.mapWins fun w x => { x with pages := counts[w].toNat }) := by
  have pages : ∀ w, ((s.mapWins fun w x => { x with pages := counts[w].toNat }).win w).pages = counts[w].toNat := fun w => by
    rw [State.win_mapWins]
  refine ⟨fun w => ?_, ?_⟩
  · rw [pages]
    exact of_decide_eq_true (List.all_eq_true.mp range _ (List.mem_map.mpr ⟨w, mem_allWindows w, rfl⟩))
  · simp only [pages]
    exact not_lt.mp sum

/-- New page counts while no window claims its range (R69, R70). -/
theorem LawsKept.layout {s t : State} {n : WinId → Nat} (free : s.noneClaims = true)
    (ht : t = s.mapWins fun w x => { x with pages := n w }) (pages : PagesLaw t) : LawsKept s t := by
  have win : ∀ w, t.win w = { s.win w with pages := n w } := fun w => by rw [ht, State.win_mapWins]
  have slots : ∀ i, t.slot i = s.slot i := fun i => by rw [ht]; rfl
  have acc : t.acc = s.acc := by rw [ht]; rfl
  have run : t.link = s.link := by rw [ht]; rfl
  have numbers : numbersOf t = numbersOf s := by rw [ht]; rfl
  have signals : signalsOf t = signalsOf s := by rw [ht]; rfl
  have changes : Changes s t := Change.changes (.layout n free ht)
  clear ht
  refine ⟨attnLaw_of_signals (fun w => by rw [win]) signals, Bounded.kept ⟨settingsLaw_of_numbers numbers,
      fun h => by unfold TimeoutRunLaw; rw [run]; exact h, fun h => by unfold DownstreamLaw; rw [acc]; exact h, fun _ => pages⟩,
    transferLaw_of_changes changes, exchangeLaw_of_changes changes,
    fun _ g => (tagLaw_iff _).mpr (((tagLaw_iff s).mp g).same
      (fun w g => outstanding_congr (by rw [win]) (fun i _ => .of_eq (slots i)) g) (by rw [acc]) (by rw [acc])), fun _ _ h => ?_⟩
  have fits := (headLaw_iff s).mp h
  exact (headLaw_iff _).mpr ⟨fun w => (fits.packet w).same (by rw [win]) (by rw [win]) (by rw [win]) fun i hi _ =>
    ⟨by rw [win]; exact hi, .of_eq (slots i)⟩, fun i x hx => fits.progress i x (by rw [← slots i]; exact hx)⟩

theorem kept_layout (counts : Vector Byte 12) (s : State) : JudgedKept s (judgeLayout counts s) := by
  unfold judgeLayout
  split
  · trivial
  · next range =>
    split
    · trivial
    · next free =>
      split
      · trivial
      · next sum =>
        exact .layout (n := fun w => counts[w].toNat) (by simpa using free) rfl (pagesLaw_layout (by simpa using range) sum)

theorem LawsKept.takeOpen {s : State} {w : WinId} (idle : (s.win w).state = .defined ∨ (s.win w).state = .halted) :
    LawsKept s (s.takeOpen w) := by
  have at_w := s.win_modWin_self w fun x => { x with state := .syncing, fault := none, exchange := some (.new .sync) }
  have syncing : LawsKept s (s.modWin w fun x => { x with state := .syncing, fault := none, exchange := some (.new .sync) }) :=
    .of_window w (fun v hv => .modWin_other s hv _) (by rw [at_w]) (by rw [at_w]) (.modWin s w rfl)
      (fun f _ => queue_of_idle f (.inr idle)) (fun _ => by rw [at_w]; rfl) fun _ _ => .of_sync (by rw [at_w]; rfl)
  unfold State.takeOpen
  dsimp only
  split
  · exact (Aside.after (.raiseDevice _ _) (.toCycled _)).kept.after syncing
  · exact syncing

theorem kept_open (q b : Byte) (s : State) : JudgedKept s (judgeOpen q b s) := by
  refine .onWindow fun w => ?_
  split
  · trivial
  · next h =>
    obtain ⟨d, -, idle, -⟩ := openRefusal_none h
    exact (LawsKept.settle _).after ((Aside.startLong _ _ _ _).kept.after (.takeOpen idle))

/-- A window in service moves between OPEN, HELD, FENCED and CLOSING. -/
theorem LawsKept.enter {s : State} {w : WinId} {st : WindowState} (old : (s.win w).state.carriesQueue = true)
    (new : st.carriesQueue = true) : LawsKept s (s.enter w st) := by
  have at_w := s.win_modWin_self w fun x => { x with state := st }
  refine .of_window w (fun v hv => .modWin_other s hv _) (by rw [State.enter, at_w]) (by rw [State.enter, at_w])
    (.modWin s w rfl) (fun _ h => ?_) (fun x => exchangeLaw_of_changes (Change.enter old new).changes x w) fun _ fits =>
      (fits.packet w).same (by rw [State.enter, at_w]) (by rw [State.enter, at_w]) (by rw [State.enter, at_w])
        fun i hi _ => ⟨by rw [State.enter, at_w]; exact hi, .refl _⟩
  rw [State.enter, at_w] at h
  cases st <;> cases new <;> cases h

theorem LawsKept.liftHold (s : State) (w : WinId) (b : Bool) : LawsKept s (s.liftHold w b) := by
  unfold State.liftHold
  split
  · exact (LawsKept.settle _).after (.offer s w)
  · exact .attempt s

theorem LawsKept.closeNow {s : State} {w : WinId}
    (idle : ((s.win w).state.carriesQueue = true ∧ (s.win w).queue = []) ∨ (s.win w).state = .halted) :
    LawsKept s (s.closeNow w) := by
  have at_w := s.win_modWin_self w fun x => { x with state := .defined, fault := none, exchange := none }
  refine (Aside.raiseWindow _ w .closed).kept.after (.of_window w (fun v hv => .modWin_other s hv _) (by rw [at_w])
    (by rw [at_w]) (.modWin s w rfl) (fun f _ => ?_) (fun _ => by rw [at_w]; exact exchangeFits_none rfl)
    fun _ _ => .of_none (by rw [at_w]))
  rcases idle with ⟨-, empty⟩ | halted
  · exact empty
  · exact queue_of_idle f (.inr (.inr halted))

theorem kept_hold (b : Byte) (s : State) : JudgedKept s (judgeHold b s) := by
  refine .onWindow fun w => ?_
  split
  · trivial
  · next h =>
    have h : (s.win w).state = .opened := by simpa using h
    exact (LawsKept.attempt _).after (.enter (by rw [h]; rfl) rfl)

theorem kept_release (b : Byte) (s : State) : JudgedKept s (judgeRelease b s) := by
  refine .onWindow fun w => ?_
  split
  · trivial
  · next h =>
    have h : (s.win w).state = .held := by simpa using h
    exact (LawsKept.liftHold _ w _).after (.enter (by rw [h]; rfl) rfl)

theorem kept_fence (b : Byte) (s : State) : JudgedKept s (judgeFence b s) := by
  refine .onWindow fun w => ?_
  dsimp only
  split
  · trivial
  · next h =>
    have h : (s.win w).state.carriesQueue = true := by
      rcases (show (s.win w).state = .opened ∨ (s.win w).state = .held by tauto) with h | h <;> rw [h] <;> rfl
    exact (LawsKept.liftHold _ w _).after (.enter h rfl)

theorem kept_unfence (b : Byte) (s : State) : JudgedKept s (judgeUnfence b s) := by
  refine .onWindow fun w => ?_
  split
  · trivial
  · next h =>
    have h : (s.win w).state = .fenced := by simpa using h
    exact (LawsKept.attempt _).after (.enter (by rw [h]; rfl) rfl)

/-- CLOSE of a window in service (R18). -/
theorem kept_closeInService {s : State} {w : WinId} (h : (s.win w).state.carriesQueue = true) :
    JudgedKept s (if (s.win w).queue.isEmpty then .done (s.closeNow w).attempt []
      else .done ((s.enter w .closing).liftHold w ((s.win w).state = .held)) []) := by
  split
  · next empty => exact (LawsKept.attempt _).after (.closeNow (.inl ⟨h, by simpa using empty⟩))
  · exact (LawsKept.liftHold _ w _).after (.enter h rfl)

theorem kept_close (b : Byte) (s : State) : JudgedKept s (judgeClose b s) := by
  refine .onWindow fun w => ?_
  have inService := fun h => kept_closeInService (s := s) (w := w) h
  dsimp only
  cases st : (s.win w).state with
  | opened => simpa [st] using inService (by rw [st]; rfl)
  | held => simpa [st] using inService (by rw [st]; rfl)
  | fenced => simpa [st] using inService (by rw [st]; rfl)
  | halted => exact (LawsKept.attempt _).after (.closeNow (.inr st))
  | unused => trivial
  | defined => trivial
  | syncing => trivial
  | closing => trivial

theorem kept_flush (q b : Byte) (s : State) : JudgedKept s (judgeFlush q b s) := by
  refine .onWindow fun w => ?_
  dsimp only
  split
  · trivial
  · split
    · exact .refl s
    · next i _ =>
      exact (Aside.after (.startLong _ _ _ _) (.setSlot s i (by cases h : s.slot i <;> exact rfl))).kept

theorem kept_readWindow (b : Byte) (s : State) : JudgedKept s (judgeReadWindow b s) := by
  refine .onWindow fun w => ?_
  show LawsKept s (ite _ _ _)
  split
  · exact (Aside.same (s := s) (t := { s with freeUses := s.freeUses + 1 }) rfl rfl le_rfl rfl).kept
  · exact .refl s

end Sys2Proof.Proofs
end

section
/-! SUPPORT. Every command keeps the laws together (`exec_kept`), and so does every step (`step_kept`): obligations O51, O58
and O59. -/
namespace Sys2Proof.Proofs
open Sys2Proof.Machine Sys2Proof.Safety

/-! ### The event unit -/

theorem kept_clearCounters (b : Byte) (s : State) : JudgedKept s (judgeClearCounters b s) := by
  refine .onTarget fun t => ?_
  cases t with
  | window w =>
    exact (Aside.modWin s w (f := fun x => { x with counters := .zero }) ⟨rfl, rfl, rfl, rfl, rfl, rfl⟩ rfl).kept
  | device =>
    exact (Aside.same (s := s) (t := { s with ev := { s.ev with counters := .zero } }) rfl rfl le_rfl rfl).kept

/-- New masks, or a new device pending set, with ATTN at its level (R166, R169). -/
theorem Aside.levelled (s : State) (e : EventUnit) : Aside s (State.setAttn { s with ev := e }) :=
  .of_read rfl rfl le_rfl fun _ => rfl

theorem kept_setMasks (wm : Byte) (dm : BitVec 16) (s : State) : JudgedKept s (judgeSetMasks wm dm s) := by
  unfold judgeSetMasks
  split
  · exact (Aside.levelled s _).kept
  · trivial

theorem kept_ackEvents (b : Byte) (k : BitVec 16) (s : State) : JudgedKept s (judgeAckEvents b k s) := by
  refine .onTarget fun t => ?_
  cases t with
  | window w =>
    dsimp only
    split
    · next ks _ => exact (Aside.signal s w fun p => p &&& ~~~ks).kept
    · trivial
  | device =>
    dsimp only
    split
    · exact (Aside.levelled s _).kept
    · trivial

/-! ### The link commands -/

theorem kept_attach (q : Byte) (s : State) : JudgedKept s (judgeAttach q s) := by
  unfold judgeAttach
  split
  · trivial
  · exact (Aside.after (.choose _) (.after (.startLong _ _ _ _) (.takeAttach s))).kept

theorem kept_detach (s : State) : JudgedKept s (judgeDetach s) := by
  unfold judgeDetach
  split
  · trivial
  · split
    · trivial
    · exact (Aside.after (.raiseDevice _ _) (.toDetached s)).kept

/-- The parameters that SET-LINK's check lets pass are in range (R132). -/
theorem settings_in_range {p : LinkParams} {q : LinkSettings} (h : linkSettingsFrom p = some q) :
    (100 ≤ q.cycleLength ∧ q.cycleLength ≤ 2000) ∧ (1 ≤ q.keepAlive ∧ q.keepAlive ≤ 15) ∧
      (2 ≤ q.responseLimit ∧ q.responseLimit ≤ 255) ∧ (1 ≤ q.recoveryLimit ∧ q.recoveryLimit ≤ 1000) ∧ q.waitLimit ≤ 65535 := by
  unfold linkSettingsFrom at h
  split at h
  · cases h
  · split at h
    · next range =>
      obtain rfl := Option.some.inj h
      have response := p.responseLimit.isLt
      have wait := p.waitLimit.isLt
      dsimp only
      omega
    · cases h

theorem Aside.writeSettings {p : LinkParams} {q : LinkSettings} (s : State) (h : linkSettingsFrom p = some q) :
    Aside s (s.writeSettings q) :=
  ⟨fun _ => .refl _, ⟨fun _ => .refl _, rfl, rfl, fun _ => settings_in_range h, id, attnLaw_of_signals (fun _ => rfl) rfl⟩⟩

theorem Aside.setMode (s : State) (m : LinkMode) : Aside s (s.setMode m) := by
  unfold State.setMode
  split
  · exact .refl s
  · split
    · split
      · exact .after (.choose _) (.toCycled s)
      · exact .toCycled s
    · exact .toFree s

theorem Aside.keepAliveChanged (s : State) (old : Nat) : Aside s (s.keepAliveChanged old) := by
  unfold State.keepAliveChanged
  split
  · exact .refl s
  · split
    · split
      · exact .after (.choose _) (.idleDue s)
      · exact .refl s
    · exact .refl s

theorem LawsKept.recoveryLimitChanged (s : State) (old : Nat) : LawsKept s (s.recoveryLimitChanged old) := by
  unfold State.recoveryLimitChanged
  split
  · exact .refl s
  · split
    · split
      · exact (LawsKept.attemptSince _ s).after (.giveUpRecovery s)
      · exact .refl s
    · exact .refl s

theorem LawsKept.waitLimitChanged (s : State) (old : Nat) : LawsKept s (s.waitLimitChanged old) := by
  unfold State.waitLimitChanged
  split
  · exact .refl s
  · split
    · exact .refl s
    · split
      · exact (Aside.expireWait s _).kept
      · exact .attempt s

theorem kept_setLink (p : LinkParams) (s : State) : JudgedKept s (judgeSetLink p s) := by
  unfold judgeSetLink
  split
  · trivial
  · next q h =>
    split
    · trivial
    · exact (LawsKept.waitLimitChanged _ _).after ((LawsKept.recoveryLimitChanged _ _).after
        (Aside.after (.keepAliveChanged _ _) (.after (.setMode _ _) (.writeSettings s h))).kept)

/-! ### ABORT and the resets -/

theorem LawsKept.abortOwner (s : State) : LawsKept s s.abortOwner := by
  unfold State.abortOwner
  split
  · split
    · exact .haltWindow s _ _ _ _
    · exact .refl s
  · exact (Aside.endProbe s).kept
  · exact (Aside.unmarkFlush s _).kept
  · exact .refl s

theorem kept_abort (s : State) : JudgedKept s (judgeAbort s) := by
  unfold judgeAbort
  split
  · trivial
  · exact (LawsKept.attemptSince _ s).after ((LawsKept.abortOwner _).after (Aside.completeLong s _ _).kept)

theorem Aside.clearCycleCount (s : State) : Aside s { s with arb := { s.arb with cycleCount := 0 } } :=
  .same rfl rfl le_rfl rfl

theorem LawsKept.resetLink (s : State) : LawsKept s s.resetLink := by
  have detached := (Aside.toDetached _).kept.after ((LawsKept.haltAllLive _ .linkLost).after
    (Aside.completeLong s .aborted .resetLink).kept)
  unfold State.resetLink
  dsimp only
  refine (LawsKept.attemptSince _ s).after ((Aside.clearCycleCount _).kept.after ?_)
  split
  · exact detached
  · exact (Aside.raiseDevice _ .linkDown).kept.after detached

/-- A reset of every block that these laws read (R163, R173). -/
theorem LawsKept.reset {t : State} (win : t.windows = State.reset.windows) (read : readOf t = readOf State.reset)
    (run : t.link.timeoutRun = 0) (signals : signalsOf t = signalsOf State.reset) (s : State) : LawsKept s t := by
  obtain ⟨attn, -, -, -, bounds, -, exchanges, -, -, -, -, -, transfers, tags, heads, -⟩ := lawsHoldAtReset
  have kept : LawsKept State.reset t := (Aside.same win read (by rw [run]; exact Nat.zero_le _) signals).kept
  exact .of_all (kept.attn attn) (kept.bounds bounds) (kept.transfers transfers) (kept.exchanges exchanges)
    (kept.tags transfers tags) (kept.heads transfers exchanges heads) s

theorem LawsKept.resetAll (s : State) : LawsKept s s.resetAll := by
  refine .reset ?_ ?_ ?_ ?_ s <;> rfl

theorem kept_reset {s : State} (own target : Byte) {effect : State → State} (h : LawsKept s (effect s)) :
    JudgedKept s (judgeReset own target effect s) := by
  unfold judgeReset
  split
  · exact h
  · trivial

/-! ### The bus, the link and the timers -/

theorem kept_requestPresented (r : BusRequest) (s : State) : ∃ t, execRequestPresented r s = .next t ∧ LawsKept s t := by
  unfold execRequestPresented
  split
  · exact ⟨s, rfl, .refl s⟩
  · exact ⟨_, rfl, (LawsKept.attempt _).after (Aside.setPresented s (some _)).kept⟩

theorem kept_waitLimitExpiry (s : State) : ∃ t, execWaitLimitExpiry s = .next t ∧ LawsKept s t := by
  unfold execWaitLimitExpiry
  split
  · exact ⟨s, rfl, .refl s⟩
  · split
    · exact ⟨s, rfl, .refl s⟩
    · exact ⟨_, rfl, (Aside.after (.expireWait _ _) (.elapse s _)).kept⟩

theorem kept_downstreamResponse (g : Tag) (ok : Bool) (data : List Byte) (s : State) :
    ∃ t, execDownstreamResponse g ok data s = .next t ∧ LawsKept s t := by
  unfold execDownstreamResponse
  split
  · next h => exact ⟨_, rfl, (LawsKept.attempt _).after (.passedBack h.1 ok data)⟩
  · exact ⟨s, rfl, .refl s⟩

theorem Aside.attached (s : State) (c l : Nat) : Aside s (s.attached c l) :=
  .after (.choose _) (.after (.startTraffic _) (.after (.completeDone _ _) (.after (.raiseDevice _ _) (.toActive s c l))))

theorem LawsKept.recovered (s : State) (c l : Nat) (fresh : Bool) : LawsKept s (s.recovered c l fresh) := by
  have active := (Aside.after (.raiseDevice _ .recovered) (.toActive s c l)).kept
  unfold State.recovered
  dsimp only
  exact (Aside.after (.choose _) (.markNewHeads _)).kept.after ((LawsKept.attemptSince _ s).after
    ((Aside.startTraffic _).kept.after ((LawsKept.recoveryCheck _ fresh).after active)))

theorem kept_helloReply (c : BitVec 32) (l : BitVec 16) (fresh : Bool) (s : State) :
    ∃ t, execHelloReplyReceived c l fresh s = .next t ∧ LawsKept s t := by
  have good := (Aside.goodPacket s).kept
  have stray := (Aside.stray _).kept.after good
  unfold execHelloReplyReceived
  dsimp only
  split
  · split
    · exact ⟨_, rfl, (Aside.attached _ _ _).kept.after good⟩
    · exact ⟨_, rfl, (LawsKept.recovered _ _ _ fresh).after good⟩
    · exact ⟨_, rfl, stray⟩
    · exact ⟨_, rfl, stray⟩
  · exact ⟨_, rfl, stray⟩

theorem kept_badCheckPacket (s : State) : ∃ t, execBadCheckPacket s = .next t ∧ LawsKept s t := by
  unfold execBadCheckPacket
  split
  · exact ⟨_, rfl, (Aside.choose _).kept.after ((LawsKept.attemptSince _ s).after (.strike s _ _))⟩
  · exact ⟨_, rfl, (Aside.stray s).kept⟩

theorem Aside.signalPresent (s : State) (b : Bool) : Aside s { s with link := { s.link with signalPresent := b } } :=
  .same rfl rfl le_rfl rfl

theorem kept_lossOfSignal (s : State) : ∃ t, execLossOfSignal s = .next t ∧ LawsKept s t := by
  unfold execLossOfSignal
  dsimp only
  split
  · exact ⟨_, rfl, (Aside.after (.choose _) (.after (.enterRecovering _) (.signalPresent s false))).kept⟩
  · exact ⟨_, rfl, (Aside.signalPresent s false).kept⟩

theorem kept_responseLimitExpiry (w : WinId) (s : State) : ∃ t, execResponseLimitExpiry w s = .next t ∧ LawsKept s t := by
  unfold execResponseLimitExpiry
  split
  · exact ⟨s, rfl, .refl s⟩
  · split
    · exact ⟨_, rfl, (Aside.choose _).kept.after ((LawsKept.attemptSince _ _).after ((Aside.countTimeout _).kept.after
        ((LawsKept.strike _ w _).after (Aside.after (.countDevice _ _ _) (.elapse s _)).kept)))⟩
    · exact ⟨s, rfl, .refl s⟩
    · exact ⟨s, rfl, .refl s⟩
    · exact ⟨s, rfl, .refl s⟩

theorem kept_nakIntervalEnd (w : WinId) (s : State) : ∃ t, execNakIntervalEnd w s = .next t ∧ LawsKept s t := by
  unfold execNakIntervalEnd
  split
  · exact ⟨s, rfl, .refl s⟩
  · split
    · exact ⟨_, rfl, (Aside.after (.choose _) (.after (.modWin _ w
        ⟨rfl, rfl, rfl, rfl, rfl, by simp [Function.comp_def]⟩ rfl) (.elapse s _))).kept⟩
    · exact ⟨s, rfl, .refl s⟩
    · exact ⟨s, rfl, .refl s⟩
    · exact ⟨s, rfl, .refl s⟩

/-- The transmitter FREE, a packet sent, and the keep-alive timer as it is then (R86, R130). -/
theorem Aside.sent (s : State) (a : Arbiter) (o : Outputs) (length : a.cycleLength = s.arb.cycleLength)
    (interval : a.keepAliveInterval = s.arb.keepAliveInterval) : Aside s { s with arb := a, out := o } :=
  .same rfl (by unfold readOf numbersOf; rw [length, interval]) le_rfl rfl

theorem kept_transmissionEnd (s : State) : ∃ t, execTransmissionEnd s = .next t ∧ LawsKept s t := by
  unfold execTransmissionEnd
  split
  · exact ⟨s, rfl, .refl s⟩
  · dsimp only
    split
    · refine ⟨_, rfl, (Aside.after (.choose _) (.after (.startAwaiting _ _) ?_)).kept⟩
      exact .sent s _ _ rfl rfl
    · refine ⟨_, rfl, (Aside.after (.choose _) ?_).kept⟩
      exact .sent s _ _ rfl rfl

theorem kept_cycleStart (s : State) : ∃ t, execCycleStart s = .next t ∧ LawsKept s t := by
  unfold execCycleStart
  split
  · exact ⟨s, rfl, .refl s⟩
  · exact ⟨_, rfl, (Aside.after (.choose _) (.after (.startCycle _) (.elapse s _))).kept⟩

theorem kept_keepAliveExpiry (s : State) : ∃ t, execKeepAliveExpiry s = .next t ∧ LawsKept s t := by
  unfold execKeepAliveExpiry
  split
  · exact ⟨s, rfl, .refl s⟩
  · exact ⟨_, rfl, (Aside.after (.choose _) (.after (.idleDue _) (.elapse s _))).kept⟩

theorem kept_probeTimerExpiry (s : State) : ∃ t, execProbeTimerExpiry s = .next t ∧ LawsKept s t := by
  unfold execProbeTimerExpiry
  split
  · exact ⟨s, rfl, .refl s⟩
  · dsimp only
    split
    · exact ⟨_, rfl, (Aside.elapse s _).kept⟩
    · exact ⟨_, rfl, (Aside.after (.choose _) (.after (.helloDue _) (.elapse s _))).kept⟩

theorem kept_attachNoReply (s : State) : ∃ t, execAttachNoReply s = .next t ∧ LawsKept s t := by
  unfold execAttachNoReply
  split
  · dsimp only
    refine ⟨_, rfl, ?_⟩
    split
    · exact (Aside.after (.completeLong _ _ _) (.after (.toDetached _) (.elapse s _))).kept
    · exact (Aside.after (.toDetached _) (.elapse s _)).kept
  · exact ⟨s, rfl, .refl s⟩

theorem kept_recoveryLimitExpiry (s : State) : ∃ t, execRecoveryLimitExpiry s = .next t ∧ LawsKept s t := by
  unfold execRecoveryLimitExpiry
  split
  · exact ⟨_, rfl, (LawsKept.attemptSince _ s).after ((LawsKept.giveUpRecovery _).after (Aside.elapse s _).kept)⟩
  · exact ⟨s, rfl, .refl s⟩

/-! ### Every command and every step -/

theorem exec_kept (c : Instr) (s : State) : ∃ t, exec c s = .next t ∧ LawsKept s t := by
  cases c with
  | pinReset => refine ⟨_, rfl, .reset ?_ ?_ ?_ ?_ s⟩ <;> rfl
  | getStatus q => exact ⟨_, rfl, .command q _ fun u => .refl u⟩
  | define q w p => exact ⟨_, rfl, .commandUnlessBusy q _ (kept_define w p)⟩
  | undefine q w => exact ⟨_, rfl, .commandUnlessBusy q _ (kept_undefine w)⟩
  | layout q n => exact ⟨_, rfl, .commandUnlessBusy q _ (kept_layout n)⟩
  | openWindow q w => exact ⟨_, rfl, .commandUnlessBusy q _ (kept_open q w)⟩
  | hold q w => exact ⟨_, rfl, .commandUnlessBusy q _ (kept_hold w)⟩
  | release q w => exact ⟨_, rfl, .commandUnlessBusy q _ (kept_release w)⟩
  | fence q w => exact ⟨_, rfl, .commandUnlessBusy q _ (kept_fence w)⟩
  | unfence q w => exact ⟨_, rfl, .commandUnlessBusy q _ (kept_unfence w)⟩
  | close q w => exact ⟨_, rfl, .commandUnlessBusy q _ (kept_close w)⟩
  | flush q w => exact ⟨_, rfl, .commandUnlessBusy q _ (kept_flush q w)⟩
  | readWindow q w => exact ⟨_, rfl, .commandUnlessBusy q _ (kept_readWindow w)⟩
  | readFault q w => exact ⟨_, rfl, .commandUnlessBusy q _ fun u => .onWindow fun _ => LawsKept.refl u⟩
  | readCounters q b => exact ⟨_, rfl, .commandUnlessBusy q _ fun u => .onTarget fun _ => LawsKept.refl u⟩
  | clearCounters q b => exact ⟨_, rfl, .commandUnlessBusy q _ (kept_clearCounters b)⟩
  | attach q => exact ⟨_, rfl, .commandUnlessBusy q _ (kept_attach q)⟩
  | detach q => exact ⟨_, rfl, .commandUnlessBusy q _ kept_detach⟩
  | setLink q p => exact ⟨_, rfl, .commandUnlessBusy q _ (kept_setLink p)⟩
  | setMasks q wm dm => exact ⟨_, rfl, .commandUnlessBusy q _ (kept_setMasks wm dm)⟩
  | readEvents q => exact ⟨_, rfl, .commandUnlessBusy q _ fun u => LawsKept.refl u⟩
  | ackEvents q b k => exact ⟨_, rfl, .commandUnlessBusy q _ (kept_ackEvents b k)⟩
  | abort q => exact ⟨_, rfl, .command q _ kept_abort⟩
  | resetBlockWindows q b => exact ⟨_, rfl, .command q _ fun u => kept_reset 1 b (.resetWindows u)⟩
  | resetBlockLink q b => exact ⟨_, rfl, .command q _ fun u => kept_reset 2 b (.resetLink u)⟩
  | resetBlockAll q b => exact ⟨_, rfl, .command q _ fun u => kept_reset 3 b (.resetAll u)⟩
  | frameError q b d => exact ⟨_, rfl, (Aside.after (.setResult _ _) (.endTransaction s)).kept⟩
  | frameDiscarded => exact ⟨_, rfl, (Aside.endTransaction s).kept⟩
  | requestPresented r => exact kept_requestPresented r s
  | acceptanceAttempt => exact ⟨_, rfl, .attempt s⟩
  | waitLimitExpiry => exact kept_waitLimitExpiry s
  | downstreamResponse g ok data => exact kept_downstreamResponse g ok data s
  | ackReceived f b m => exact ⟨_, rfl, .receive s f b _⟩
  | nakReceived f b => exact ⟨_, rfl, .receive s f b _⟩
  | refuseReceived f b => exact ⟨_, rfl, .receive s f b _⟩
  | dataReceived f b data => exact ⟨_, rfl, .receive s f b _⟩
  | helloReplyReceived c l fresh => exact kept_helloReply c l fresh s
  | badCheckPacket => exact kept_badCheckPacket s
  | otherInboundPacket ty => exact ⟨_, rfl, (Aside.after (.stray _) (.goodPacket s)).kept⟩
  | responseLimitExpiry w => exact kept_responseLimitExpiry w s
  | nakIntervalEnd w => exact kept_nakIntervalEnd w s
  | transmissionEnd => exact kept_transmissionEnd s
  | cycleStart => exact kept_cycleStart s
  | keepAliveExpiry => exact kept_keepAliveExpiry s
  | probeTimerExpiry => exact kept_probeTimerExpiry s
  | attachNoReply => exact kept_attachNoReply s
  | recoveryLimitExpiry => exact kept_recoveryLimitExpiry s
  | lossOfSignal => exact kept_lossOfSignal s
  | signalPresent => exact ⟨_, rfl, (Aside.signalPresent s true).kept⟩
  | chipSelectFalls =>
    exact ⟨_, rfl, (Aside.same (s := s) (t := { s with cmd := { s.cmd with receiver := s.cmd.receiver.fall } }) rfl rfl le_rfl rfl).kept⟩
  | resultTransaction n =>
    refine ⟨_, rfl, (Aside.after ?_ (.endTransaction s)).kept⟩
    exact .sent s.endTransaction s.arb _ rfl rfl

/-- Every step keeps the laws together. -/
theorem step_kept {s t : State} (h : step s = .next t) : LawsKept s t := by
  unfold step at h
  split at h
  · obtain rfl := Host.Outcome.next.inj h
    exact (Aside.elapse s 1).kept
  · next c rest _ =>
    obtain ⟨u, hu, kept⟩ := exec_kept c { s with pending := rest }
    obtain rfl : u = t := Host.Outcome.next.inj (hu.symm.trans h)
    exact kept.after (Aside.same (s := s) (t := { s with pending := rest }) rfl rfl le_rfl rfl).kept

/-! ### The obligations -/

/-- Settles O51: ATTN and the bounds are two of the laws that every step keeps. -/
theorem attnAndBoundsAreKept : Obligations.AttnAndBoundsAreKept :=
  ⟨fun _ _ attn h => (step_kept h).attn attn, fun _ _ bounds h => (step_kept h).bounds bounds⟩

/-- Settles O58: the tag order table with the queues and slots. -/
theorem tagTableTellsWhatIsOutstanding : Obligations.TagTableTellsWhatIsOutstanding :=
  fun _ _ ⟨transfers, tags⟩ h => ⟨(step_kept h).transfers transfers, (step_kept h).tags transfers tags⟩

/-- Settles O59: the heads' packets with the queues, slots and exchanges. -/
theorem exchangeIsTheHeadsPacket : Obligations.ExchangeIsTheHeadsPacket :=
  fun _ _ ⟨transfers, exchanges, heads⟩ h =>
    ⟨(step_kept h).transfers transfers, (step_kept h).exchanges exchanges, (step_kept h).heads transfers exchanges heads⟩

end Sys2Proof.Proofs
end

section
/-! SUPPORT. When the presented request waits for what it lacks (R25): what its judging reads (`judge_congr`), the operations
that leave that (`Unseen`), and those that leave it or move a window (`Steady`). -/
namespace Sys2Proof.Proofs
open Sys2Proof.Machine Sys2Proof.Safety

/-! ### A settled acceptance point -/

/-- A presented request waits with the reason an attempt would record. -/
def Waits (s : State) (p : Presented) : Prop :=
  (p.expired.isSome = true ∧ (s.tagEntry p.req.tag).dest ≠ .none ∧ p.reason = .tag) ∨
    (p.expired = none ∧ s.judge p.req = .wait p.reason)

theorem waitFor_self {s : State} {p : Presented} (h : s.acc.presented = some p) : s.waitFor p p.reason = s :=
  s.setPresented_self h

theorem settledLaw_iff (s : State) : SettledLaw s ↔ ∀ p, s.acc.presented = some p → Waits s p := by
  constructor
  · intro settled p hp
    have presented : s.attempt.acc.presented = some p := by rw [settled, hp]
    cases expired : p.expired with
    | some k =>
      rw [State.attempt_of_expired hp expired] at presented
      rcases s.attemptExpired_cases p k with ⟨-, e⟩ | ⟨tag, e⟩
      · rw [e] at presented; cases presented
      · rw [e] at presented
        exact .inl ⟨by rw [expired]; rfl, tag, (congrArg Presented.reason (Option.some.inj presented)).symm⟩
    | none =>
      rw [State.attempt_of_fresh hp expired, State.apply_presented] at presented
      cases judged : s.judge p.req with
      | wait why =>
        rw [judged] at presented
        refine .inr ⟨expired, ?_⟩
        rw [judged, show why = p.reason from congrArg Presented.reason (Option.some.inj presented)]
      | error k => simp [judged] at presented
      | take w i => simp [judged] at presented
      | forward => simp [judged] at presented
  · intro waits
    cases hp : s.acc.presented with
    | none => exact State.attempt_of_none s hp
    | some p =>
      rcases waits p hp with ⟨expired, tag, reason⟩ | ⟨fresh, judged⟩
      · obtain ⟨k, expired⟩ := Option.isSome_iff_exists.mp expired
        show s.attempt = s
        rw [State.attempt_of_expired hp expired]
        rcases s.attemptExpired_cases p k with ⟨none, -⟩ | ⟨-, e⟩
        · exact absurd none tag
        · rw [e, ← reason, waitFor_self hp]
      · show s.attempt = s
        rw [State.attempt_of_fresh hp fresh, judged]
        exact waitFor_self hp

theorem settledLaw_of_none {s : State} (h : s.acc.presented = none) : SettledLaw s := State.attempt_of_none s h

/-- An expired request is answered, or waits for its tag (R30, R34). -/
theorem settledLaw_attemptExpired {s : State} {p : Presented} {k : ErrorKind} (expired : p.expired = some k) :
    SettledLaw (s.attemptExpired p k) := by
  rcases s.attemptExpired_cases p k with ⟨-, e⟩ | ⟨tag, e⟩ <;> rw [e]
  · exact settledLaw_of_none rfl
  · refine (settledLaw_iff _).mpr fun q hq => ?_
    obtain rfl := Option.some.inj hq
    exact .inl ⟨by rw [expired]; rfl, tag, rfl⟩

theorem settledLaw_attempt (s : State) : SettledLaw s.attempt := by
  cases hp : s.acc.presented with
  | none => rw [State.attempt_of_none s hp]; exact settledLaw_of_none hp
  | some p =>
    cases expired : p.expired with
    | some k => rw [State.attempt_of_expired hp expired]; exact settledLaw_attemptExpired expired
    | none =>
      rw [State.attempt_of_fresh hp expired]
      have presented := s.apply_presented p (s.judge p.req)
      cases judged : s.judge p.req with
      | wait why =>
        refine (settledLaw_iff _).mpr fun q hq => ?_
        obtain rfl := Option.some.inj hq
        exact .inr ⟨expired, judged⟩
      | error k => exact settledLaw_of_none (by rw [judged] at presented; exact presented)
      | take w i => exact settledLaw_of_none (by rw [judged] at presented; exact presented)
      | forward => exact settledLaw_of_none (by rw [judged] at presented; exact presented)

theorem settledLaw_expireWait (s : State) (p : Presented) : SettledLaw (s.expireWait p) := settledLaw_attemptExpired rfl

/-! ### What the judging of a request reads -/

section
variable {s t : State}

/-- What a far request is judged by (R29, R31). -/
theorem judgeFar_congr {w : WinId} (defn : (t.win w).defn = (s.win w).defn) (queue : (t.win w).queue = (s.win w).queue)
    (pages : (t.win w).pages = (s.win w).pages) (slots : SlotsKept s t) (tags : t.acc.tags = s.acc.tags) (r : BusRequest) :
    t.judgeFar r w = s.judgeFar r w := by
  have entry := State.tags_eq_iff.mp tags
  have size : t.sizeAt = s.sizeAt := funext fun i => by
    have h := congrArg (Option.map fun c => c.2.2) (slots i)
    simp only [Option.map_map, Function.comp_def, core] at h
    simp only [State.sizeAt, h]
  have free : ∀ i, (t.slot i).isNone = (s.slot i).isNone := fun i => by
    have h := congrArg Option.isNone (slots i)
    simpa using h
  have permits : t.tagPermitsFar r w = s.tagPermitsFar r w := by
    simp only [State.tagPermitsFar, Window.kindFor, defn, entry]
  have low : t.lowestFree = s.lowestFree := by simp only [State.lowestFree, free]
  have area : (t.win w).area = (s.win w).area := by simp only [Window.area, pages]
  have reserved : t.reserved w = s.reserved w := by rw [State.reserved_eq, State.reserved_eq, queue, size]
  simp only [State.judgeFar, permits, low, area, reserved]

/-- What a request is judged by: the ranges that windows hold, those that take requests, and the tags (R26 to R32). -/
theorem judge_congr (holds : ∀ w a, (t.win w).holds a = (s.win w).holds a)
    (takes : ∀ w, (t.win w).state.takes = (s.win w).state.takes)
    (far : ∀ r w, (s.win w).state.takes = true → t.judgeFar r w = s.judgeFar r w)
    (tags : t.acc.tags = s.acc.tags) (down : t.acc.downstream = s.acc.downstream) (r : BusRequest) :
    t.judge r = s.judge r := by
  have entry := State.tags_eq_iff.mp tags
  have holder : ∀ a, t.holder a = s.holder a := fun a => by simp only [State.holder, holds]
  have classes : t.classify r = s.classify r := by simp only [State.classify, holder]
  have error : ∀ k, t.errorVerdict r.tag k = s.errorVerdict r.tag k := fun k => by simp only [State.errorVerdict, entry]
  unfold State.judge
  rw [classes]
  cases s.classify r with
  | malformed => exact error _
  | straddle => exact error _
  | localMem => simp only [State.judgeLocal, entry, down]
  | far w =>
    simp only [takes, error]
    split
    · next h => exact far r w h
    · rfl

/-! ### Operations that the presented request does not see -/

/-- What of a presented request an attempt depends on: all but the time it has waited. -/
def pleaOf (p : Presented) : BusRequest × WaitReason × Option ErrorKind := (p.req, p.reason, p.expired)

/-- No window's state or queue, no tag, and nothing that a request is judged by has changed, and the presented request is
the same but for the time it has waited. -/
structure Unseen (s t : State) : Prop where
  win : ∀ w, (t.win w).state = (s.win w).state ∧ (t.win w).queue = (s.win w).queue
  presented : t.acc.presented.map pleaOf = s.acc.presented.map pleaOf
  tags : t.acc.tags = s.acc.tags
  judge : ∀ r, t.judge r = s.judge r

theorem Unseen.refl (s : State) : Unseen s s := ⟨fun _ => ⟨rfl, rfl⟩, rfl, rfl, fun _ => rfl⟩

theorem Unseen.after {u : State} (k : Unseen t u) (h : Unseen s t) : Unseen s u :=
  ⟨fun w => ⟨(k.win w).1.trans (h.win w).1, (k.win w).2.trans (h.win w).2⟩, k.presented.trans h.presented,
    k.tags.trans h.tags, fun r => (k.judge r).trans (h.judge r)⟩

/-- What a settled request does not see leaves it settled (R25). -/
theorem Unseen.settled (h : Unseen s t) (settled : SettledLaw s) : SettledLaw t := by
  refine (settledLaw_iff t).mpr fun p hp => ?_
  have plea := h.presented
  rw [hp] at plea
  obtain ⟨q, hq, same⟩ := Option.map_eq_some_iff.mp plea.symm
  simp only [pleaOf, Prod.mk.injEq] at same
  obtain ⟨req, reason, expired⟩ := same
  have waits := (settledLaw_iff s).mp settled q hq
  unfold Waits at waits ⊢
  rw [State.tags_eq_iff.mp h.tags, h.judge, ← req, ← reason, ← expired]
  exact waits

/-- Windows whose state, definition, queue and pages stay, and slots with what they hold, are not seen. -/
theorem Unseen.of_same (win : ∀ w, (t.win w).state = (s.win w).state ∧ (t.win w).defn = (s.win w).defn ∧
      (t.win w).queue = (s.win w).queue ∧ (t.win w).pages = (s.win w).pages) (slots : SlotsKept s t)
    (tags : t.acc.tags = s.acc.tags) (down : t.acc.downstream = s.acc.downstream)
    (presented : t.acc.presented.map pleaOf = s.acc.presented.map pleaOf) : Unseen s t := by
  refine ⟨fun w => ⟨(win w).1, (win w).2.2.1⟩, presented, tags, judge_congr (fun w a => ?_) (fun w => ?_) (fun r w _ => ?_)
    tags down⟩ <;> obtain ⟨state, defn, queue, pages⟩ := win w
  · simp only [Window.holds, state, defn]
  · rw [state]
  · exact judgeFar_congr defn queue pages slots tags r

theorem Unseen.of_quiet (h : Quiet s t) (acc : t.acc = s.acc) : Unseen s t :=
  .of_same (fun w => ⟨(h.win w).state, (h.win w).defn, (h.win w).queue, (h.win w).pages⟩) h.slots (by rw [acc]) (by rw [acc])
    (by rw [acc])

theorem Unseen.of_aside (h : Aside s t) (presented : t.acc.presented = s.acc.presented) : Unseen s t :=
  .of_same (fun w => ⟨(h.win w).state, (h.win w).defn, (h.win w).queue, (h.win w).pages⟩)
    (fun i => (h.rest.slots i).core) h.rest.tags h.rest.downstream (by rw [presented])

end

/-! ### The operations one by one -/

section
variable (s : State)

theorem markHeads_acc : s.markHeads.acc = s.acc := by rw [State.markHeads_frame]

theorem lateDetection_acc : s.lateDetection.acc = s.acc := by
  unfold State.lateDetection
  dsimp only
  rw [markHeads_acc]
  exact foldl_keeps State.acc _ (fun u w => by split <;> rfl) _ s

theorem startCycle_acc : s.startCycle.acc = s.acc := by
  unfold State.startCycle
  dsimp only
  rw [lateDetection_acc]
  rfl

theorem toCycled_acc : s.toCycled.acc = s.acc := by
  unfold State.toCycled
  dsimp only
  split
  · rw [startCycle_acc]
  · rfl

theorem Unseen.choose : Unseen s s.choose := .of_quiet (.choose s) s.choose_acc

theorem Unseen.offer (w : WinId) : Unseen s (s.offer w) := .of_quiet (.offer s w) (s.offer_acc w)

theorem Unseen.startCycle : Unseen s s.startCycle := .of_quiet (.startCycle s) (startCycle_acc s)

theorem Unseen.startTraffic : Unseen s s.startTraffic := by
  unfold State.startTraffic
  split
  · exact .startCycle s
  · exact .of_quiet (.of_eq rfl rfl rfl rfl) rfl

theorem Unseen.markNewHeads : Unseen s s.markNewHeads := by
  unfold State.markNewHeads
  split
  · exact .of_quiet (.markHeads s) (markHeads_acc s)
  · exact .refl s

theorem Unseen.toCycled : Unseen s s.toCycled := .of_quiet (.toCycled s) (toCycled_acc s)

theorem Unseen.completeLong (st : LongState) (d : LongDetail) : Unseen s (s.completeLong st d) :=
  .of_aside (.completeLong s st d) (by rw [s.completeLong_frame])

theorem Unseen.completeDone (c : LongCode) : Unseen s (s.completeDone c) :=
  .of_aside (.completeDone s c) (by rw [s.completeDone_frame])

theorem Unseen.raiseDevice (k : DeviceKind) : Unseen s (s.raiseDevice k) := .of_quiet (.raiseDevice s k) rfl

theorem Unseen.toDetached : Unseen s s.toDetached := .of_aside (.toDetached s) rfl

theorem Unseen.toActive (c l : Nat) : Unseen s (s.toActive c l) := .of_aside (.toActive s c l) rfl

theorem Unseen.endProbe : Unseen s s.endProbe := by
  unfold State.endProbe
  split
  · exact .toDetached s
  · exact .refl s

theorem Unseen.enterRecovering : Unseen s s.enterRecovering := .of_aside (.enterRecovering s) rfl

theorem Unseen.countTimeout : Unseen s s.countTimeout := by
  refine .of_aside (.countTimeout s) ?_
  unfold State.countTimeout
  split
  · dsimp only
    split <;> rfl
  · rfl

theorem Unseen.elapse (n : Nat) : Unseen s (s.elapse n) :=
  .of_same (fun w => by rw [State.elapse_win]; exact ⟨rfl, rfl, rfl, rfl⟩) (fun _ => rfl) rfl rfl (by
    show (s.acc.presented.map _).map pleaOf = _
    rw [Option.map_map]
    rfl)

theorem Unseen.stray : Unseen s s.stray := .of_quiet (.stray s) rfl

theorem Unseen.goodPacket : Unseen s s.goodPacket := .of_quiet (.goodPacket s) rfl

theorem Unseen.setResult (r : ResultRecord) : Unseen s (s.setResult r) := .of_quiet (.setResult s r) rfl

theorem Unseen.endTransaction : Unseen s s.endTransaction := .of_quiet (.endTransaction s) rfl

theorem Unseen.startLong (c : LongCode) (q : Byte) (w : Option WinId) : Unseen s (s.startLong c q w) :=
  .of_aside (.startLong s c q w) rfl

theorem Unseen.countWindow (w : WinId) (k : WindowCounter) (n : Nat) : Unseen s (s.countWindow w k n) :=
  .of_quiet (.countWindow s w k n) rfl

theorem Unseen.startAwaiting (w : WinId) : Unseen s (s.startAwaiting w) := by
  refine .of_quiet (.startAwaiting s w) ?_
  unfold State.startAwaiting
  split
  · split <;> rfl
  · rfl

theorem Unseen.placeRead (w : WinId) (data : List Byte) : Unseen s (s.placeRead w data) := by
  refine .of_quiet (.placeRead s w data) ?_
  unfold State.placeRead
  split <;> rfl

end

/-! ### Operations that move a window or are not seen -/

/-- If every window keeps its state and its queue, the presented request sees nothing. -/
def Steady (s t : State) : Prop :=
  (∀ w, (t.win w).state = (s.win w).state ∧ (t.win w).queue = (s.win w).queue) → Unseen s t

section
variable {s t u : State}

theorem Unseen.steady (h : Unseen s t) : Steady s t := fun _ => h

theorem Steady.after (k : Unseen t u) (h : Steady s t) : Steady s u := fun still =>
  k.after (h fun w => ⟨(k.win w).1.symm.trans (still w).1, (k.win w).2.symm.trans (still w).2⟩)

theorem Steady.before (k : Steady t u) (h : Unseen s t) : Steady s u := fun still =>
  (k fun w => ⟨(still w).1.trans (h.win w).1.symm, (still w).2.trans (h.win w).2.symm⟩).after h

/-- A window that has moved. -/
theorem Steady.of_moved {w : WinId} (h : (t.win w).state ≠ (s.win w).state ∨ (t.win w).queue ≠ (s.win w).queue) :
    Steady s t := fun still => absurd (still w) (by tauto)

/-- The attempt that follows a moved window settles the request, and otherwise it was settled (R25). -/
theorem Steady.settled (h : Steady s t) (settled : SettledLaw s) : SettledLaw (t.attemptSince s) := by
  by_cases still : ∀ w, (t.win w).state = (s.win w).state ∧ (t.win w).queue = (s.win w).queue
  · rw [State.attemptSince_of_still still]
    exact (h still).settled settled
  · obtain ⟨w, moved⟩ := not_forall.mp still
    rw [State.attemptSince_of_moved (w := w) (by tauto)]
    exact settledLaw_attempt t

/-- Halts: each window stays or is HALTED with an empty queue, and if no window has moved nothing is seen. -/
structure Halting (s t : State) : Prop where
  win : ∀ w, ((t.win w).state = (s.win w).state ∧ (t.win w).queue = (s.win w).queue) ∨
    ((t.win w).state = .halted ∧ (t.win w).queue = [])
  steady : Steady s t

theorem Unseen.halting (h : Unseen s t) : Halting s t := ⟨fun w => .inl (h.win w), h.steady⟩

/-- A window that halts twice is HALTED after the first halt, so a step that moves no window moved none on the way. -/
theorem Halting.after (k : Halting t u) (h : Halting s t) : Halting s u := by
  refine ⟨fun w => ?_, fun still => ?_⟩
  · rcases k.win w with ⟨state, queue⟩ | halted
    · rw [state, queue]; exact h.win w
    · exact .inr halted
  · have before : ∀ w, (t.win w).state = (s.win w).state ∧ (t.win w).queue = (s.win w).queue := fun w => by
      rcases h.win w with same | ⟨state, queue⟩
      · exact same
      · have halted : (u.win w).state = .halted ∧ (u.win w).queue = [] := by
          rcases k.win w with ⟨state', queue'⟩ | halted
          · exact ⟨state'.trans state, queue'.trans queue⟩
          · exact halted
        rw [state, queue, ← (still w).1, ← (still w).2, halted.1, halted.2]
        exact ⟨rfl, rfl⟩
    exact (k.steady fun w => ⟨(still w).1.trans (before w).1.symm, (still w).2.trans (before w).2.symm⟩).after (h.steady before)

theorem Halting.haltWindow (s : State) (w : WinId) (c : FaultCause) (k : Option StrikeKind) (far : Option FarAddr) :
    Halting s (s.haltWindow w c k far) := by
  have at_w : (s.haltWindow w c k far).win w = haltedRecord s w c k far := by rw [s.haltWindow_win, if_pos rfl]
  have other : ∀ v, v ≠ w → (s.haltWindow w c k far).win v = s.win v := fun v hv => by rw [s.haltWindow_win, if_neg hv]
  refine ⟨fun v => ?_, fun still => ?_⟩
  · by_cases e : v = w
    · rw [e, at_w]; exact .inr ⟨rfl, rfl⟩
    · rw [other v e]; exact .inl ⟨rfl, rfl⟩
  · have empty : (s.win w).queue = [] := by rw [← (still w).2, at_w]; rfl
    have acc : (s.haltWindow w c k far).acc = s.acc := by
      rw [s.haltWindow_acc, empty, show s.transfersOf [] = [] from rfl, tagsAfter_nil]
    refine .of_same (fun v => ⟨(still v).1, ?_, (still v).2, ?_⟩) (fun i => ?_) (by rw [acc]) (by rw [acc]) (by rw [acc])
    · by_cases e : v = w
      · rw [e, at_w]; rfl
      · rw [other v e]
    · by_cases e : v = w
      · rw [e, at_w]; rfl
      · rw [other v e]
    · rw [s.haltWindow_slot, empty, if_neg (by simp)]

theorem Halting.haltFold (s : State) (p : State → WinId → Bool) (c : FaultCause) :
    Halting s (allWindows.foldl (fun s w => if p s w then s.haltWindow w c none none else s) s) := by
  refine foldl_invariant (fun t => Halting s t) _ (fun t w ht => ?_) _ s (Unseen.refl s).halting
  split
  · exact (Halting.haltWindow t w c none none).after ht
  · exact ht

theorem Halting.haltAllLive (s : State) (c : FaultCause) : Halting s (s.haltAllLive c) :=
  .haltFold s (fun s w => (s.win w).state.live) c

theorem Halting.recoveryCheck (s : State) (fresh : Bool) : Halting s (s.recoveryCheck fresh) := by
  unfold State.recoveryCheck
  dsimp only
  refine .after (.haltFold _ (fun s w => (s.win w).state.live && s.outOfRange w) .farRange) ?_
  split
  · exact .haltFold s (fun s w => (s.win w).state.carriesQueue) .moduleReset
  · exact (Unseen.refl s).halting

theorem Steady.giveUpRecovery (s : State) : Steady s s.giveUpRecovery :=
  (Halting.haltAllLive _ _).steady.before (Unseen.after (.raiseDevice _ _) (.toDetached s))

theorem Steady.failExchange (s : State) (w : WinId) (x : Exchange) (c : FaultCause) (k : Option StrikeKind) :
    Steady s (s.failExchange w x c k) := by
  unfold State.failExchange
  split <;> exact (Halting.haltWindow s w _ _ _).steady

/-- A window's exchange rewritten. -/
theorem Unseen.setExchange (s : State) (w : WinId) (y : Exchange) :
    Unseen s (s.modWin w fun v => { v with exchange := some y }) := by
  refine .of_same (fun v => ?_) (fun _ => rfl) rfl rfl rfl
  rw [State.win_modWin]
  split
  · next e => rw [e]; exact ⟨rfl, rfl, rfl, rfl⟩
  · exact ⟨rfl, rfl, rfl, rfl⟩

theorem Steady.strike (s : State) (w : WinId) (k : StrikeKind) : Steady s (s.strike w k) := by
  unfold State.strike
  split
  · next x d _ _ =>
    have struck := (Unseen.setExchange _ w { x with state := .ready, strikes := x.strikes + 1, lastStrike := some k }).after
      (.countWindow s w .strikes 1)
    dsimp only
    split
    · exact struck.steady
    · exact (Steady.failExchange _ w _ _ _).before struck
  · exact (Unseen.refl s).steady

theorem Steady.takeNak (s : State) (w : WinId) (x : Exchange) : Steady s (s.takeNak w x) := by
  unfold State.takeNak
  split
  · exact (Unseen.refl s).steady
  · have backoff := (Unseen.setExchange _ w { x with state := .backoff 0, strikes := 0 }).after (.countWindow s w .naks 1)
    dsimp only
    split
    · exact (Steady.failExchange _ w _ _ _).before backoff
    · exact backoff.steady

theorem Unseen.settleExchange (s : State) (w : WinId) : Unseen s (s.settleExchange w) := .of_quiet (.settleExchange s w) rfl

/-- A head that has ended has left its queue. -/
theorem steady_of_ended {w : WinId} {i : SlotId} {x : Transfer} (head : s.headOf w = some (i, x)) (u : Transfer)
    (answers : List Answer) (bytes short : Nat) (kinds : WindowKinds) :
    Steady s ((headEnded s w i u answers bytes short kinds).offer w) := by
  refine .of_moved (w := w) (.inr ?_)
  rw [State.offer_win, if_pos rfl, headEnded_win, if_pos rfl]
  show (s.win w).queue.tail ≠ (s.win w).queue
  obtain ⟨front, -⟩ := State.headOf_some head
  cases queue : (s.win w).queue with
  | nil => rw [queue] at front; simp at front
  | cons j q => simp

theorem Steady.packetSucceeds (s : State) (w : WinId) (len : Nat) : Steady s (s.packetSucceeds w len) := by
  cases head : s.headOf w with
  | none => rw [packetSucceeds_headless head]; exact (Unseen.settleExchange s w).steady
  | some p =>
    obtain ⟨i, x⟩ := p
    by_cases all : x.bytesDone + len = x.size
    · obtain ⟨answers, ended⟩ := packetSucceeds_ended head all
      rw [ended]
      exact steady_of_ended head _ _ _ _ _
    · rw [packetSucceeds_part head all]
      exact ((Unseen.offer _ w).after ((Unseen.of_quiet (.progress (headOf_settleExchange head) _) rfl).after
        (.settleExchange s w))).steady

theorem Steady.endShort (s : State) (w : WinId) (received : Nat) : Steady s (s.endShort w received) := by
  cases head : s.headOf w with
  | none => rw [endShort_headless head]; exact (Unseen.settleExchange s w).steady
  | some p =>
    obtain ⟨answers, kinds, ended⟩ := endShort_ended head received
    rw [ended]
    exact steady_of_ended head _ _ _ _ _

theorem Steady.takeData (s : State) (w : WinId) (x : Exchange) (data : List Byte) : Steady s (s.takeData w x data) := by
  have placed := Unseen.placeRead s w data
  unfold State.takeData
  split
  · split
    · exact (Steady.packetSucceeds _ w _).before placed
    · split
      · exact (Steady.endShort _ w _).before placed
      · exact .failExchange s w x _ _
  · exact (Unseen.refl s).steady
  · exact (Unseen.refl s).steady

/-- A window that was OPEN already is seen as before. -/
theorem Steady.syncAcknowledged (s : State) (w : WinId) : Steady s (s.syncAcknowledged w) := by
  have opened : Steady s (s.modWin w fun v => { v with state := .opened, exchange := none, seqBit := false }) := fun still => by
    refine .of_same (fun v => ⟨(still v).1, ?_, (still v).2, ?_⟩) (fun _ => rfl) rfl rfl rfl <;> rw [State.win_modWin] <;> split
    · next e => rw [e]
    · rfl
    · next e => rw [e]
    · rfl
  unfold State.syncAcknowledged
  dsimp only
  split
  · exact .after (.completeDone _ _) opened
  · exact opened

theorem Steady.takeAck (s : State) (w : WinId) (x : Exchange) : Steady s (s.takeAck w x) := by
  unfold State.takeAck
  split
  · exact .packetSucceeds s w _
  · exact .syncAcknowledged s w
  · exact (Unseen.refl s).steady

theorem Steady.takeResponse (s : State) (w : WinId) (x : Exchange) (r : Response) : Steady s (s.takeResponse w x r) := by
  cases r with
  | ack mark => exact .takeAck s w x
  | nak => exact .takeNak s w x
  | refuse => exact .failExchange s w x _ _
  | data bytes => exact .takeData s w x bytes

theorem Steady.abortOwner (s : State) : Steady s s.abortOwner := by
  unfold State.abortOwner
  split
  · split
    · exact (Halting.haltWindow s _ _ _ _).steady
    · exact (Unseen.refl s).steady
  · exact (Unseen.endProbe s).steady
  · exact (Unseen.of_aside (.unmarkFlush s _) (by rw [unmarkFlush_frame])).steady
  · exact (Unseen.refl s).steady

theorem Steady.resetLink (s : State) : Steady s
    (if s.link.state = .detached then ((s.completeLong .aborted .resetLink).haltAllLive .linkLost).toDetached
      else (((s.completeLong .aborted .resetLink).haltAllLive .linkLost).toDetached).raiseDevice .linkDown) := by
  have detached : Steady s ((s.completeLong .aborted .resetLink).haltAllLive .linkLost).toDetached :=
    .after (.toDetached _) ((Halting.haltAllLive _ _).steady.before (.completeLong s _ _))
  split
  · exact detached
  · exact .after (.raiseDevice _ _) detached

/-- A window table that was clear, its queues empty, is seen as before (R23, R43). -/
theorem Steady.windowsCleared (s : State) : Steady s (windowsCleared s) := by
  intro still
  have win := windowsCleared_win s
  have unused : ∀ w, (s.win w).state = .unused := fun w => by rw [← (still w).1, win]; rfl
  have empty : ∀ w, (s.win w).queue = [] := fun w => by rw [← (still w).2, win]; rfl
  have nothing : ∀ l, queuedTransfers s l = [] := fun l => by simp [queuedTransfers, empty, State.transfersOf]
  have tags : (Proofs.windowsCleared s).acc.tags = s.acc.tags := by
    show tagsAfter s (queuedTransfers s allWindows) = s.acc.tags
    rw [nothing, tagsAfter_nil]
  refine ⟨still, rfl, tags, judge_congr (fun w a => ?_) (fun w => by rw [(still w).1]) (fun r w h => ?_) tags rfl⟩
  · simp only [Window.holds, win, unused w]
    rfl
  · rw [unused w] at h; cases h

end

end Sys2Proof.Proofs
end

section
/-! SUPPORT. Every command leaves a settled acceptance point settled (`exec_settled`), and so does every step: obligation
O56. -/
namespace Sys2Proof.Proofs
open Sys2Proof.Machine Sys2Proof.Safety

/-- A settled acceptance point is settled after. -/
abbrev StaysSettled (s t : State) : Prop := SettledLaw s → SettledLaw t

/-- An attempt, and what is not seen after it. -/
theorem settledLaw_settle (s : State) : SettledLaw s.settle := (Unseen.choose _).settled (settledLaw_attempt s)

theorem settledLaw_liftHold (s : State) (w : WinId) (b : Bool) : SettledLaw (s.liftHold w b) := by
  unfold State.liftHold
  split
  · exact settledLaw_settle _
  · exact settledLaw_attempt s

theorem StaysSettled.receive (s : State) (f : BitVec 4) (bit : Bool) (r : Response) : StaysSettled s (s.receive f bit r) := by
  intro settled
  have good := (Unseen.goodPacket s).settled settled
  unfold State.receive
  dsimp only
  split
  · exact (Unseen.stray _).settled good
  · exact (Unseen.choose _).settled ((Steady.strike _ _ _).settled good)
  · next w x _ =>
    have taken := (Steady.takeResponse s.goodPacket w x r).settled good
    split
    · exact (Unseen.choose _).settled taken
    · exact (Unseen.choose _).settled taken
    · exact taken
    · exact taken

/-! ### Commands of the management port -/

/-- What a judged frame leaves is settled. -/
def JudgedSettled : Judged → Prop
  | .refuse _ => True
  | .done t _ => SettledLaw t
  | .pending t => SettledLaw t

theorem StaysSettled.command {s : State} (q c : Byte) {judge : State → Judged}
    (h : ∀ u, SettledLaw u → JudgedSettled (judge u)) : StaysSettled s (s.command q c judge) := by
  intro settled
  have ended := (Unseen.endTransaction s).settled settled
  have judged := h _ ended
  show SettledLaw (s.endTransaction.conclude q c (judge s.endTransaction))
  cases hj : judge s.endTransaction with
  | refuse r => exact (Unseen.setResult _ _).settled ended
  | done t p => rw [hj] at judged; exact (Unseen.setResult t _).settled judged
  | pending t => rw [hj] at judged; exact (Unseen.setResult t _).settled judged

theorem StaysSettled.commandUnlessBusy {s : State} (q c : Byte) {judge : State → Judged}
    (h : ∀ u, SettledLaw u → JudgedSettled (judge u)) : StaysSettled s (s.commandUnlessBusy q c judge) := by
  unfold State.commandUnlessBusy
  split
  · exact (Unseen.after (.setResult _ _) (.endTransaction s)).settled
  · exact .command q c h

theorem JudgedSettled.onWindow {b : Byte} {judge : WinId → Judged} (h : ∀ w, JudgedSettled (judge w)) :
    JudgedSettled (onWindow b judge) := by
  unfold Machine.onWindow
  split
  · trivial
  · exact h _

theorem JudgedSettled.onTarget {b : Byte} {judge : Target → Judged} (h : ∀ t, JudgedSettled (judge t)) :
    JudgedSettled (onTarget b judge) := by
  unfold Machine.onTarget
  split
  · trivial
  · exact h _

section
variable {s : State}

/-- A new definition of a DEFINED window, which claims no range and takes no requests, is not seen (R2, R6). -/
theorem Unseen.redefine {w : WinId} (st : (s.win w).state = .defined) (d : Definition) :
    Unseen s (s.modWin w fun x => { x with state := .defined, defn := some d, remaining := d.freshBudget }) := by
  have at_w := s.win_modWin_self w fun x => { x with state := .defined, defn := some d, remaining := d.freshBudget }
  have other : ∀ v, v ≠ w → (s.modWin w fun x => { x with state := .defined, defn := some d, remaining := d.freshBudget }).win v =
      s.win v := fun v hv => s.win_modWin_of_ne hv _
  refine ⟨fun v => ?_, rfl, rfl, judge_congr (fun v a => ?_) (fun v => ?_) (fun r v takes => ?_) rfl rfl⟩ <;> by_cases e : v = w
  · rw [e, at_w]; exact ⟨st.symm, rfl⟩
  · rw [other v e]; exact ⟨rfl, rfl⟩
  · rw [e, at_w]; simp [Window.holds, st, WindowState.claims]
  · rw [other v e]
  · rw [e, at_w, st]
  · rw [other v e]
  · rw [e, st] at takes; cases takes
  · have slots : SlotsKept s (s.modWin w fun x => { x with state := .defined, defn := some d, remaining := d.freshBudget }) :=
      fun _ => rfl
    exact judgeFar_congr (by rw [other v e]) (by rw [other v e]) (by rw [other v e]) slots rfl r

theorem settled_define (b : Byte) (p : DefineParams) (settled : SettledLaw s) : JudgedSettled (judgeDefine b p s) := by
  refine .onWindow fun w => ?_
  split
  · trivial
  · next d _ =>
    dsimp only
    split
    · trivial
    · next st =>
      split
      · trivial
      · show SettledLaw (ite _ _ _)
        split
        · exact settledLaw_attempt _
        · next used => exact (Unseen.redefine (by tauto) d).settled settled

theorem settled_undefine (b : Byte) : JudgedSettled (judgeUndefine b s) := by
  refine .onWindow fun w => ?_
  split
  · trivial
  · exact settledLaw_attempt _

/-- With no range claimed no request is far, and page counts are not seen (R69). -/
theorem Unseen.layout (free : s.noneClaims = true) (n : WinId → Nat) :
    Unseen s (s.mapWins fun w x => { x with pages := n w }) := by
  have win : ∀ w, (s.mapWins fun w x => { x with pages := n w }).win w = { s.win w with pages := n w } := fun w => by
    rw [State.win_mapWins]
  refine ⟨fun w => by rw [win]; exact ⟨rfl, rfl⟩, rfl, rfl, judge_congr (fun w a => by rw [win]; rfl) (fun w => by rw [win])
    (fun r w takes => ?_) rfl rfl⟩
  have idle := noneClaims_iff.mp free w
  cases st : (s.win w).state <;> rw [st] at idle takes <;> simp [WindowState.claims, WindowState.takes] at idle takes

theorem settled_layout (counts : Vector Byte 12) (settled : SettledLaw s) : JudgedSettled (judgeLayout counts s) := by
  unfold judgeLayout
  split
  · trivial
  · split
    · trivial
    · next free =>
      split
      · trivial
      · exact (Unseen.layout (by simpa using free) fun w => counts[w].toNat).settled settled

theorem settled_open (q b : Byte) : JudgedSettled (judgeOpen q b s) := by
  refine .onWindow fun w => ?_
  split
  · trivial
  · exact settledLaw_settle _

theorem settled_hold (b : Byte) : JudgedSettled (judgeHold b s) := by
  refine .onWindow fun w => ?_
  split
  · trivial
  · exact settledLaw_attempt _

theorem settled_release (b : Byte) : JudgedSettled (judgeRelease b s) := by
  refine .onWindow fun w => ?_
  split
  · trivial
  · exact settledLaw_liftHold _ _ _

theorem settled_fence (b : Byte) : JudgedSettled (judgeFence b s) := by
  refine .onWindow fun w => ?_
  dsimp only
  split
  · trivial
  · exact settledLaw_liftHold _ _ _

theorem settled_unfence (b : Byte) : JudgedSettled (judgeUnfence b s) := by
  refine .onWindow fun w => ?_
  split
  · trivial
  · exact settledLaw_attempt _

theorem settled_close (b : Byte) : JudgedSettled (judgeClose b s) := by
  refine .onWindow fun w => ?_
  dsimp only
  split
  · split
    · exact settledLaw_attempt _
    · exact settledLaw_liftHold _ _ _
  · split
    · exact settledLaw_attempt _
    · exact settledLaw_liftHold _ _ _
  · split
    · exact settledLaw_attempt _
    · exact settledLaw_liftHold _ _ _
  · exact settledLaw_attempt _
  · trivial
  · trivial
  · trivial
  · trivial

theorem settled_flush (q b : Byte) (settled : SettledLaw s) : JudgedSettled (judgeFlush q b s) := by
  refine .onWindow fun w => ?_
  dsimp only
  split
  · trivial
  · split
    · exact settled
    · next i _ =>
      have marked : Unseen s (s.modSlot i fun t => { t with flushMark := true }) :=
        .of_aside (.setSlot s i (by cases h : s.slot i <;> exact rfl)) rfl
      exact (Unseen.after (.startLong _ _ _ _) marked).settled settled

theorem settled_readWindow (b : Byte) (settled : SettledLaw s) : JudgedSettled (judgeReadWindow b s) := by
  refine .onWindow fun w => ?_
  show SettledLaw (ite _ _ _)
  split
  · exact (Unseen.of_quiet (s := s) (t := { s with freeUses := s.freeUses + 1 }) (.of_eq rfl rfl rfl rfl) rfl).settled settled
  · exact settled

/-! ### The event unit and the link commands -/

/-- A new event unit is not seen. -/
theorem Unseen.events (s : State) (e : EventUnit) : Unseen s { s with ev := e } := .of_quiet (.of_eq rfl rfl rfl rfl) rfl

theorem settled_clearCounters (b : Byte) (settled : SettledLaw s) : JudgedSettled (judgeClearCounters b s) := by
  refine .onTarget fun t => ?_
  cases t with
  | window w =>
    exact (Unseen.of_quiet (.modWin s w (f := fun x => { x with counters := .zero }) ⟨rfl, rfl, rfl, rfl, rfl, id⟩) rfl).settled
      settled
  | device => exact (Unseen.events s _).settled settled

theorem settled_setMasks (wm : Byte) (dm : BitVec 16) (settled : SettledLaw s) : JudgedSettled (judgeSetMasks wm dm s) := by
  unfold judgeSetMasks
  split
  · exact (Unseen.events s _).settled settled
  · trivial

theorem settled_ackEvents (b : Byte) (k : BitVec 16) (settled : SettledLaw s) : JudgedSettled (judgeAckEvents b k s) := by
  refine .onTarget fun t => ?_
  cases t with
  | window w =>
    dsimp only
    split
    · next ks _ => exact (Unseen.of_aside (.signal s w fun p => p &&& ~~~ks) rfl).settled settled
    · trivial
  | device =>
    dsimp only
    split
    · exact (Unseen.events s _).settled settled
    · trivial

theorem settled_attach (q : Byte) (settled : SettledLaw s) : JudgedSettled (judgeAttach q s) := by
  unfold judgeAttach
  split
  · trivial
  · exact (Unseen.after (.choose _) (.after (.startLong _ _ _ _) (.of_aside (.takeAttach s) rfl))).settled settled

theorem settled_detach (settled : SettledLaw s) : JudgedSettled (judgeDetach s) := by
  unfold judgeDetach
  split
  · trivial
  · split
    · trivial
    · exact (Unseen.after (.raiseDevice _ _) (.toDetached s)).settled settled

theorem Unseen.setMode (s : State) (m : LinkMode) : Unseen s (s.setMode m) := by
  unfold State.setMode
  split
  · exact .refl s
  · split
    · split
      · exact .after (.choose _) (.toCycled s)
      · exact .toCycled s
    · exact .of_aside (.toFree s) rfl

theorem Unseen.keepAliveChanged (s : State) (old : Nat) : Unseen s (s.keepAliveChanged old) := by
  unfold State.keepAliveChanged
  split
  · exact .refl s
  · split
    · split
      · exact .after (.choose _) (.of_aside (.idleDue s) rfl)
      · exact .refl s
    · exact .refl s

theorem StaysSettled.recoveryLimitChanged (s : State) (old : Nat) : StaysSettled s (s.recoveryLimitChanged old) := by
  intro settled
  unfold State.recoveryLimitChanged
  split
  · exact settled
  · split
    · split
      · exact (Steady.giveUpRecovery s).settled settled
      · exact settled
    · exact settled

theorem StaysSettled.waitLimitChanged (s : State) (old : Nat) : StaysSettled s (s.waitLimitChanged old) := by
  intro settled
  unfold State.waitLimitChanged
  split
  · exact settled
  · split
    · exact settled
    · split
      · exact settledLaw_expireWait s _
      · exact settledLaw_attempt s

theorem settled_setLink (p : LinkParams) (settled : SettledLaw s) : JudgedSettled (judgeSetLink p s) := by
  unfold judgeSetLink
  split
  · trivial
  · next q h =>
    split
    · trivial
    · have before : Unseen s ((s.writeSettings q).setMode q.mode |>.keepAliveChanged s.arb.keepAliveInterval) :=
        .after (.keepAliveChanged _ _) (.after (.setMode _ _)
          (.of_same (fun _ => ⟨rfl, rfl, rfl, rfl⟩) (fun _ => rfl) rfl rfl rfl))
      exact StaysSettled.waitLimitChanged _ _ (StaysSettled.recoveryLimitChanged _ _ (before.settled settled))

/-! ### ABORT and the resets -/

theorem settled_abort (settled : SettledLaw s) : JudgedSettled (judgeAbort s) := by
  unfold judgeAbort
  split
  · trivial
  · exact ((Steady.abortOwner _).before (.completeLong s _ _)).settled settled

theorem StaysSettled.resetWindows (s : State) : StaysSettled s s.resetWindows := by
  intro settled
  rw [resetWindows_eq]
  exact (Steady.windowsCleared s).settled settled

theorem StaysSettled.resetLink (s : State) : StaysSettled s s.resetLink := by
  intro settled
  unfold State.resetLink
  dsimp only
  exact (Steady.after (.of_aside (.clearCycleCount _) rfl) (.resetLink s)).settled settled

theorem settled_reset (own target : Byte) {effect : State → State} (h : SettledLaw (effect s)) :
    JudgedSettled (judgeReset own target effect s) := by
  unfold judgeReset
  split
  · exact h
  · trivial

/-! ### The bus, the link and the timers -/

theorem settled_requestPresented (r : BusRequest) (s : State) :
    ∃ t, execRequestPresented r s = .next t ∧ StaysSettled s t := by
  unfold execRequestPresented
  split
  · exact ⟨s, rfl, id⟩
  · exact ⟨_, rfl, fun _ => settledLaw_attempt _⟩

theorem settled_waitLimitExpiry (s : State) : ∃ t, execWaitLimitExpiry s = .next t ∧ StaysSettled s t := by
  unfold execWaitLimitExpiry
  split
  · exact ⟨s, rfl, id⟩
  · split
    · exact ⟨s, rfl, id⟩
    · exact ⟨_, rfl, fun _ => settledLaw_expireWait _ _⟩

theorem settled_downstreamResponse (g : Tag) (ok : Bool) (data : List Byte) (s : State) :
    ∃ t, execDownstreamResponse g ok data s = .next t ∧ StaysSettled s t := by
  unfold execDownstreamResponse
  split
  · exact ⟨_, rfl, fun _ => settledLaw_attempt _⟩
  · exact ⟨s, rfl, id⟩

theorem Unseen.attached (s : State) (c l : Nat) : Unseen s (s.attached c l) :=
  .after (.choose _) (.after (.startTraffic _) (.after (.completeDone _ _) (.after (.raiseDevice _ _) (.toActive s c l))))

theorem StaysSettled.recovered (s : State) (c l : Nat) (fresh : Bool) : StaysSettled s (s.recovered c l fresh) := by
  intro settled
  have active := Unseen.after (.raiseDevice _ .recovered) (.toActive s c l)
  unfold State.recovered
  dsimp only
  have checked : Steady s _ := .after (.startTraffic _) ((Halting.recoveryCheck _ fresh).steady.before active)
  exact (Unseen.after (.choose _) (.markNewHeads _)).settled (checked.settled settled)

theorem settled_helloReply (c : BitVec 32) (l : BitVec 16) (fresh : Bool) (s : State) :
    ∃ t, execHelloReplyReceived c l fresh s = .next t ∧ StaysSettled s t := by
  have good := Unseen.goodPacket s
  have stray := (Unseen.stray _).after good
  unfold execHelloReplyReceived
  dsimp only
  split
  · split
    · exact ⟨_, rfl, ((Unseen.attached _ _ _).after good).settled⟩
    · exact ⟨_, rfl, fun settled => StaysSettled.recovered _ _ _ fresh (good.settled settled)⟩
    · exact ⟨_, rfl, stray.settled⟩
    · exact ⟨_, rfl, stray.settled⟩
  · exact ⟨_, rfl, stray.settled⟩

theorem settled_badCheckPacket (s : State) : ∃ t, execBadCheckPacket s = .next t ∧ StaysSettled s t := by
  unfold execBadCheckPacket
  split
  · exact ⟨_, rfl, fun settled => (Unseen.choose _).settled ((Steady.strike s _ _).settled settled)⟩
  · exact ⟨_, rfl, (Unseen.stray s).settled⟩

theorem Unseen.signalPresent (s : State) (b : Bool) : Unseen s { s with link := { s.link with signalPresent := b } } :=
  .of_quiet (.of_eq rfl rfl rfl rfl) rfl

theorem settled_lossOfSignal (s : State) : ∃ t, execLossOfSignal s = .next t ∧ StaysSettled s t := by
  unfold execLossOfSignal
  dsimp only
  split
  · exact ⟨_, rfl, (Unseen.after (.choose _) (.after (.enterRecovering _) (.signalPresent s false))).settled⟩
  · exact ⟨_, rfl, (Unseen.signalPresent s false).settled⟩

theorem settled_responseLimitExpiry (w : WinId) (s : State) :
    ∃ t, execResponseLimitExpiry w s = .next t ∧ StaysSettled s t := by
  unfold execResponseLimitExpiry
  split
  · exact ⟨s, rfl, id⟩
  · split
    · refine ⟨_, rfl, fun settled => (Unseen.choose _).settled ((Steady.after (.countTimeout _) (.strike _ w _)).settled ?_)⟩
      exact (Unseen.after (.of_quiet (.countDevice _ _ _) rfl) (.elapse s _)).settled settled
    · exact ⟨s, rfl, id⟩
    · exact ⟨s, rfl, id⟩
    · exact ⟨s, rfl, id⟩

theorem settled_nakIntervalEnd (w : WinId) (s : State) : ∃ t, execNakIntervalEnd w s = .next t ∧ StaysSettled s t := by
  unfold execNakIntervalEnd
  split
  · exact ⟨s, rfl, id⟩
  · split
    · refine ⟨_, rfl, (Unseen.after (.choose _) (.after (.of_quiet (.modWin _ w ?_) rfl) (.elapse s _))).settled⟩
      exact .of_body rfl rfl rfl rfl rfl (by simp [Function.comp_def])
    · exact ⟨s, rfl, id⟩
    · exact ⟨s, rfl, id⟩
    · exact ⟨s, rfl, id⟩

theorem settled_transmissionEnd (s : State) : ∃ t, execTransmissionEnd s = .next t ∧ StaysSettled s t := by
  unfold execTransmissionEnd
  split
  · exact ⟨s, rfl, id⟩
  · dsimp only
    split
    · refine ⟨_, rfl, (Unseen.after (.choose _) (.after (.startAwaiting _ _) ?_)).settled⟩
      exact .of_quiet (.of_eq rfl rfl rfl rfl) rfl
    · refine ⟨_, rfl, (Unseen.after (.choose _) ?_).settled⟩
      exact .of_quiet (.of_eq rfl rfl rfl rfl) rfl

theorem settled_cycleStart (s : State) : ∃ t, execCycleStart s = .next t ∧ StaysSettled s t := by
  unfold execCycleStart
  split
  · exact ⟨s, rfl, id⟩
  · exact ⟨_, rfl, (Unseen.after (.choose _) (.after (.startCycle _) (.elapse s _))).settled⟩

theorem settled_keepAliveExpiry (s : State) : ∃ t, execKeepAliveExpiry s = .next t ∧ StaysSettled s t := by
  unfold execKeepAliveExpiry
  split
  · exact ⟨s, rfl, id⟩
  · exact ⟨_, rfl, (Unseen.after (.choose _) (.after (.of_quiet (.idleDue _) rfl) (.elapse s _))).settled⟩

theorem settled_probeTimerExpiry (s : State) : ∃ t, execProbeTimerExpiry s = .next t ∧ StaysSettled s t := by
  unfold execProbeTimerExpiry
  split
  · exact ⟨s, rfl, id⟩
  · dsimp only
    split
    · exact ⟨_, rfl, (Unseen.elapse s _).settled⟩
    · exact ⟨_, rfl, (Unseen.after (.choose _) (.after (.of_quiet (.helloDue _) rfl) (.elapse s _))).settled⟩

theorem settled_attachNoReply (s : State) : ∃ t, execAttachNoReply s = .next t ∧ StaysSettled s t := by
  unfold execAttachNoReply
  split
  · dsimp only
    refine ⟨_, rfl, ?_⟩
    split
    · exact (Unseen.after (.completeLong _ _ _) (.after (.toDetached _) (.elapse s _))).settled
    · exact (Unseen.after (.toDetached _) (.elapse s _)).settled
  · exact ⟨s, rfl, id⟩

theorem settled_recoveryLimitExpiry (s : State) : ∃ t, execRecoveryLimitExpiry s = .next t ∧ StaysSettled s t := by
  unfold execRecoveryLimitExpiry
  split
  · exact ⟨_, rfl, ((Steady.giveUpRecovery _).before (.elapse s _)).settled⟩
  · exact ⟨s, rfl, id⟩

end

/-! ### Every command and every step -/

theorem exec_settled (c : Instr) (s : State) : ∃ t, exec c s = .next t ∧ StaysSettled s t := by
  cases c with
  | pinReset => exact ⟨_, rfl, fun _ => settledLaw_of_none rfl⟩
  | getStatus q => exact ⟨_, rfl, .command q _ fun _ => id⟩
  | define q w p => exact ⟨_, rfl, .commandUnlessBusy q _ fun _ => settled_define w p⟩
  | undefine q w => exact ⟨_, rfl, .commandUnlessBusy q _ fun _ _ => settled_undefine w⟩
  | layout q n => exact ⟨_, rfl, .commandUnlessBusy q _ fun _ => settled_layout n⟩
  | openWindow q w => exact ⟨_, rfl, .commandUnlessBusy q _ fun _ _ => settled_open q w⟩
  | hold q w => exact ⟨_, rfl, .commandUnlessBusy q _ fun _ _ => settled_hold w⟩
  | release q w => exact ⟨_, rfl, .commandUnlessBusy q _ fun _ _ => settled_release w⟩
  | fence q w => exact ⟨_, rfl, .commandUnlessBusy q _ fun _ _ => settled_fence w⟩
  | unfence q w => exact ⟨_, rfl, .commandUnlessBusy q _ fun _ _ => settled_unfence w⟩
  | close q w => exact ⟨_, rfl, .commandUnlessBusy q _ fun _ _ => settled_close w⟩
  | flush q w => exact ⟨_, rfl, .commandUnlessBusy q _ fun _ => settled_flush q w⟩
  | readWindow q w => exact ⟨_, rfl, .commandUnlessBusy q _ fun _ => settled_readWindow w⟩
  | readFault q w => exact ⟨_, rfl, .commandUnlessBusy q _ fun _ settled => .onWindow fun _ => settled⟩
  | readCounters q b => exact ⟨_, rfl, .commandUnlessBusy q _ fun _ settled => .onTarget fun _ => settled⟩
  | clearCounters q b => exact ⟨_, rfl, .commandUnlessBusy q _ fun _ => settled_clearCounters b⟩
  | attach q => exact ⟨_, rfl, .commandUnlessBusy q _ fun _ => settled_attach q⟩
  | detach q => exact ⟨_, rfl, .commandUnlessBusy q _ fun _ => settled_detach⟩
  | setLink q p => exact ⟨_, rfl, .commandUnlessBusy q _ fun _ => settled_setLink p⟩
  | setMasks q wm dm => exact ⟨_, rfl, .commandUnlessBusy q _ fun _ => settled_setMasks wm dm⟩
  | readEvents q => exact ⟨_, rfl, .commandUnlessBusy q _ fun _ => id⟩
  | ackEvents q b k => exact ⟨_, rfl, .commandUnlessBusy q _ fun _ => settled_ackEvents b k⟩
  | abort q => exact ⟨_, rfl, .command q _ fun _ => settled_abort⟩
  | resetBlockWindows q b => exact ⟨_, rfl, .command q _ fun u h => settled_reset 1 b (StaysSettled.resetWindows u h)⟩
  | resetBlockLink q b => exact ⟨_, rfl, .command q _ fun u h => settled_reset 2 b (StaysSettled.resetLink u h)⟩
  | resetBlockAll q b => exact ⟨_, rfl, .command q _ fun _ _ => settled_reset 3 b (settledLaw_of_none rfl)⟩
  | frameError q b d => exact ⟨_, rfl, (Unseen.after (.setResult _ _) (.endTransaction s)).settled⟩
  | frameDiscarded => exact ⟨_, rfl, (Unseen.endTransaction s).settled⟩
  | requestPresented r => exact settled_requestPresented r s
  | acceptanceAttempt => exact ⟨_, rfl, fun _ => settledLaw_attempt s⟩
  | waitLimitExpiry => exact settled_waitLimitExpiry s
  | downstreamResponse g ok data => exact settled_downstreamResponse g ok data s
  | ackReceived f b m => exact ⟨_, rfl, .receive s f b _⟩
  | nakReceived f b => exact ⟨_, rfl, .receive s f b _⟩
  | refuseReceived f b => exact ⟨_, rfl, .receive s f b _⟩
  | dataReceived f b data => exact ⟨_, rfl, .receive s f b _⟩
  | helloReplyReceived c l fresh => exact settled_helloReply c l fresh s
  | badCheckPacket => exact settled_badCheckPacket s
  | otherInboundPacket ty => exact ⟨_, rfl, (Unseen.after (.stray _) (.goodPacket s)).settled⟩
  | responseLimitExpiry w => exact settled_responseLimitExpiry w s
  | nakIntervalEnd w => exact settled_nakIntervalEnd w s
  | transmissionEnd => exact settled_transmissionEnd s
  | cycleStart => exact settled_cycleStart s
  | keepAliveExpiry => exact settled_keepAliveExpiry s
  | probeTimerExpiry => exact settled_probeTimerExpiry s
  | attachNoReply => exact settled_attachNoReply s
  | recoveryLimitExpiry => exact settled_recoveryLimitExpiry s
  | lossOfSignal => exact settled_lossOfSignal s
  | signalPresent => exact ⟨_, rfl, (Unseen.signalPresent s true).settled⟩
  | chipSelectFalls =>
    refine ⟨_, rfl, (Unseen.of_quiet ?_ ?_).settled⟩
    · exact .of_eq rfl rfl rfl rfl
    · rfl
  | resultTransaction n =>
    refine ⟨_, rfl, (Unseen.of_quiet ?_ ?_).settled⟩
    · exact .of_eq rfl rfl rfl rfl
    · rfl

/-- Settles O56: the attempt is made in every step that the presented request could see. -/
theorem requestNeverWaitsNeedlessly : Obligations.RequestNeverWaitsNeedlessly := by
  intro s t settled h
  unfold step at h
  split at h
  · obtain rfl := Host.Outcome.next.inj h
    exact (Unseen.elapse s 1).settled settled
  · next c rest _ =>
    obtain ⟨u, hu, kept⟩ := exec_settled c { s with pending := rest }
    obtain rfl : u = t := Host.Outcome.next.inj (hu.symm.trans h)
    refine kept ((Unseen.of_quiet (s := s) ?_ ?_).settled settled)
    · exact .of_eq rfl rfl rfl rfl
    · rfl

end Sys2Proof.Proofs
end

section
/-! SUPPORT. SET-LINK (R132): its checks, the parameters in force after it, and what each single change does at once:
obligation O21. -/
namespace Sys2Proof.Proofs
open Sys2Proof.Machine Sys2Proof.Safety

/-! ### The checks and the parameters (R132) -/

/-- The mode that SET-LINK carries, its field in range. -/
def carriedMode (p : LinkParams) : LinkMode := if p.mode = 0 then .cycled else .free

/-- The parameters that SET-LINK carries, its fields in range. -/
def settingsOf (p : LinkParams) : LinkSettings :=
  { mode := carriedMode p, cycleLength := p.cycleLength.toNat, keepAlive := p.keepAlive.toNat,
    responseLimit := p.responseLimit.toNat, recoveryLimit := p.recoveryLimit.toNat, waitLimit := p.waitLimit.toNat }

/-- A field of SET-LINK is out of range (check 1 of R132). -/
def badSettings (p : LinkParams) : Prop :=
  1 < p.mode.toNat ∨ p.cycleLength.toNat < 100 ∨ 2000 < p.cycleLength.toNat ∨ p.keepAlive.toNat < 1 ∨
    15 < p.keepAlive.toNat ∨ p.responseLimit.toNat < 2 ∨ p.recoveryLimit.toNat < 1 ∨ 1000 < p.recoveryLimit.toNat

theorem modeOf_eq (p : LinkParams) : modeOf p.mode = if 1 < p.mode.toNat then none else some (carriedMode p) := by
  unfold modeOf carriedMode
  by_cases zero : p.mode = 0
  · simp [zero]
  · by_cases one : p.mode = 1
    · simp [one]
    · have big : 1 < p.mode.toNat := by
        have h0 : p.mode.toNat ≠ 0 := fun h => zero (BitVec.eq_of_toNat_eq h)
        have h1 : p.mode.toNat ≠ 1 := fun h => one (BitVec.eq_of_toNat_eq h)
        omega
      rw [if_neg zero, if_neg one, if_pos big]

theorem linkSettingsFrom_bad {p : LinkParams} (bad : badSettings p) : linkSettingsFrom p = none := by
  unfold linkSettingsFrom
  rw [modeOf_eq]
  by_cases mode : 1 < p.mode.toNat
  · rw [if_pos mode]
  · rw [if_neg mode]
    exact if_neg fun range => by unfold badSettings at bad; omega

theorem linkSettingsFrom_good {p : LinkParams} (good : ¬ badSettings p) : linkSettingsFrom p = some (settingsOf p) := by
  unfold badSettings at good
  unfold linkSettingsFrom
  rw [modeOf_eq, if_neg (by omega)]
  exact if_pos (by omega)

theorem carriedMode_free {p : LinkParams} (good : ¬ badSettings p) : carriedMode p = .free ↔ p.mode = 1 := by
  unfold badSettings at good
  unfold carriedMode
  by_cases zero : p.mode = 0
  · simp [zero]
  · simp only [if_neg zero, true_iff]
    have h0 : p.mode.toNat ≠ 0 := fun h => zero (BitVec.eq_of_toNat_eq h)
    exact BitVec.eq_of_toNat_eq (show p.mode.toNat = 1 by omega)

theorem periodicLive_iff (s : State) :
    s.periodicLive = true ↔ ∃ w : WinId, (s.win w).isPeriodic = true ∧ (s.win w).state.live = true := by
  simp [State.periodicLive, mem_allWindows]

section
variable {s : State} {q : Byte} {p : LinkParams}

/-- SET-LINK refused (R132). -/
theorem setLink_refused (ready : Ready s) {r : Reason}
    (judged : judgeSetLink p (s.setCmd { s.cmd with receiver := .idle }) = .refuse r) :
    exec (.setLink q p) s = .next (answered s ⟨q, 0x32, .refused, .refusal r, []⟩) := by
  show Host.Outcome.next (s.commandUnlessBusy q 0x32 (judgeSetLink p)) = _
  rw [s.judged ready, s.command_refuse judged]

theorem judgeSetLink_done {t : State} (good : ¬ badSettings p) (shut : ¬ (p.mode = 1 ∧ t.periodicLive = true)) :
    judgeSetLink p t = .done (t.applySettings (settingsOf p)) [] := by
  unfold judgeSetLink
  rw [linkSettingsFrom_good good]
  exact if_neg fun h => shut ⟨(carriedMode_free good).mp h.1, h.2⟩

/-- SET-LINK taken, with what its parameters do given as an operation that the frame receiver does not see. -/
theorem setLink_leaves (ready : Ready s) (good : ¬ badSettings p) (shut : ¬ (p.mode = 1 ∧ s.periodicLive = true)) {t : State}
    (effect : (s.setCmd { s.cmd with receiver := .idle }).applySettings (settingsOf p) =
      t.setCmd { s.cmd with receiver := .idle }) (cmd : t.cmd = s.cmd) :
    exec (.setLink q p) s = .next (answered t ⟨q, 0x32, .done, .absent, []⟩) := by
  have shut' : ¬ (p.mode = 1 ∧ (s.setCmd { s.cmd with receiver := .idle }).periodicLive = true) := shut
  have judged := judgeSetLink_done good shut'
  rw [effect] at judged
  show Host.Outcome.next (s.commandUnlessBusy q 0x32 (judgeSetLink p)) = _
  rw [s.judged ready, s.command_done judged, answered_eq, cmd]

end

/-! ### What each change leaves in force -/

/-- The link mode and the numbers of the parameters in force. -/
def inForce (s : State) : LinkMode × Nat × Nat × Nat × Nat × Nat := (s.arb.mode, numbersOf s)

section
variable (s : State)

theorem inForce_markHeads : inForce s.markHeads = inForce s := by
  have frame := s.markHeads_frame
  generalize s.markHeads = t at frame ⊢
  rw [frame]
  rfl

theorem inForce_lateDetection : inForce s.lateDetection = inForce s := by
  unfold State.lateDetection
  dsimp only
  rw [inForce_markHeads]
  exact foldl_keeps inForce _ (fun u w => by split <;> rfl) _ s

theorem inForce_startCycle : inForce s.startCycle = inForce s := by
  unfold State.startCycle
  dsimp only
  rw [inForce_lateDetection]
  rfl

theorem inForce_choose : inForce s.choose = inForce s := by
  unfold inForce numbersOf
  rw [s.choose_arb]
  simp

theorem inForce_attempt : inForce s.attempt = inForce s := by
  obtain ⟨-, -, eng, link, -, -, -, -, -, -, wait, arb, -⟩ := AttemptKeeps.attempt s
  unfold inForce numbersOf
  rw [arb, eng, link, wait]

theorem inForce_attemptSince (old : State) : inForce (s.attemptSince old) = inForce s := by
  rcases s.attemptSince_cases old with h | h <;> rw [h]
  exact inForce_attempt s

theorem inForce_haltWindow (w : WinId) (c : FaultCause) (k : Option StrikeKind) (far : Option FarAddr) :
    inForce (s.haltWindow w c k far) = inForce s := by
  unfold inForce numbersOf
  rw [s.haltWindow_arb, s.haltWindow_eng, s.haltWindow_link, s.haltWindow_acc]

theorem inForce_giveUpRecovery : inForce s.giveUpRecovery = inForce s :=
  (foldl_keeps inForce _ (fun u w => by
    split
    · exact inForce_haltWindow u w _ _ _
    · rfl) _ (s.toDetached.raiseDevice .linkDown)).trans rfl

theorem inForce_countExpiry (r : BusRequest) : inForce (s.countExpiry r) = inForce s := by
  unfold State.countExpiry
  split
  · split
    · rfl
    · split <;> rfl
    · rfl
    · rfl
  · rfl
  · rfl
  · rfl

theorem inForce_expireWait (r : Presented) : inForce (s.expireWait r) = inForce s := by
  have noted : ∀ (u : State) (p : Presented) (k : ErrorKind), inForce (u.attemptExpired p k) = inForce u := fun u p k => by
    rcases u.attemptExpired_cases p k with ⟨-, h⟩ | ⟨-, h⟩ <;> rw [h]
    · cases k <;> rfl
    · rfl
  exact (noted _ _ _).trans (inForce_countExpiry s r.req)

theorem inForce_setMode (m : LinkMode) : inForce (s.setMode m) = (m, numbersOf s) := by
  unfold State.setMode
  split
  · next h => rw [h]; rfl
  · cases m with
    | cycled =>
      have cycled : inForce s.toCycled = (.cycled, numbersOf s) := by
        unfold State.toCycled
        dsimp only
        split
        · rw [inForce_startCycle]; rfl
        · rfl
      dsimp only
      split
      · rw [inForce_choose, cycled]
      · exact cycled
    | free => rfl

theorem inForce_keepAliveChanged (old : Nat) : inForce (s.keepAliveChanged old) = inForce s := by
  unfold State.keepAliveChanged
  split
  · rfl
  · split
    · split
      · rw [inForce_choose]; rfl
      · rfl
    · rfl

theorem inForce_recoveryLimitChanged (old : Nat) : inForce (s.recoveryLimitChanged old) = inForce s := by
  unfold State.recoveryLimitChanged
  split
  · rfl
  · split
    · split
      · rw [inForce_attemptSince, inForce_giveUpRecovery]
      · rfl
    · rfl

theorem inForce_waitLimitChanged (old : Nat) : inForce (s.waitLimitChanged old) = inForce s := by
  unfold State.waitLimitChanged
  split
  · rfl
  · split
    · rfl
    · split
      · exact inForce_expireWait s _
      · exact inForce_attempt s

theorem inForce_applySettings (l : LinkSettings) :
    inForce (s.applySettings l) = (l.mode, l.cycleLength, l.keepAlive, l.responseLimit, l.recoveryLimit, l.waitLimit) := by
  unfold State.applySettings
  dsimp only
  rw [inForce_waitLimitChanged, inForce_recoveryLimitChanged, inForce_keepAliveChanged, inForce_setMode]
  rfl

end

/-- Every window keeps its definition, its page count and its sequence bit. -/
def WindowsStay (s t : State) : Prop :=
  ∀ w, (t.win w).defn = (s.win w).defn ∧ (t.win w).pages = (s.win w).pages ∧ (t.win w).seqBit = (s.win w).seqBit

theorem WindowsStay.refl (s : State) : WindowsStay s s := fun _ => ⟨rfl, rfl, rfl⟩

theorem WindowsStay.after {s t u : State} (k : WindowsStay t u) (h : WindowsStay s t) : WindowsStay s u := fun w =>
  ⟨(k w).1.trans (h w).1, (k w).2.1.trans (h w).2.1, (k w).2.2.trans (h w).2.2⟩

theorem WindowsStay.of_aside {s t : State} (h : Aside s t) : WindowsStay s t := fun w =>
  ⟨(h.win w).defn, (h.win w).pages, (h.win w).seqBit⟩

section
variable (s : State)

theorem WindowsStay.attempt : WindowsStay s s.attempt := fun w => by
  obtain ⟨win, -⟩ := AttemptKeeps.attempt s
  rw [(win w).1]
  exact ⟨rfl, rfl, rfl⟩

theorem WindowsStay.attemptSince (old : State) : WindowsStay s (s.attemptSince old) := by
  rcases s.attemptSince_cases old with h | h <;> rw [h]
  · exact .attempt s
  · exact .refl s

theorem WindowsStay.haltWindow (w : WinId) (c : FaultCause) (k : Option StrikeKind) (far : Option FarAddr) :
    WindowsStay s (s.haltWindow w c k far) := fun v => by
  rw [s.haltWindow_win]
  split
  · next e => rw [e]; exact ⟨rfl, rfl, rfl⟩
  · exact ⟨rfl, rfl, rfl⟩

theorem WindowsStay.giveUpRecovery : WindowsStay s s.giveUpRecovery := by
  unfold State.giveUpRecovery State.haltAllLive
  refine foldl_invariant (WindowsStay s) _ (fun t w ht => ?_) allWindows (s.toDetached.raiseDevice .linkDown)
    (.of_aside (Aside.after (.raiseDevice _ _) (.toDetached s)))
  split
  · exact (WindowsStay.haltWindow t w _ _ _).after ht
  · exact ht

theorem WindowsStay.recoveryLimitChanged (old : Nat) : WindowsStay s (s.recoveryLimitChanged old) := by
  unfold State.recoveryLimitChanged
  split
  · exact .refl s
  · split
    · split
      · exact (WindowsStay.attemptSince _ s).after (.giveUpRecovery s)
      · exact .refl s
    · exact .refl s

theorem WindowsStay.waitLimitChanged (old : Nat) : WindowsStay s (s.waitLimitChanged old) := by
  unfold State.waitLimitChanged
  split
  · exact .refl s
  · split
    · exact .refl s
    · split
      · exact .of_aside (.expireWait s _)
      · exact .attempt s

theorem WindowsStay.applySettings (l : LinkSettings) : WindowsStay s (s.applySettings l) :=
  (WindowsStay.waitLimitChanged _ _).after ((WindowsStay.recoveryLimitChanged _ _).after
    ((WindowsStay.of_aside (Aside.after (.keepAliveChanged _ _) (.setMode _ _))).after fun _ => ⟨rfl, rfl, rfl⟩))

end

/-! ### One parameter changed, and the others kept -/

section
variable {s : State} {l : LinkSettings}

theorem setMode_same {m : LinkMode} (h : s.arb.mode = m) : s.setMode m = s := if_pos h.symm

theorem keepAliveChanged_same {old : Nat} (h : s.arb.keepAliveInterval = old) : s.keepAliveChanged old = s := if_pos h

theorem recoveryLimitChanged_same {old : Nat} (h : s.link.recoveryLimit = old) : s.recoveryLimitChanged old = s :=
  if_pos (.inl h)

theorem waitLimitChanged_same {old : Nat} (h : s.acc.waitLimit = old) : s.waitLimitChanged old = s := if_pos h

/-- The mode alone changed. -/
theorem applySettings_mode (keep : s.arb.keepAliveInterval = l.keepAlive) (recovery : s.link.recoveryLimit = l.recoveryLimit)
    (wait : s.acc.waitLimit = l.waitLimit) : s.applySettings l = (s.writeSettings l).setMode l.mode := by
  have force := inForce_setMode (s.writeSettings l) l.mode
  simp only [inForce, numbersOf, Prod.mk.injEq] at force
  obtain ⟨-, -, keep', -, recovery', wait'⟩ := force
  unfold State.applySettings
  dsimp only
  rw [keepAliveChanged_same (keep'.trans keep.symm), recoveryLimitChanged_same (recovery'.trans recovery.symm),
    waitLimitChanged_same (wait'.trans wait.symm)]

/-- The keep-alive interval alone changed. -/
theorem applySettings_keepAlive (mode : s.arb.mode = l.mode) (recovery : s.link.recoveryLimit = l.recoveryLimit)
    (wait : s.acc.waitLimit = l.waitLimit) :
    s.applySettings l = (s.writeSettings l).keepAliveChanged s.arb.keepAliveInterval := by
  have force := inForce_keepAliveChanged (s.writeSettings l) s.arb.keepAliveInterval
  simp only [inForce, numbersOf, Prod.mk.injEq] at force
  obtain ⟨-, -, -, -, recovery', wait'⟩ := force
  unfold State.applySettings
  dsimp only
  rw [setMode_same (s := s.writeSettings l) mode, recoveryLimitChanged_same (recovery'.trans recovery.symm),
    waitLimitChanged_same (wait'.trans wait.symm)]

/-- The recovery limit alone changed. -/
theorem applySettings_recovery (mode : s.arb.mode = l.mode) (keep : s.arb.keepAliveInterval = l.keepAlive)
    (wait : s.acc.waitLimit = l.waitLimit) :
    s.applySettings l = (s.writeSettings l).recoveryLimitChanged s.link.recoveryLimit := by
  have force := inForce_recoveryLimitChanged (s.writeSettings l) s.link.recoveryLimit
  simp only [inForce, numbersOf, Prod.mk.injEq] at force
  obtain ⟨-, -, -, -, -, wait'⟩ := force
  unfold State.applySettings
  dsimp only
  rw [setMode_same (s := s.writeSettings l) mode, keepAliveChanged_same (s := s.writeSettings l) keep.symm,
    waitLimitChanged_same (wait'.trans wait.symm)]

/-- The acceptance wait limit alone changed. -/
theorem applySettings_wait (mode : s.arb.mode = l.mode) (keep : s.arb.keepAliveInterval = l.keepAlive)
    (recovery : s.link.recoveryLimit = l.recoveryLimit) :
    s.applySettings l = (s.writeSettings l).waitLimitChanged s.acc.waitLimit := by
  unfold State.applySettings
  dsimp only
  rw [setMode_same (s := s.writeSettings l) mode, keepAliveChanged_same (s := s.writeSettings l) keep.symm,
    recoveryLimitChanged_same (s := s.writeSettings l) recovery.symm]

/-- None of the four changed. -/
theorem applySettings_same (mode : s.arb.mode = l.mode) (keep : s.arb.keepAliveInterval = l.keepAlive)
    (recovery : s.link.recoveryLimit = l.recoveryLimit) (wait : s.acc.waitLimit = l.waitLimit) :
    s.applySettings l = s.writeSettings l := by
  rw [applySettings_wait mode keep recovery, waitLimitChanged_same (s := s.writeSettings l) wait.symm]

end
end Sys2Proof.Proofs
end

section
/-! SUPPORT. SET-LINK (R132): what each single change does at once: obligation O21. -/
namespace Sys2Proof.Proofs
open Sys2Proof.Machine Sys2Proof.Safety

/-! ### Operations that the command unit does not enter -/

/-- What commutes with a write of the command unit keeps it. -/
theorem cmd_of_setCmd {f : State → State} (h : ∀ s c, f (State.setCmd s c) = (f s).setCmd c) (s : State) :
    (f s).cmd = s.cmd := by
  have same := congrArg State.cmd (h s s.cmd)
  rwa [State.setCmd_self, State.setCmd_cmd] at same

/-- A marker due is sent at once or waits (R121, R122). -/
theorem choose_of_marker (s : State) (m : Marker) :
    State.choose { s with arb := { s.arb with marker := some m } } = markerSent s m := by
  unfold State.choose markerSent
  cases s.arb.transmitter <;> rfl

theorem markerSent_setCmd (m : Marker) (s : State) (c : CommandUnit) : markerSent (s.setCmd c) m = (markerSent s m).setCmd c := by
  unfold markerSent
  dsimp only
  cases h : s.arb.transmitter <;> simp [h, State.setCmd]

theorem judge_setCmd (s : State) (c : CommandUnit) (r : BusRequest) : (s.setCmd c).judge r = s.judge r :=
  (Unseen.of_aside (.same (s := s) (t := s.setCmd c) rfl rfl le_rfl rfl) rfl).judge r

theorem countExpiry_setCmd (r : BusRequest) (s : State) (c : CommandUnit) :
    (s.setCmd c).countExpiry r = (s.countExpiry r).setCmd c := by
  have classes : (s.setCmd c).classify r = s.classify r := rfl
  unfold State.countExpiry
  rw [judge_setCmd, classes]
  cases s.judge r with
  | wait why =>
    cases s.classify r with
    | localMem => rfl
    | far w =>
      dsimp only
      rw [State.setCmd_win]
      split
      · simp
      · rfl
    | malformed => rfl
    | straddle => rfl
  | error k => rfl
  | take w i => rfl
  | forward => rfl

theorem expiredAttempt_setCmd (p : Presented) (k : ErrorKind) (s : State) (c : CommandUnit) :
    expiredAttempt (s.setCmd c) p k = (expiredAttempt s p k).setCmd c := by
  have tag : ∀ g, (s.setCmd c).tagEntry g = s.tagEntry g := fun _ => rfl
  unfold expiredAttempt
  rw [tag]
  split
  · cases k <;> rfl
  · rfl

/-- The expiry of a presented request's wait limit, as the rule's attempt (R34). -/
theorem expireWait_eq {s : State} {r : Presented} :
    s.expireWait r = expiredAttempt (s.countExpiry r.req) r (expiredKind s r.req) := by
  have kind : s.errorKind r.req = expiredKind s r.req := by
    unfold State.errorKind expiredKind
    cases s.classify r.req <;> rfl
  rw [State.expireWait]
  dsimp only
  rw [kind, attemptExpired_eq _ _ _ rfl]
  exact expiredAttempt_setPresented (s.countExpiry r.req) (some _) r (some _) _

theorem recoveryGivenUp_setCmd {s : State} {c : CommandUnit} (hs : s.cmd.long.state ≠ .running)
    (hc : c.long.state ≠ .running) : recoveryGivenUp (s.setCmd c) = (recoveryGivenUp s).setCmd c :=
  attemptAfterHalts_setCmd (t := (detached s).raiseDevice .linkDown) (linkLostCause s) hs hc

/-! ### What each change does at once -/

section
variable {s : State}

theorem writeSettings_self {l : LinkSettings} (cycle : s.arb.cycleLength = l.cycleLength)
    (keep : s.arb.keepAliveInterval = l.keepAlive) (response : s.eng.responseLimit = l.responseLimit)
    (recovery : s.link.recoveryLimit = l.recoveryLimit) (wait : s.acc.waitLimit = l.waitLimit) : s.writeSettings l = s := by
  unfold State.writeSettings
  rw [← cycle, ← keep, ← response, ← recovery, ← wait]

theorem setMode_cycled_active (other : s.arb.mode ≠ .cycled) (active : s.link.state = .active) :
    s.setMode .cycled = s.toCycled.choose := by
  unfold State.setMode
  rw [if_neg (Ne.symm other)]
  exact if_pos active

theorem setMode_cycled_idle (other : s.arb.mode ≠ .cycled) (idle : s.link.state ≠ .active) :
    s.setMode .cycled = s.toCycled := by
  unfold State.setMode
  rw [if_neg (Ne.symm other)]
  exact if_neg idle

theorem setMode_free (other : s.arb.mode ≠ .free) : s.setMode .free = s.toFree := if_neg (Ne.symm other)

theorem keepAliveChanged_due {old k : Nat} (other : s.arb.keepAliveInterval ≠ old) (timer : s.arb.keepAliveTimer = some k)
    (due : s.arb.keepAliveInterval * 1000 ≤ k) :
    s.keepAliveChanged old = markerSent { s with arb := { s.arb with keepAliveTimer := none } } .idle := by
  unfold State.keepAliveChanged
  rw [if_neg other, timer]
  dsimp only
  rw [if_pos due]
  exact choose_of_marker { s with arb := { s.arb with keepAliveTimer := none } } .idle

theorem keepAliveChanged_early {old : Nat} (early : ∀ k, s.arb.keepAliveTimer = some k → k < s.arb.keepAliveInterval * 1000) :
    s.keepAliveChanged old = s := by
  unfold State.keepAliveChanged
  split
  · rfl
  · cases timer : s.arb.keepAliveTimer with
    | none => rfl
    | some k => exact if_neg (not_le.mpr (early k timer))

theorem recoveryLimitChanged_due {old k : Nat} (apart : QueuesApart s) (other : s.link.recoveryLimit ≠ old)
    (recovering : s.link.state = .recovering) (timer : s.link.recoveryTimer = some k)
    (due : s.link.recoveryLimit * 1000 ≤ k) : s.recoveryLimitChanged old = recoveryGivenUp s := by
  unfold State.recoveryLimitChanged
  rw [if_neg (by simp [other, recovering]), timer]
  dsimp only
  rw [if_pos due]
  exact recoveryGivenUp_eq apart (fun _ => rfl) fun _ => rfl

theorem recoveryLimitChanged_early {old : Nat} (early : s.link.state ≠ .recovering ∨
    ∀ k, s.link.recoveryTimer = some k → k < s.link.recoveryLimit * 1000) : s.recoveryLimitChanged old = s := by
  unfold State.recoveryLimitChanged
  split
  · rfl
  · next h =>
    obtain ⟨-, recovering⟩ := not_or.mp h
    cases timer : s.link.recoveryTimer with
    | none => rfl
    | some k => exact if_neg (not_le.mpr (early.resolve_left recovering k timer))

theorem waitLimitChanged_expires {old : Nat} {r : Presented} (other : s.acc.waitLimit ≠ old)
    (presented : s.acc.presented = some r) (fresh : r.expired = none) (limit : s.acc.waitLimit ≠ 0)
    (waited : s.acc.waitLimit ≤ r.waited) :
    s.waitLimitChanged old = expiredAttempt (s.countExpiry r.req) r (expiredKind s r.req) := by
  unfold State.waitLimitChanged
  rw [if_neg other, presented]
  dsimp only
  rw [if_pos (by simp [fresh, limit, waited]), expireWait_eq]

theorem waitLimitChanged_attempts {old : Nat} {r : Presented} (other : s.acc.waitLimit ≠ old)
    (presented : s.acc.presented = some r) (early : r.expired ≠ none ∨ s.acc.waitLimit = 0 ∨ r.waited < s.acc.waitLimit) :
    s.waitLimitChanged old = s.attempt := by
  unfold State.waitLimitChanged
  rw [if_neg other, presented]
  refine if_neg fun h => ?_
  simp only [Bool.and_eq_true, Option.isNone_iff_eq_none, bne_iff_ne, decide_eq_true_eq] at h
  obtain ⟨⟨fresh, limit⟩, waited⟩ := h
  rcases early with e | e | e
  · exact e fresh
  · exact limit e
  · omega

theorem waitLimitChanged_none {old : Nat} (presented : s.acc.presented = none) : s.waitLimitChanged old = s := by
  unfold State.waitLimitChanged
  split
  · rfl
  · rw [presented]

end

/-! ### SET-LINK as a frame -/

section
variable {s : State} {q : Byte} {p : LinkParams} (ready : Ready s) (good : ¬ badSettings p)
  (shut : ¬ (p.mode = 1 ∧ s.periodicLive = true))
include ready good shut

/-- SET-LINK taken leaves its parameters in force, its record, and the windows' definitions, pages and bits (R132). -/
theorem setLink_inForce : ∃ t, exec (.setLink q p) s = .next t ∧
    inForce t = (carriedMode p, p.cycleLength.toNat, p.keepAlive.toNat, p.responseLimit.toNat, p.recoveryLimit.toNat,
      p.waitLimit.toNat) ∧ t.cmd.result = ⟨q, 0x32, .done, .absent, []⟩ ∧ WindowsStay s t := by
  have force := inForce_applySettings s.endTransaction (settingsOf p)
  have stay := WindowsStay.applySettings s.endTransaction (settingsOf p)
  have shut' : ¬ (p.mode = 1 ∧ s.endTransaction.periodicLive = true) := shut
  have judged := judgeSetLink_done good shut'
  generalize s.endTransaction.applySettings (settingsOf p) = t at force stay judged
  refine ⟨t.setResult (.doneWith q 0x32 []), ?_, force, rfl, stay⟩
  show Host.Outcome.next (s.commandUnlessBusy q 0x32 (judgeSetLink p)) = _
  rw [s.judged ready, State.command, judged]
  rfl

/-- What SET-LINK leaves, where its effect is an operation that the command unit does not enter. -/
theorem setLink_of_commutes {f : State → State} (commutes : ∀ u c, f (State.setCmd u c) = (f u).setCmd c)
    (effect : (s.setCmd { s.cmd with receiver := .idle }).applySettings (settingsOf p) =
      f ((s.writeSettings (settingsOf p)).setCmd { s.cmd with receiver := .idle })) :
    exec (.setLink q p) s = .next (answered (f (s.writeSettings (settingsOf p))) ⟨q, 0x32, .done, .absent, []⟩) :=
  setLink_leaves ready good shut (effect.trans (commutes _ _)) (cmd_of_setCmd commutes (s.writeSettings (settingsOf p)))

/-- The mode alone changed. -/
theorem setLink_mode (keep : s.arb.keepAliveInterval = p.keepAlive.toNat)
    (recovery : s.link.recoveryLimit = p.recoveryLimit.toNat) (wait : s.acc.waitLimit = p.waitLimit.toNat)
    {f : State → State} (commutes : ∀ u c, f (State.setCmd u c) = (f u).setCmd c)
    (effect : ((s.writeSettings (settingsOf p)).setCmd { s.cmd with receiver := .idle }).setMode (carriedMode p) =
      f ((s.writeSettings (settingsOf p)).setCmd { s.cmd with receiver := .idle })) :
    exec (.setLink q p) s = .next (answered (f (s.writeSettings (settingsOf p))) ⟨q, 0x32, .done, .absent, []⟩) :=
  setLink_of_commutes ready good shut commutes
    ((applySettings_mode (s := s.setCmd { s.cmd with receiver := .idle }) (l := settingsOf p) keep recovery wait).trans effect)

/-- The keep-alive interval alone changed. -/
theorem setLink_keepAlive (mode : s.arb.mode = carriedMode p) (recovery : s.link.recoveryLimit = p.recoveryLimit.toNat)
    (wait : s.acc.waitLimit = p.waitLimit.toNat)
    {f : State → State} (commutes : ∀ u c, f (State.setCmd u c) = (f u).setCmd c)
    (effect : ((s.writeSettings (settingsOf p)).setCmd { s.cmd with receiver := .idle }).keepAliveChanged
      s.arb.keepAliveInterval = f ((s.writeSettings (settingsOf p)).setCmd { s.cmd with receiver := .idle })) :
    exec (.setLink q p) s = .next (answered (f (s.writeSettings (settingsOf p))) ⟨q, 0x32, .done, .absent, []⟩) :=
  setLink_of_commutes ready good shut commutes
    ((applySettings_keepAlive (s := s.setCmd { s.cmd with receiver := .idle }) (l := settingsOf p) mode recovery wait).trans effect)

/-- The acceptance wait limit alone changed. -/
theorem setLink_wait (mode : s.arb.mode = carriedMode p) (keep : s.arb.keepAliveInterval = p.keepAlive.toNat)
    (recovery : s.link.recoveryLimit = p.recoveryLimit.toNat)
    {f : State → State} (commutes : ∀ u c, f (State.setCmd u c) = (f u).setCmd c)
    (effect : ((s.writeSettings (settingsOf p)).setCmd { s.cmd with receiver := .idle }).waitLimitChanged
      s.acc.waitLimit = f ((s.writeSettings (settingsOf p)).setCmd { s.cmd with receiver := .idle })) :
    exec (.setLink q p) s = .next (answered (f (s.writeSettings (settingsOf p))) ⟨q, 0x32, .done, .absent, []⟩) :=
  setLink_of_commutes ready good shut commutes
    ((applySettings_wait (s := s.setCmd { s.cmd with receiver := .idle }) (l := settingsOf p) mode keep recovery).trans effect)

/-- The recovery limit alone changed, and not yet passed. -/
theorem setLink_recovery_early (mode : s.arb.mode = carriedMode p) (keep : s.arb.keepAliveInterval = p.keepAlive.toNat)
    (wait : s.acc.waitLimit = p.waitLimit.toNat) (early : s.link.state ≠ .recovering ∨
      ∀ k, s.link.recoveryTimer = some k → k < p.recoveryLimit.toNat * 1000) :
    exec (.setLink q p) s = .next (answered (s.writeSettings (settingsOf p)) ⟨q, 0x32, .done, .absent, []⟩) :=
  setLink_of_commutes ready good shut (f := id) (fun _ _ => rfl)
    ((applySettings_recovery (s := s.setCmd { s.cmd with receiver := .idle }) (l := settingsOf p) mode keep wait).trans
      (recoveryLimitChanged_early early))

/-- The recovery limit alone changed, and passed (R147, R148). -/
theorem setLink_recovery_due (mode : s.arb.mode = carriedMode p) (keep : s.arb.keepAliveInterval = p.keepAlive.toNat)
    (other : s.link.recoveryLimit ≠ p.recoveryLimit.toNat) (wait : s.acc.waitLimit = p.waitLimit.toNat) {k : Nat}
    (recovering : s.link.state = .recovering) (timer : s.link.recoveryTimer = some k)
    (due : p.recoveryLimit.toNat * 1000 ≤ k) (law : TransferLaw s) :
    exec (.setLink q p) s =
      .next (answered (recoveryGivenUp (s.writeSettings (settingsOf p))) ⟨q, 0x32, .done, .absent, []⟩) := by
  have apart : QueuesApart ((s.writeSettings (settingsOf p)).setCmd { s.cmd with receiver := .idle }) :=
    (QueuesApart.of_law law).congr fun _ => rfl
  exact setLink_leaves ready good shut
    ((applySettings_recovery (s := s.setCmd { s.cmd with receiver := .idle }) (l := settingsOf p) mode keep wait).trans
      ((recoveryLimitChanged_due apart (Ne.symm other) recovering timer due).trans
        (recoveryGivenUp_setCmd (s := s.writeSettings (settingsOf p)) ready ready)))
    (attemptAfterHalts_cmd (t := (detached (s.writeSettings (settingsOf p))).raiseDevice .linkDown) _ ready)

end

/-- Settles O21: the checks, the parameters in force, and each single change. -/
theorem setLinkOutcome : Obligations.SetLinkOutcome := by
  intro s q p ready bad periodicOpen
  have shut_iff : periodicOpen ↔ p.mode = 1 ∧ s.periodicLive = true := and_congr_right fun _ => (periodicLive_iff s).symm
  refine ⟨fun h => ?_, fun good live => ?_, fun good shut => ?_⟩
  · refine setLink_refused ready ?_
    rw [judgeSetLink, linkSettingsFrom_bad h]
  · refine setLink_refused ready ?_
    rw [judgeSetLink, linkSettingsFrom_good good]
    obtain ⟨mode, live⟩ := shut_iff.mp live
    exact if_pos ⟨(carriedMode_free good).mpr mode, live⟩
  intro carried sameMode sameKeep sameRecovery sameWait base leaves
  have shut : ¬ (p.mode = 1 ∧ s.periodicLive = true) := fun h => shut (shut_iff.mpr h)
  have asWritten := setLink_of_commutes (q := q) ready good shut (f := id) fun _ _ => rfl
  refine ⟨?_, fun mode keep recovery wait => ?_, fun mode keep recovery wait => ⟨fun cycled active => ?_, fun cycled idle => ?_,
      fun free => ?_⟩, fun mode keep recovery wait => ⟨fun k timer due => ?_, fun early => ?_⟩,
    fun mode keep recovery wait => ⟨fun k recovering timer due law => ?_, fun early => ?_⟩,
    fun mode keep recovery wait => ⟨fun none => ?_, fun r presented fresh limit waited => ?_, fun r presented early => ?_⟩⟩
  · obtain ⟨t, step, force, result, stay⟩ := setLink_inForce (q := q) ready good shut
    simp only [inForce, numbersOf, Prod.mk.injEq] at force
    obtain ⟨mode, cycle, keep, response, recovery, wait⟩ := force
    exact ⟨t, step, mode, cycle, keep, response, recovery, wait, result, stay⟩
  · have same : leaves base :=
      asWritten (applySettings_same (s := s.setCmd { s.cmd with receiver := .idle }) (l := settingsOf p) mode keep recovery wait)
    refine ⟨same, fun cycle response => ?_⟩
    have unchanged : base = s := writeSettings_self (l := settingsOf p) cycle keep response recovery wait
    exact unchanged ▸ same
  · exact setLink_mode ready good shut keep recovery wait (f := fun u => u.toCycled.choose)
      (fun u c => by rw [State.setCmd_toCycled, State.setCmd_choose])
      (by rw [show carriedMode p = .cycled from cycled]; exact setMode_cycled_active (by rw [← cycled]; exact mode) active)
  · exact setLink_mode ready good shut keep recovery wait (f := State.toCycled) (fun u c => u.setCmd_toCycled c)
      (by rw [show carriedMode p = .cycled from cycled]; exact setMode_cycled_idle (by rw [← cycled]; exact mode) idle)
  · exact setLink_mode ready good shut keep recovery wait (f := State.toFree) (fun _ _ => rfl)
      (by rw [show carriedMode p = .free from free]; exact setMode_free (by rw [← free]; exact mode))
  · exact setLink_keepAlive ready good shut mode recovery wait
      (f := fun u => markerSent { u with arb := { u.arb with keepAliveTimer := Option.none } } .idle)
      (fun u c => markerSent_setCmd .idle { u with arb := { u.arb with keepAliveTimer := Option.none } } c)
      (keepAliveChanged_due (Ne.symm keep) timer due)
  · exact setLink_keepAlive ready good shut mode recovery wait (f := id) (fun _ _ => rfl) (keepAliveChanged_early early)
  · exact setLink_recovery_due ready good shut mode keep recovery wait recovering timer due law
  · exact setLink_recovery_early ready good shut mode keep wait early
  · exact setLink_wait ready good shut mode keep recovery (f := id) (fun _ _ => rfl) (waitLimitChanged_none none)
  · exact setLink_wait ready good shut mode keep recovery
      (f := fun u => expiredAttempt (u.countExpiry r.req) r (expiredKind u r.req))
      (fun u c => by rw [countExpiry_setCmd, expiredAttempt_setCmd]; rfl)
      (waitLimitChanged_expires (Ne.symm wait) presented fresh limit waited)
  · exact setLink_wait ready good shut mode keep recovery (f := State.attempt) (fun u c => u.setCmd_attempt c)
      (waitLimitChanged_attempts (Ne.symm wait) presented early)

end Sys2Proof.Proofs
end

section
/-! SUPPORT. The packet offered for a head, and a packet's success that does not end it: obligations O33 and O36. -/
namespace Sys2Proof.Proofs
open Sys2Proof.Machine Sys2Proof.Safety

/-! ### Offers (R48, R49, R51) -/

theorem drains_iff (x : WindowState) : x.drains = true ↔ x ∈ [.opened, .fenced, .closing] := by cases x <;> decide

/-- A queue that holds its first slot's transfer has it as its head (R47). -/
theorem headOf_of_front {s : State} {w : WinId} {i : SlotId} {t : Transfer} (front : (s.win w).queue.head? = some i)
    (slot : s.slot i = some t) : s.headOf w = some (i, t) := by
  unfold State.headOf
  cases queue : (s.win w).queue with
  | nil => rw [queue] at front; simp at front
  | cons j q =>
    rw [queue] at front
    obtain rfl : j = i := by simpa using front
    simp [slot]

/-- The body of a packet by the direction of its transfer (R84). -/
theorem packetBody_eq (t : Transfer) (n : Nat) (bit : Bool) : packetBody t n bit =
    if t.kind = .read then .read (t.farAddr + BitVec.ofNat 32 t.bytesDone) (min n (t.size - t.bytesDone)) bit
    else .write (t.farAddr + BitVec.ofNat 32 t.bytesDone) (min n (t.size - t.bytesDone)) bit := by
  unfold packetBody
  cases t.kind <;> rfl

/-- A window that is not carried, has an exchange, or has no transfer is offered nothing (R48, R49). -/
theorem offer_nothing {s : State} {w : WinId}
    (h : (s.win w).state ∉ [.opened, .fenced, .closing] ∨ (s.win w).exchange.isSome = true ∨ (s.win w).queue = []) :
    s.offer w = s := by
  rcases s.offer_cases w with e | ⟨d, i, t, exchange, -, head, drains, -⟩
  · exact e
  · obtain ⟨front, -⟩ := State.headOf_some head
    rcases h with closed | busy | empty
    · exact absurd ((drains_iff _).mp drains) closed
    · rw [exchange] at busy; simp at busy
    · rw [empty] at front; simp at front

/-- A window that is carried and has no exchange is offered its head's packet (R49, R84). -/
theorem offer_packet {s : State} {w : WinId} {d : Definition} {i : SlotId} {t : Transfer}
    (drains : (s.win w).state.drains = true) (exchange : (s.win w).exchange = none) (defn : (s.win w).defn = some d)
    (head : s.headOf w = some (i, t)) :
    s.offer w = s.setWin w { s.win w with exchange := some (.new (packetBody t d.packetSize (s.win w).seqBit)) } := by
  have offered : s.offer w = s.modWin w fun x => { x with exchange := some (.new (packetBody t d.packetSize x.seqBit)) } := by
    simp only [State.offer, exchange, defn, head, drains, if_true]
  exact offered

/-- Settles O33: what is offered, and when nothing is. -/
theorem offeredPacket : Obligations.OfferedPacket := by
  intro s w i t d
  refine ⟨offer_nothing, fun carried exchange defn front slot => ?_⟩
  intro far len
  rw [offer_packet ((drains_iff _).mpr carried) exchange defn (headOf_of_front front slot), packetBody_eq]
  rfl

/-! ### A packet's success (R50, R89) -/

/-- A success short of the head's end moves the head on and offers its next packet (R50, R51). -/
theorem packetSucceeds_goes_on {b : State} {w : WinId} {i : SlotId} {t : Transfer} (head : b.headOf w = some (i, t))
    {len : Nat} (more : t.bytesDone + len ≠ t.size) :
    b.packetSucceeds w len =
      ((b.settleExchange w).setSlot i (some { t with bytesDone := t.bytesDone + len })).offer w := by
  unfold State.packetSucceeds
  dsimp only
  rw [headOf_settleExchange head]
  exact if_neg more

/-- The window has kept its state and its queue, so no attempt follows (R25). -/
theorem attemptSince_of_quiet {old new : State} (h : Quiet old new) : new.attemptSince old = new :=
  State.attemptSince_of_still fun w => ⟨(h.win w).state, (h.win w).queue⟩

/-- The head moved on by a packet is a quiet change. -/
theorem quiet_packetSucceeds {b : State} {w : WinId} {i : SlotId} {t : Transfer} (head : b.headOf w = some (i, t))
    {len : Nat} (more : t.bytesDone + len ≠ t.size) : Quiet b (b.packetSucceeds w len) := by
  have slot : (b.settleExchange w).slot i = some t := (State.headOf_some head).2
  rw [packetSucceeds_goes_on head more]
  exact .after (.offer _ w) (.after (.setSlot _ i (by rw [slot]; rfl)) (.settleExchange b w))

/-- Settles O36: the head moves on, no attempt follows, and a choice is made. -/
theorem packetSucceeds : Obligations.PacketSucceeds := by
  intro s w x i t bit far len head more
  have head' : (heard s).headOf w = some (i, t) := head
  refine ⟨fun settles body => ?_, fun data full settles body => ?_⟩
  · have act : (heard s).takeResponse w x (.ack false) = (heard s).packetSucceeds w len := by
      rw [State.takeResponse, State.takeAck, body]
    show Host.Outcome.next (s.receive (windowField w) bit (.ack false)) = _
    rw [receive_choose_of_settles settles (.inl ⟨false, rfl⟩), act, attemptSince_of_quiet (quiet_packetSucceeds head' more),
      packetSucceeds_goes_on head' more]
    rfl
  · have act : (heard s).takeResponse w x (.data data) =
        ((heard s).setReservation i ((s.reservation i).take t.bytesDone ++ data)).packetSucceeds w len := by
      rw [State.takeResponse, State.takeData, body]
      dsimp only
      rw [if_pos full, placeRead_eq head']
      rfl
    have placed : Quiet (heard s) ((heard s).setReservation i ((s.reservation i).take t.bytesDone ++ data)) :=
      .of_eq rfl rfl rfl rfl
    show Host.Outcome.next (s.receive (windowField w) bit (.data data)) = _
    rw [receive_choose_of_settles settles (.inr ⟨data, rfl⟩), act,
      attemptSince_of_quiet (.after (quiet_packetSucceeds (by exact head') more) placed),
      packetSucceeds_goes_on (by exact head') more]
    rfl

end Sys2Proof.Proofs
end

section
/-! SUPPORT. A cycle start written out as one state (R125, R129): the marks of the heads, the late windows, and what the
traffic that an ACTIVE link starts with leaves (R124, R130). -/
namespace Sys2Proof.Machine
open Sys2Proof.Safety Sys2Proof.Proofs

/-! ### The head-at-cycle-start mark (step 2 of R129) -/

/-- A transfer with the head-at-cycle-start mark. -/
def Transfer.marked (t : Transfer) : Transfer := { t with cycleMark := true }

/-- Whether a slot is the first in the queue of a PERIODIC window. -/
def State.leads (s : State) (i : SlotId) (w : WinId) : Bool :=
  (s.win w).isPeriodic && (s.win w).queue.head? == some i

section
variable (s : State)

theorem State.markHead_win (v w : WinId) : (s.markHead v).win w = s.win w := by rw [State.markHead_frame]; rfl

/-- The mark of one window's head. -/
theorem State.markHead_slot (w : WinId) (i : SlotId) :
    (s.markHead w).slot i = if s.leads i w then (s.slot i).map Transfer.marked else s.slot i := by
  unfold State.markHead State.leads
  cases s.win w |>.isPeriodic with
  | false => rfl
  | true =>
    cases queue : (s.win w).queue with
    | nil => simp [State.headOf, queue]
    | cons j q =>
      by_cases e : j = i
      · subst e
        cases slot : s.slot j <;> simp [State.headOf, queue, slot, Transfer.marked]
      · cases slot : s.slot j <;> simp [State.headOf, queue, slot, State.slot_setSlot, e, Ne.symm e]

/-- The marks of the heads of a list of windows: marking reads no mark. -/
theorem State.markHead_foldl_slot (l : List WinId) (i : SlotId) :
    (l.foldl State.markHead s).slot i = if l.any (s.leads i) then (s.slot i).map Transfer.marked else s.slot i := by
  induction l generalizing s with
  | nil => rfl
  | cons w l ih =>
    have leads : (s.markHead w).leads i = s.leads i := by
      funext v; unfold State.leads; rw [State.markHead_win]
    rw [List.foldl_cons, ih, leads, State.markHead_slot, List.any_cons]
    have twice : ∀ o : Option Transfer, (o.map Transfer.marked).map Transfer.marked = o.map Transfer.marked :=
      fun o => by cases o <;> rfl
    cases s.leads i w <;> cases l.any (s.leads i) <;> simp [twice]

theorem headsMarked_slot (i : SlotId) : (headsMarked s).slot i =
    if allWindows.any (s.leads i) then (s.slot i).map Transfer.marked else s.slot i := Vector.getElem_ofFn _

/-- The heads marked one after another are the heads marked together. -/
theorem State.markHeads_eq : s.markHeads = headsMarked s := by
  have slots : s.markHeads.slots = (headsMarked s).slots := State.slots_eq_iff.mpr fun i =>
    (s.markHead_foldl_slot allWindows i).trans (headsMarked_slot s i).symm
  rw [State.markHeads_frame, slots]
  rfl

theorem headsMarked_windows : (headsMarked s).windows = s.windows := by rw [headsMarked]

theorem headsMarked_ev : (headsMarked s).ev = s.ev := by rw [headsMarked]

/-- ATTN does not depend on the marks. -/
theorem headsMarked_setAttn : headsMarked s.setAttn = (headsMarked s).setAttn := by
  have level : (headsMarked s).attnLevel = s.attnLevel :=
    State.attnLevel_congr (fun w => by rw [State.windows_eq_iff.mp (headsMarked_windows s)])
      (by rw [headsMarked_ev]) (by rw [headsMarked_ev]) (by rw [headsMarked_ev])
  unfold State.setAttn
  rw [level]
  unfold headsMarked
  rfl

/-! ### Late windows (step 1 of R129) -/

/-- The record of a late window: LATE counted and pending. -/
def Window.late (x : Window) : Window :=
  { x with counters := x.counters.grow .late 1, pending := x.pending ||| WindowKind.late.bit }

/-- The late windows of a list count LATE and raise it, one after another. -/
def State.lateEach (p : WinId → Bool) (l : List WinId) : State :=
  l.foldl (fun u w => if p w then (u.countWindow w .late 1).raiseWindow w .late else u) s

variable (p : WinId → Bool)

theorem State.raiseLate_win (w v : WinId) :
    ((s.countWindow w .late 1).raiseWindow w .late).win v = if v = w then (s.win w).late else s.win v := by
  rw [State.win_raiseWindow]
  split
  · rw [State.win_countWindow, if_pos rfl]; rfl
  · next h => rw [State.win_countWindow, if_neg h]

theorem State.lateEach_win {l : List WinId} (hn : l.Nodup) (v : WinId) :
    (s.lateEach p l).win v = if v ∈ l ∧ p v = true then (s.win v).late else s.win v := by
  induction l generalizing s with
  | nil => simp [State.lateEach]
  | cons w l ih =>
    obtain ⟨hw, hn⟩ := List.nodup_cons.mp hn
    rw [State.lateEach, List.foldl_cons, ← State.lateEach, ih _ hn]
    cases hp : p w with
    | false =>
      have same : (v ∈ w :: l ∧ p v = true) ↔ (v ∈ l ∧ p v = true) := by
        rw [List.mem_cons]
        refine ⟨fun ⟨hv, h⟩ => ⟨hv.resolve_left ?_, h⟩, fun ⟨hv, h⟩ => ⟨.inr hv, h⟩⟩
        rintro rfl
        rw [hp] at h; simp at h
      simp only [same, Bool.false_eq_true, if_false]
    | true =>
      rw [if_pos rfl, State.raiseLate_win]
      by_cases e : v = w
      · subst e; simp [hw, hp]
      · simp [e]

theorem State.lateEach_of_none {l : List WinId} (h : l.any p = false) : s.lateEach p l = s := by
  induction l with
  | nil => rfl
  | cons w l ih =>
    obtain ⟨hw, hl⟩ : p w = false ∧ l.any p = false := by simpa using h
    rw [State.lateEach, List.foldl_cons, hw]
    exact ih hl

/-- What late windows write of the other blocks: ATTN, where there is one. -/
theorem State.lateEach_frame (l : List WinId) :
    s.lateEach p l = { s with
      windows := (s.lateEach p l).windows
      ev := { s.ev with attn := if l.any p then (s.lateEach p l).attnLevel else s.ev.attn } } := by
  induction l generalizing s with
  | nil => rfl
  | cons w l ih =>
    cases hp : p w with
    | false =>
      have skip : s.lateEach p (w :: l) = s.lateEach p l := by rw [State.lateEach, List.foldl_cons, hp]; rfl
      rw [skip, List.any_cons, hp]
      exact ih s
    | true =>
      generalize hu : (s.countWindow w .late 1).raiseWindow w .late = u
      have first : s.lateEach p (w :: l) = u.lateEach p l := by rw [State.lateEach, List.foldl_cons, hp, ← hu]; rfl
      have frame : u = { s with windows := u.windows, ev := { s.ev with attn := u.attnLevel } } := by rw [← hu]; rfl
      have attn : (if l.any p then (u.lateEach p l).attnLevel else u.ev.attn) = (u.lateEach p l).attnLevel := by
        cases h : l.any p with
        | true => rfl
        | false => rw [u.lateEach_of_none p h, ← hu]; rfl
      have rest := ih u
      rw [attn] at rest
      rw [first, List.any_cons, hp]
      refine rest.trans ?_
      generalize u.lateEach p l = v
      rw [frame]
      rfl

/-! ### A cycle start (R125) -/

/-- The late windows of a state are counted, and then every head is marked (R129). -/
theorem State.lateDetection_eq :
    s.lateDetection = headsMarked (s.lateEach s.isLate allWindows) := by
  unfold State.lateDetection
  exact State.markHeads_eq _

theorem Window.refill_eq (x : Window) : x.refill = { x with
    remaining := match x.defn.bind (·.cls.budget) with
      | some b => some b
      | none => x.remaining } := by
  unfold Window.refill
  generalize x.defn.bind (·.cls.budget) = budget
  cases budget <;> rfl

/-- A PERIODIC window whose head carries the mark (R129). -/
def State.lateNow (w : WinId) : Bool := (s.win w).isPeriodic && (s.headOf w).any fun h => h.2.cycleMark

theorem State.isLate_eq (w : WinId) : s.isLate w = s.lateNow w := by
  unfold State.isLate State.lateNow
  cases s.headOf w <;> rfl

theorem State.lateNow_congr {s t : State} (defn : ∀ w, (t.win w).defn = (s.win w).defn)
    (queue : ∀ w, (t.win w).queue = (s.win w).queue) (slots : t.slots = s.slots) : t.lateNow = s.lateNow := by
  funext w
  have slot : ∀ i, t.slot i = s.slot i := State.slots_eq_iff.mp slots
  simp only [State.lateNow, State.headOf, Window.isPeriodic, defn, queue, slot]

/-- A cycle start before its late detection: the count, the CYCLE marker, the timer and the budgets. -/
def State.cycleBegun : State :=
  State.mapWins { s with arb := { s.arb with
    cycleCount := s.arb.cycleCount + 1, marker := some (.cycle (s.arb.cycleCount + 1))
    cycleTimer := some ⟨0, s.arb.cycleLength⟩ } } fun _ x => x.refill

theorem State.startCycle_def : s.startCycle = s.cycleBegun.lateDetection := rfl

theorem State.cycleBegun_win (w : WinId) : s.cycleBegun.win w = (s.win w).refill := State.win_mapWins _ w _

/-- The late windows at a cycle start are those that were late before it: refilling writes neither queues nor marks. -/
theorem State.cycleBegun_isLate : s.cycleBegun.isLate = s.lateNow := by
  have record := fun w => (s.cycleBegun_win w).trans (s.win w).refill_eq
  rw [funext s.cycleBegun.isLate_eq]
  exact State.lateNow_congr (fun w => by rw [record w]) (fun w => by rw [record w]) rfl

/-- A cycle start before its heads are marked. -/
def State.cycleCounted : State :=
  { s with
    windows := Vector.ofFn fun w =>
      let x := s.win w
      { x with
        remaining := match x.defn.bind (·.cls.budget) with
          | some b => some b
          | none => x.remaining
        counters := if s.lateNow w then x.counters.grow .late 1 else x.counters
        pending := if s.lateNow w then x.pending ||| WindowKind.late.bit else x.pending }
    arb := { s.arb with
      cycleCount := s.arb.cycleCount + 1, marker := some (.cycle (s.arb.cycleCount + 1))
      cycleTimer := some ⟨0, s.arb.cycleLength⟩ } }

theorem cycleStarted_eq : cycleStarted s =
    if allWindows.any s.lateNow then (headsMarked s.cycleCounted).setAttn else headsMarked s.cycleCounted := rfl

theorem State.cycleCounted_win (w : WinId) : s.cycleCounted.win w =
    if s.lateNow w then (s.win w).refill.late else (s.win w).refill := by
  have record : s.cycleCounted.win w = { s.win w with
      remaining := match (s.win w).defn.bind (·.cls.budget) with
        | some b => some b
        | none => (s.win w).remaining
      counters := if s.lateNow w then (s.win w).counters.grow .late 1 else (s.win w).counters
      pending := if s.lateNow w then (s.win w).pending ||| WindowKind.late.bit else (s.win w).pending } :=
    Vector.getElem_ofFn _
  rw [record, Window.refill_eq]
  cases s.lateNow w <;> rfl

/-- Late detection leaves ATTN at its level where a window is late, and else as it was. -/
theorem State.lateEach_cycleBegun : s.cycleBegun.lateEach s.lateNow allWindows =
    if allWindows.any s.lateNow then s.cycleCounted.setAttn else s.cycleCounted := by
  have windows : (s.cycleBegun.lateEach s.lateNow allWindows).windows = s.cycleCounted.windows :=
    State.windows_eq_iff.mpr fun w => by
      rw [State.lateEach_win _ _ allWindows_nodup, State.cycleCounted_win, State.cycleBegun_win]
      simp [mem_allWindows]
  have frame := s.cycleBegun.lateEach_frame s.lateNow allWindows
  have level : (s.cycleBegun.lateEach s.lateNow allWindows).attnLevel = s.cycleCounted.attnLevel := by
    refine State.attnLevel_congr (fun w => by rw [State.windows_eq_iff.mp windows]) ?_ ?_ ?_ <;> rw [frame] <;> rfl
  rw [frame, windows, level]
  cases allWindows.any s.lateNow <;> rfl

/-- A cycle start is the one state that R125 and R129 describe. -/
theorem State.startCycle_eq : s.startCycle = cycleStarted s := by
  rw [State.startCycle_def, State.lateDetection_eq, State.cycleBegun_isLate, State.lateEach_cycleBegun, cycleStarted_eq]
  split
  · exact headsMarked_setAttn s.cycleCounted
  · rfl

/-! ### What the traffic of an ACTIVE link starts with (R124, R130) -/

theorem cycleStarted_frame : cycleStarted s = { s with
    windows := (cycleStarted s).windows, slots := (cycleStarted s).slots
    arb := { s.arb with
      cycleCount := s.arb.cycleCount + 1, marker := some (.cycle (s.arb.cycleCount + 1))
      cycleTimer := some ⟨0, s.arb.cycleLength⟩ }
    ev := { s.ev with attn := (cycleStarted s).ev.attn } } := by
  rw [cycleStarted_eq]
  cases allWindows.any s.lateNow <;> rfl

/-- What the start of traffic leaves: all but windows, slots, the arbiter and ATTN. -/
theorem State.startTraffic_frame : s.startTraffic = { s with
    windows := s.startTraffic.windows, slots := s.startTraffic.slots, arb := s.startTraffic.arb
    ev := { s.ev with attn := s.startTraffic.ev.attn } } := by
  unfold State.startTraffic
  split
  · rw [State.startCycle_eq, cycleStarted_frame]
  · rfl

theorem State.startTraffic_cycled (h : s.arb.mode = .cycled) : s.startTraffic = cycleStarted s := by
  unfold State.startTraffic
  rw [h]
  exact s.startCycle_eq

theorem State.startTraffic_free (h : s.arb.mode = .free) :
    s.startTraffic = { s with arb := { s.arb with keepAliveTimer := some 0 } } := by
  unfold State.startTraffic
  rw [h]

@[simp] theorem State.startTraffic_mode : s.startTraffic.arb.mode = s.arb.mode := by
  cases h : s.arb.mode with
  | cycled => rw [s.startTraffic_cycled h, cycleStarted_frame]; exact h
  | free => rw [s.startTraffic_free h]; exact h

end
end Sys2Proof.Machine
end

section
/-! SUPPORT. The windows checked against an accepted reply during recovery (R145, R146), as windows that halt together. -/
namespace Sys2Proof.Machine
open Sys2Proof.Safety Sys2Proof.Proofs

/-! ### Two rounds of halts as one -/

/-- The long command ends with the cause of the window it runs for. -/
theorem State.endedCause_eq (s : State) (cause : WinId → Option FaultCause) : s.endedCause cause allWindows =
    if s.cmd.long.state = .running then s.cmd.long.window.bind cause else none := by
  by_cases run : s.cmd.long.state = .running
  · rw [if_pos run]
    have runsFor : ∀ w, s.runsFor w = true ↔ s.cmd.long.window = some w := fun w => by simp [State.runsFor, run]
    unfold State.endedCause
    cases found : (failingOf cause allWindows).find? fun w => s.runsFor w with
    | some w => rw [(runsFor w).mp (by simpa using List.find?_some found)]
    | none =>
      cases window : s.cmd.long.window with
      | none => rfl
      | some v =>
        have spared : v ∉ failingOf cause allWindows := fun hv =>
          List.find?_eq_none.mp found v hv ((runsFor v).mpr window)
        have noCause : cause v = none := by simpa [failingOf, mem_allWindows] using spared
        exact noCause.symm
  · rw [if_neg run, State.endedCause_of_not_running cause run]

section
variable {s : State} {c₁ c₂ : WinId → Option FaultCause}

/-- The long command ends once, with the cause of the window it runs for. -/
theorem endedCause_twice :
    s.endedCause (fun w => (c₁ w).or (c₂ w)) allWindows =
      (s.endedCause c₁ allWindows).or ((haltedTogether s c₁).endedCause c₂ allWindows) := by
  have first := congrArg State.cmd (haltedTogether_frame s c₁)
  dsimp only at first
  rw [State.endedCause_eq, State.endedCause_eq _ c₂, first]
  by_cases run : s.cmd.long.state = .running
  · rw [State.endedCause_eq, if_pos run, if_pos run]
    cases window : s.cmd.long.window with
    | none => simp [window]
    | some v => cases cause : c₁ v <;> simp [cause, run, window]
  · rw [State.endedCause_of_not_running _ run]
    simp [run]

/-- The command unit after both rounds. -/
theorem haltedTogether_twice_cmd :
    (haltedTogether (haltedTogether s c₁) c₂).cmd = (haltedTogether s fun w => (c₁ w).or (c₂ w)).cmd := by
  have first := congrArg State.cmd (haltedTogether_frame s c₁)
  rw [congrArg State.cmd (haltedTogether_frame (haltedTogether s c₁) c₂),
    congrArg State.cmd (haltedTogether_frame s fun w => (c₁ w).or (c₂ w))]
  dsimp only at first ⊢
  rw [endedCause_twice, first]
  cases ended : s.endedCause c₁ allWindows with
  | none => rfl
  | some c =>
    have idle : (haltedTogether s c₁).cmd.long.state ≠ .running := by rw [first, ended]; simp
    rw [State.endedCause_of_not_running c₂ idle]
    rfl

/-- The device's pending set after both rounds. -/
theorem haltedTogether_twice_devicePending :
    (haltedTogether (haltedTogether s c₁) c₂).ev.devicePending =
      (haltedTogether s fun w => (c₁ w).or (c₂ w)).ev.devicePending := by
  have first := congrArg State.cmd (haltedTogether_frame s c₁)
  have raised := congrArg (fun t => t.ev.devicePending) (haltedTogether_frame s c₁)
  refine (congrArg (fun t => t.ev.devicePending) (haltedTogether_frame (haltedTogether s c₁) c₂)).trans
    (.trans ?_ (congrArg (fun t => t.ev.devicePending) (haltedTogether_frame s fun w => (c₁ w).or (c₂ w))).symm)
  dsimp only at first raised ⊢
  rw [endedCause_twice, raised]
  cases ended : s.endedCause c₁ allWindows with
  | none => rfl
  | some c =>
    have idle : (haltedTogether s c₁).cmd.long.state ≠ .running := by rw [first, ended]; simp
    rw [State.endedCause_of_not_running c₂ idle]
    rfl

section
variable (empty : ∀ w, (c₂ w).isSome = true → (s.win w).queue = [])
include empty

/-- Windows with no queue free no slot. -/
theorem mem_freed_or_iff (i : SlotId) :
    (∃ w ∈ allWindows, ((c₁ w).or (c₂ w)).isSome = true ∧ i ∈ (s.win w).queue) ↔
      ∃ w ∈ allWindows, (c₁ w).isSome = true ∧ i ∈ (s.win w).queue := by
  refine exists_congr fun w => and_congr_right fun _ => and_congr_left fun hi => ?_
  cases h : c₂ w with
  | none => rw [Option.or_none]
  | some c => rw [empty w (by rw [h]; rfl)] at hi; simp at hi

/-- Windows with no queue end no transfer. -/
theorem failingTransfers_or :
    s.failingTransfers (fun w => (c₁ w).or (c₂ w)) allWindows = s.failingTransfers c₁ allWindows := by
  have lists : ∀ (l : List WinId) (p : WinId → Bool), (l.filter p).flatMap (fun w => s.transfersOf (s.win w).queue) =
      l.flatMap fun w => if p w then s.transfersOf (s.win w).queue else [] := fun l p => by
    induction l with
    | nil => rfl
    | cons w l ih => cases h : p w <;> simp [h, ih]
  unfold State.failingTransfers failingOf
  rw [lists, lists]
  refine List.flatMap_congr fun w _ => ?_
  by_cases h : (c₂ w).isSome = true
  · simp [empty w h, State.transfersOf]
  · simp [show c₂ w = none by simpa using h]

variable (apart : ∀ w, (c₂ w).isSome = true → c₁ w = none)
include apart

/-- The second round finds its windows as they were, with no transfer in their queues. -/
theorem second_finds {w : WinId} (h : (c₂ w).isSome = true) :
    (haltedTogether s c₁).win w = s.win w ∧ ((haltedTogether s c₁).win w).queue = [] := by
  have same : (haltedTogether s c₁).win w = s.win w := by rw [haltedTogether_win, apart w h]
  exact ⟨same, by rw [same]; exact empty w h⟩

theorem haltedTogether_twice_win (w : WinId) :
    (haltedTogether (haltedTogether s c₁) c₂).win w = (haltedTogether s fun w => (c₁ w).or (c₂ w)).win w := by
  rw [haltedTogether_win, haltedTogether_win s fun w => (c₁ w).or (c₂ w)]
  cases h : c₂ w with
  | none => rw [haltedTogether_win, Option.or_none]
  | some c =>
    have fails : (c₂ w).isSome = true := by rw [h]; rfl
    obtain ⟨same, nothing⟩ := second_finds empty apart fails
    rw [apart w fails, Option.none_or]
    exact State.haltedRecord_congr same (by rw [nothing, empty w fails]; rfl)

theorem not_freed_by_second (i : SlotId) :
    ¬ ∃ w ∈ allWindows, (c₂ w).isSome = true ∧ i ∈ ((haltedTogether s c₁).win w).queue := by
  rintro ⟨w, -, h, hi⟩
  rw [(second_finds empty apart h).2] at hi
  simp at hi

theorem failingTransfers_second : (haltedTogether s c₁).failingTransfers c₂ allWindows = [] := by
  refine List.flatMap_eq_nil_iff.mpr fun w hw => ?_
  rw [(second_finds empty apart (List.mem_filter.mp hw).2).2]
  rfl

/-- Two rounds of halts are one, where the second round's windows have no queue and none of the first round's. -/
theorem haltedTogether_twice (attn : s.ev.attn = s.attnLevel) :
    haltedTogether (haltedTogether s c₁) c₂ = haltedTogether s fun w => (c₁ w).or (c₂ w) := by
  have win := haltedTogether_twice_win empty apart
  have pend := haltedTogether_twice_devicePending (s := s) (c₁ := c₁) (c₂ := c₂)
  have cmd := haltedTogether_twice_cmd (s := s) (c₁ := c₁) (c₂ := c₂)
  have lit₁ := haltedTogether_attn c₂ (haltedTogether_attn c₁ attn)
  have lit₂ := haltedTogether_attn (fun w => (c₁ w).or (c₂ w)) attn
  have frame₁ := haltedTogether_frame (haltedTogether s c₁) c₂
  have frame₂ := haltedTogether_frame s fun w => (c₁ w).or (c₂ w)
  have frame := haltedTogether_frame s c₁
  have slot : ∀ i, (haltedTogether (haltedTogether s c₁) c₂).slot i =
      (haltedTogether s fun w => (c₁ w).or (c₂ w)).slot i := fun i => by
    rw [haltedTogether_slot, if_neg (not_freed_by_second empty apart i), haltedTogether_slot, haltedTogether_slot]
    simp only [mem_freed_or_iff empty]
  have res : ∀ i, (haltedTogether (haltedTogether s c₁) c₂).reservation i =
      (haltedTogether s fun w => (c₁ w).or (c₂ w)).reservation i := fun i => by
    rw [haltedTogether_reservation, if_neg (not_freed_by_second empty apart i), haltedTogether_reservation,
      haltedTogether_reservation]
    simp only [mem_freed_or_iff empty]
  rw [failingTransfers_second empty apart] at frame₁
  rw [failingTransfers_or empty] at frame₂
  generalize haltedTogether (haltedTogether s c₁) c₂ = t at *
  generalize haltedTogether s (fun w => (c₁ w).or (c₂ w)) = u at *
  generalize haltedTogether s c₁ = v at *
  have masks : t.ev.windowMask = u.ev.windowMask ∧ t.ev.deviceMask = u.ev.deviceMask ∧ t.ev.counters = u.ev.counters := by
    rw [frame₁, frame₂, frame]; exact ⟨rfl, rfl, rfl⟩
  obtain ⟨wm, dm, counters⟩ := masks
  have level : t.attnLevel = u.attnLevel := State.attnLevel_congr (fun w => by rw [win]) wm pend dm
  refine State.ext_blocks win slot res ?_ ?_ ?_ ?_ cmd
    (eventUnit_ext pend wm dm counters (by rw [lit₁, lit₂, level])) ?_ ?_ ?_
  · rw [frame₁, tagsAfter_nil, frame₂, frame]
  all_goals rw [frame₁, frame₂, frame]
  simp [errorAnswers]

end
end
end Sys2Proof.Machine
end

section
/-! SUPPORT. An accepted HELLO_REPLY (R138, R139, R145, R146): obligation O47. -/
namespace Sys2Proof.Proofs
open Sys2Proof.Machine Sys2Proof.Safety

/-! ### The causes of the recovery check (R146) -/

/-- A fresh module halts a window that carries a queue. -/
def freshCause (fresh : Bool) (x : Window) : Option FaultCause :=
  if fresh && x.state.carriesQueue then some .moduleReset else none

/-- Whether a window lies outside a module of this capacity, or its packets outside this limit. -/
def outside (capacity packetLimit : Nat) (x : Window) : Bool :=
  x.defn.any fun d => capacity < d.farEnd || packetLimit < d.packetSize

/-- A window in service halts outside the module's bounds. -/
def rangeCause (capacity packetLimit : Nat) (x : Window) : Option FaultCause :=
  if x.state.live && outside capacity packetLimit x then some .farRange else none

/-- The cause with which the check halts a window: first the fresh flag, then the bounds. -/
def recoveryCause (capacity packetLimit : Nat) (fresh : Bool) (x : Window) : Option FaultCause :=
  (freshCause fresh x).or (rangeCause capacity packetLimit x)

theorem outOfRange_eq (s : State) (w : WinId) :
    s.outOfRange w = outside s.link.capacity s.link.packetLimit (s.win w) := by
  unfold State.outOfRange outside
  cases (s.win w).defn <;> rfl

theorem freshCause_of_not_live {fresh : Bool} {x : Window} (h : x.state.live = false) : freshCause fresh x = none := by
  simp [freshCause, WindowState.carriesQueue, h]

theorem rangeCause_of_not_live {c l : Nat} {x : Window} (h : x.state.live = false) : rangeCause c l x = none := by
  simp [rangeCause, h]

theorem recoveryCause_of_not_live {c l : Nat} {fresh : Bool} {x : Window} (h : x.state.live = false) :
    recoveryCause c l fresh x = none := by
  rw [recoveryCause, freshCause_of_not_live h, rangeCause_of_not_live h]; rfl

/-- Only a window in service has a cause. -/
theorem live_of_recoveryCause {c l : Nat} {fresh : Bool} {x : Window} (h : (recoveryCause c l fresh x).isSome = true) :
    x.state.live = true := by
  by_contra dead
  rw [recoveryCause_of_not_live (by simpa using dead)] at h
  simp at h

/-! ### The check as two rounds of halts -/

section
variable (cause : FaultCause) (p : Link → Window → Bool)

/-- The windows of a list that satisfy a test of the link and their record halt, one after another; no halt changes the
test of another window. -/
theorem foldl_halts_eq {l : List WinId} (hn : l.Nodup) (s : State) :
    l.foldl (fun s w => if p s.link (s.win w) then s.haltWindow w cause none none else s) s =
      s.haltEach (fun w => if p s.link (s.win w) then some cause else none) l := by
  have step : ∀ (l : List WinId) (u : State), l.Nodup → u.link = s.link → (∀ w ∈ l, u.win w = s.win w) →
      l.foldl (fun s w => if p s.link (s.win w) then s.haltWindow w cause none none else s) u =
        u.haltEach (fun w => if p s.link (s.win w) then some cause else none) l := by
    intro l
    induction l with
    | nil => intros; rfl
    | cons w l ih =>
      intro u hn link win
      obtain ⟨hw, hn⟩ := List.nodup_cons.mp hn
      rw [List.foldl_cons, link, win w (by simp)]
      cases test : p s.link (s.win w) with
      | false =>
        rw [u.haltEach_cons_none _ (by simp [test])]
        exact ih u hn link fun v hv => win v (by simp [hv])
      | true =>
        rw [u.haltEach_cons_some _ (c := cause) (by simp [test]), if_pos rfl]
        refine ih _ hn (by rw [State.haltWindow_link, link]) fun v hv => ?_
        rw [State.haltWindow_win, if_neg (by rintro rfl; exact hw hv), win v (by simp [hv])]
  exact step l s hn rfl fun _ _ => rfl

end

/-- Halts only add to the device's pending set. -/
theorem haltEach_devicePending (s : State) (cause : WinId → Option FaultCause) (l : List WinId) :
    ∃ k, (s.haltEach cause l).ev.devicePending = s.ev.devicePending ||| k := by
  rw [State.haltEach_ev]
  dsimp only
  split
  · exact ⟨_, rfl⟩
  · exact ⟨0, by simp⟩

section
variable (s : State) (fresh : Bool)

/-- The first round of the check: the windows that a fresh module halts. -/
def freshHalts : State := s.haltEach (fun w => freshCause fresh (s.win w)) allWindows

/-- The windows outside the bounds that a part finds. -/
def rangeHalts : State :=
  s.haltEach (fun w => rangeCause s.link.capacity s.link.packetLimit (s.win w)) allWindows

theorem recoveryCheck_eq : s.recoveryCheck fresh = rangeHalts (freshHalts s fresh) := by
  have first : (if fresh then allWindows.foldl (fun s w =>
      if (s.win w).state.carriesQueue then s.haltWindow w .moduleReset none none else s) s else s) =
      freshHalts s fresh := by
    cases fresh with
    | true => exact foldl_halts_eq .moduleReset (fun _ x => x.state.carriesQueue) allWindows_nodup s
    | false => exact (foldl_keeps id _ (fun _ _ => rfl) allWindows s).symm
  unfold State.recoveryCheck
  rw [first]
  simp only [outOfRange_eq]
  exact foldl_halts_eq .farRange (fun k x => x.state.live && outside k.capacity k.packetLimit x) allWindows_nodup _

@[simp] theorem freshHalts_link : (freshHalts s fresh).link = s.link := State.haltEach_link ..

/-- The second round's causes, by the windows before the first: those that it halted are out of service. -/
theorem rangeCause_freshHalts (c l : Nat) (w : WinId) : rangeCause c l ((freshHalts s fresh).win w) =
    if (freshCause fresh (s.win w)).isSome then none else rangeCause c l (s.win w) := by
  cases cause : freshCause fresh (s.win w) with
  | none => rw [freshHalts, State.haltEach_win_of_not _ _ (.inr cause)]; rfl
  | some c =>
    obtain ⟨u, -, record⟩ := s.haltEach_win_of_mem (fun w => freshCause fresh (s.win w)) allWindows_nodup
      (mem_allWindows w) cause
    rw [freshHalts, record]
    rfl

/-- What the check leaves of a window, whatever the slots are. -/
theorem recoveryCheck_win (w : WinId) : ∃ u : State, u.win w = s.win w ∧ (s.recoveryCheck fresh).win w =
    match recoveryCause s.link.capacity s.link.packetLimit fresh (s.win w) with
    | some c => haltedRecord u w c none none
    | none => s.win w := by
  have second := rangeCause_freshHalts s fresh s.link.capacity s.link.packetLimit w
  rw [recoveryCheck_eq, rangeHalts, freshHalts_link, recoveryCause]
  cases reset : freshCause fresh (s.win w) with
  | some c =>
    rw [reset] at second
    obtain ⟨u, win, record⟩ := s.haltEach_win_of_mem (fun w => freshCause fresh (s.win w)) allWindows_nodup
      (mem_allWindows w) reset
    exact ⟨u, win, by rw [State.haltEach_win_of_not _ _ (.inr second)]; exact record⟩
  | none =>
    rw [reset] at second
    have still : (freshHalts s fresh).win w = s.win w := s.haltEach_win_of_not _ (.inr reset)
    cases range : rangeCause s.link.capacity s.link.packetLimit (s.win w) with
    | none => exact ⟨s, rfl, by rw [State.haltEach_win_of_not _ _ (.inr (second.trans range)), still]; rfl⟩
    | some c =>
      obtain ⟨u, win, record⟩ := (freshHalts s fresh).haltEach_win_of_mem
        (fun w => rangeCause s.link.capacity s.link.packetLimit ((freshHalts s fresh).win w)) allWindows_nodup
        (mem_allWindows w) (second.trans range)
      exact ⟨u, win.trans still, record⟩

@[simp] theorem recoveryCheck_link : (s.recoveryCheck fresh).link = s.link := by
  rw [recoveryCheck_eq, rangeHalts, State.haltEach_link, freshHalts_link]

theorem recoveryCheck_devicePending :
    ∃ k, (s.recoveryCheck fresh).ev.devicePending = s.ev.devicePending ||| k := by
  obtain ⟨j, first⟩ := haltEach_devicePending s (fun w => freshCause fresh (s.win w)) allWindows
  obtain ⟨k, second⟩ := haltEach_devicePending (freshHalts s fresh)
    (fun w => rangeCause s.link.capacity s.link.packetLimit ((freshHalts s fresh).win w)) allWindows
  refine ⟨j ||| k, ?_⟩
  rw [recoveryCheck_eq, rangeHalts, freshHalts_link, second, freshHalts, first, BitVec.or_assoc]

end

theorem freshHalts_false (s : State) : freshHalts s false = s := foldl_keeps id _ (fun _ _ => rfl) allWindows s

/-- Windows that halt together leave no slot in two queues. -/
theorem queuesApart_haltedTogether {s : State} (apart : QueuesApart s) (cause : WinId → Option FaultCause) :
    QueuesApart (haltedTogether s cause) := by
  have queue : ∀ v i, i ∈ ((haltedTogether s cause).win v).queue → i ∈ (s.win v).queue := fun v i hi => by
    rw [haltedTogether_win] at hi
    cases h : cause v with
    | none => rwa [h] at hi
    | some c => rw [h] at hi; simp [haltedRecord] at hi
  exact fun u v huv i hi hj => apart u v huv i (queue u i hi) (queue v i hj)

/-- Where the queues and slots fit together the check is one round of halts: with a fresh module only SYNCING windows are
left for the second round, and they have no queue (R8). -/
theorem recoveryCheck_eq_haltedTogether {s : State} (law : TransferLaw s) (attn : s.ev.attn = s.attnLevel) (fresh : Bool) :
    s.recoveryCheck fresh =
      haltedTogether s fun w => recoveryCause s.link.capacity s.link.packetLimit fresh (s.win w) := by
  have apart := QueuesApart.of_law law
  rw [recoveryCheck_eq]
  cases fresh with
  | false =>
    rw [freshHalts_false, rangeHalts, haltEach_eq_haltedTogether apart]
    rfl
  | true =>
    have first : freshHalts s true = haltedTogether s fun w => freshCause true (s.win w) :=
      haltEach_eq_haltedTogether apart _
    have second : rangeHalts (freshHalts s true) = haltedTogether (freshHalts s true) fun w =>
        if (freshCause true (s.win w)).isSome then none
        else rangeCause s.link.capacity s.link.packetLimit (s.win w) := by
      rw [rangeHalts, freshHalts_link, funext fun w => rangeCause_freshHalts s true _ _ w]
      exact haltEach_eq_haltedTogether (first ▸ queuesApart_haltedTogether apart _) _
    rw [second, first, haltedTogether_twice (fun w h => ?_) (fun w h => ?_) attn]
    · congr 1
      funext w
      unfold recoveryCause
      cases freshCause true (s.win w) <;> rfl
    · have syncing : (s.win w).state = .syncing := by
        cases state : (s.win w).state <;>
          simp [freshCause, rangeCause, WindowState.carriesQueue, WindowState.live, state] at h ⊢
      exact ((transferLaw_iff s).mp law).still w (by rw [syncing]; rfl)
    · cases cause : freshCause true (s.win w) with
      | none => rfl
      | some c => rw [cause] at h; simp at h

/-! ### Recovery (R145) -/

/-- The part as recovery finds it, ACTIVE with the reply's values and RECOVERED raised. -/
def cameBack (s : State) (c l : Nat) : State := (s.toActive c l).raiseDevice .recovered

theorem cameBack_win (s : State) (c l : Nat) (w : WinId) : (cameBack s c l).win w = s.win w := rfl

theorem cameBack_link (s : State) (c l : Nat) : (cameBack s c l).link = { s.link with
    state := .active, capacity := c, packetLimit := l, timeoutRun := 0, probeTimer := none, recoveryTimer := none } := rfl

theorem cameBack_transferLaw {s : State} (law : TransferLaw s) (c l : Nat) : TransferLaw (cameBack s c l) :=
  (Aside.after (.raiseDevice _ .recovered) (.toActive s c l)).kept.transfers law

theorem recovered_def (s : State) (c l : Nat) (fresh : Bool) : s.recovered c l fresh =
    ((((cameBack s c l).recoveryCheck fresh).startTraffic).attemptSince s).markNewHeads.choose := by
  unfold State.recovered cameBack
  rfl

/-- The causes of the check, by the windows as the reply finds them. -/
def recoveryCauses (s : State) (c l : Nat) (fresh : Bool) (w : WinId) : Option FaultCause :=
  recoveryCause c l fresh (s.win w)

/-- An attempt, where a halt has changed a window (R25). -/
def attemptWhere (cause : WinId → Option FaultCause) (s : State) : State :=
  if allWindows.any fun w => (cause w).isSome then s.attempt else s

theorem attemptWhere_mode (cause : WinId → Option FaultCause) (s : State) :
    (attemptWhere cause s).arb.mode = s.arb.mode := by
  have keeps : AttemptKeeps s (attemptWhere cause s) := by
    unfold attemptWhere
    split
    · exact .attempt s
    · exact .refl s
  obtain ⟨-, -, -, -, -, -, -, -, -, -, -, arb, -⟩ := keeps
  rw [arb]

/-- A recovery as one round of halts, the start of traffic, and the attempt that the halts cause. -/
theorem recovered_eq {s : State} (law : TransferLaw s) (c l : Nat) (fresh : Bool) :
    s.recovered c l fresh =
      (attemptWhere (recoveryCauses s c l fresh)
        (haltedTogether (cameBack s c l) (recoveryCauses s c l fresh)).startTraffic).markNewHeads.choose := by
  have check : (cameBack s c l).recoveryCheck fresh = haltedTogether (cameBack s c l) (recoveryCauses s c l fresh) := by
    rw [recoveryCheck_eq_haltedTogether (cameBack_transferLaw law c l) (State.raiseDevice_attn _ _), cameBack_link]
    simp only [cameBack_win]
    rfl
  have traffic := Quiet.startTraffic (haltedTogether (cameBack s c l) (recoveryCauses s c l fresh))
  have attempted : ((haltedTogether (cameBack s c l) (recoveryCauses s c l fresh)).startTraffic).attemptSince s =
      attemptWhere (recoveryCauses s c l fresh)
        (haltedTogether (cameBack s c l) (recoveryCauses s c l fresh)).startTraffic := by
    refine attemptSince_of_halts (fun w => ?_) (fun w none => ?_) (fun w fails halted => ?_) rfl
    · rw [(traffic.win w).state, haltedTogether_win]
      cases recoveryCauses s c l fresh w <;> rfl
    · rw [(traffic.win w).queue, haltedTogether_win, none]
      rfl
    · have live := live_of_recoveryCause fails
      rw [halted] at live
      exact absurd live (by decide)
  rw [recovered_def, ← attempted, check]

/-- In CYCLED mode a cycle starts, and the heads that the attempt makes are marked with the others (R124, R129). -/
theorem recovered_cycled {s : State} (law : TransferLaw s) (c l : Nat) (fresh : Bool) (mode : s.arb.mode = .cycled) :
    s.recovered c l fresh =
      (headsMarked (attemptWhere (recoveryCauses s c l fresh)
        (cycleStarted (haltedTogether (cameBack s c l) (recoveryCauses s c l fresh))))).choose := by
  rw [recovered_eq law]
  generalize recoveryCauses s c l fresh = cause
  generalize halted : haltedTogether (cameBack s c l) cause = h
  have modeH : h.arb.mode = .cycled := by rw [← halted, haltedTogether_frame]; exact mode
  rw [State.startTraffic_cycled h modeH]
  generalize started : cycleStarted h = v
  have modeV : v.arb.mode = .cycled := by rw [← started, cycleStarted_frame]; exact modeH
  have modeT : (attemptWhere cause v).arb.mode = .cycled := by
    rw [attemptWhere_mode]; exact modeV
  rw [State.markNewHeads, modeT, ← State.markHeads_eq]

/-- In FREE mode the keep-alive timer starts (R130). -/
theorem recovered_free {s : State} (law : TransferLaw s) (c l : Nat) (fresh : Bool) (mode : s.arb.mode = .free)
    {h : State} (halted : haltedTogether (cameBack s c l) (recoveryCauses s c l fresh) = h) :
    s.recovered c l fresh = (attemptWhere (recoveryCauses s c l fresh)
        { h with arb := { h.arb with keepAliveTimer := some 0 } }).choose := by
  rw [recovered_eq law, halted]
  generalize recoveryCauses s c l fresh = cause at halted ⊢
  have modeH : h.arb.mode = .free := by rw [← halted, haltedTogether_frame]; exact mode
  have modeT : (attemptWhere cause h.startTraffic).arb.mode = .free := by
    rw [attemptWhere_mode, State.startTraffic_mode, modeH]
  rw [State.markNewHeads, modeT, State.startTraffic_free h modeH]

/-! ### What a recovery leaves, whatever the slots are -/

/-- What of a window record neither traffic, nor an attempt, nor a choice writes. -/
def lastingOf (x : Window) : WindowState × Option Definition × Option FaultRecord × Nat × Bool :=
  (x.state, x.defn, x.fault, x.pages, x.seqBit)

theorem lastingOf_of_quiet {s t : State} (q : Quiet s t) (a : Aside s t) (w : WinId) :
    lastingOf (t.win w) = lastingOf (s.win w) := by
  unfold lastingOf
  rw [(q.win w).state, (q.win w).defn, (q.win w).fault, (q.win w).pages, (a.win w).seqBit]

theorem lastingOf_of_attempt {s t : State} (k : AttemptKeeps s t) (w : WinId) :
    lastingOf (t.win w) = lastingOf (s.win w) := by
  rw [(k.1 w).1]; rfl

theorem markNewHeads_link (s : State) : s.markNewHeads.link = s.link := by
  rcases s.markNewHeads_cases with ⟨-, h⟩ | ⟨-, h⟩ <;> rw [h]
  rw [s.markHeads_frame]

theorem markNewHeads_ev (s : State) : s.markNewHeads.ev = s.ev := by
  rcases s.markNewHeads_cases with ⟨-, h⟩ | ⟨-, h⟩ <;> rw [h]
  rw [s.markHeads_frame]

section
variable (s : State) (c l : Nat) (fresh : Bool)

theorem recovered_lasting (w : WinId) :
    lastingOf ((s.recovered c l fresh).win w) = lastingOf (((cameBack s c l).recoveryCheck fresh).win w) := by
  rw [recovered_def]
  exact (lastingOf_of_attempt (.choose _) w).trans ((lastingOf_of_quiet (.markNewHeads _) (.markNewHeads _) w).trans
    ((lastingOf_of_attempt (.attemptSince _ s) w).trans (lastingOf_of_quiet (.startTraffic _) (.startTraffic _) w)))

theorem recovered_link : (s.recovered c l fresh).link = (cameBack s c l).link := by
  have check := recoveryCheck_link (cameBack s c l) fresh
  rw [recovered_def]
  generalize (cameBack s c l).recoveryCheck fresh = u at check ⊢
  obtain ⟨-, -, -, link, -⟩ := AttemptKeeps.attemptSince u.startTraffic s
  rw [State.choose_link, markNewHeads_link, link, State.startTraffic_frame, check]

/-- Of the device's pending set a recovery leaves RECOVERED and what was there. -/
theorem recovered_devicePending :
    ∃ k, (s.recovered c l fresh).ev.devicePending = (cameBack s c l).ev.devicePending ||| k := by
  obtain ⟨j, checked⟩ := recoveryCheck_devicePending (cameBack s c l) fresh
  rw [recovered_def]
  generalize (cameBack s c l).recoveryCheck fresh = u at checked ⊢
  obtain ⟨k, attempted⟩ := attemptSince_devicePending u.startTraffic s
  refine ⟨j ||| k, ?_⟩
  rw [State.choose_ev, markNewHeads_ev, attempted, State.startTraffic_frame, checked, BitVec.or_assoc]

/-- What a recovery leaves of a window: halted with the cause of the check, or as it was. -/
theorem recovered_win (w : WinId) : ∃ u : State, u.win w = s.win w ∧
    lastingOf ((s.recovered c l fresh).win w) = lastingOf (match recoveryCause c l fresh (s.win w) with
      | some k => haltedRecord u w k none none
      | none => s.win w) := by
  obtain ⟨u, win, record⟩ := recoveryCheck_win (cameBack s c l) fresh w
  exact ⟨u, win, (recovered_lasting s c l fresh w).trans (congrArg lastingOf record)⟩

/-- A window with a cause is HALTED with it. -/
theorem recovered_halted {w : WinId} {k : FaultCause} (cause : recoveryCause c l fresh (s.win w) = some k) :
    ((s.recovered c l fresh).win w).state = .halted ∧
      ((s.recovered c l fresh).win w).fault.map (·.cause) = some k := by
  obtain ⟨u, -, same⟩ := recovered_win s c l fresh w
  rw [cause] at same
  simp only [lastingOf, Prod.mk.injEq] at same
  obtain ⟨state, -, fault, -, -⟩ := same
  exact ⟨state, by rw [fault]; rfl⟩

/-- A window without one keeps its state and its fault record. -/
theorem recovered_spared {w : WinId} (cause : recoveryCause c l fresh (s.win w) = none) :
    ((s.recovered c l fresh).win w).state = (s.win w).state ∧
      ((s.recovered c l fresh).win w).fault = (s.win w).fault := by
  obtain ⟨u, -, same⟩ := recovered_win s c l fresh w
  rw [cause] at same
  simp only [lastingOf, Prod.mk.injEq] at same
  obtain ⟨state, -, fault, -, -⟩ := same
  exact ⟨state, fault⟩

/-- Every window keeps its definition, its pages and its sequence bit. -/
theorem recovered_kept (w : WinId) :
    ((s.recovered c l fresh).win w).defn = (s.win w).defn ∧ ((s.recovered c l fresh).win w).pages = (s.win w).pages ∧
      ((s.recovered c l fresh).win w).seqBit = (s.win w).seqBit := by
  obtain ⟨u, win, same⟩ := recovered_win s c l fresh w
  cases cause : recoveryCause c l fresh (s.win w) <;> rw [cause] at same <;>
    simp only [lastingOf, haltedRecord, win, Prod.mk.injEq] at same <;>
    obtain ⟨-, defn, -, pages, seqBit⟩ := same <;> exact ⟨defn, pages, seqBit⟩

end

/-! ### The end of a probe (R139) -/

/-- A long command that runs under this code is DONE (R160). -/
theorem completeDone_eq (s : State) (code : LongCode) :
    s.completeDone code = if s.runsLong code = true then longDone s else s := by
  unfold State.completeDone
  split
  · next runs => exact s.completeLong_running (runsLong_running s runs) _ _
  · rfl

/-- The part as the end of a probe finds it, ACTIVE with the reply's values and LINK_UP raised. -/
def cameUp (s : State) (c l : Nat) : State := (s.toActive c l).raiseDevice .linkUp

section
variable (s : State) (c l : Nat)

/-- A long command that runs ends DONE with COMMAND_DONE (R160). -/
theorem completeDone_cmd_ev {code : LongCode} (runs : s.runsLong code = true) :
    (s.completeDone code).cmd = { s.cmd with long := { s.cmd.long with state := .done, detail := .none } } ∧
      (s.completeDone code).ev.devicePending = s.ev.devicePending ||| DeviceKind.commandDone.bit := by
  rw [completeDone_eq, if_pos runs]
  exact ⟨rfl, rfl⟩

theorem completeDone_devicePending (code : LongCode) :
    ∃ k, (s.completeDone code).ev.devicePending = s.ev.devicePending ||| k := by
  rw [completeDone_eq]
  split
  · exact ⟨DeviceKind.commandDone.bit, rfl⟩
  · exact ⟨0, by simp⟩

/-- Apart from windows, slots, the arbiter and ATTN the end of a probe leaves what the end of ATTACH leaves. -/
theorem attached_frame : s.attached c l = { (cameUp s c l).completeDone .attach with
    windows := (s.attached c l).windows, slots := (s.attached c l).slots, arb := (s.attached c l).arb
    ev := { ((cameUp s c l).completeDone .attach).ev with attn := (s.attached c l).ev.attn } } := by
  have frame : s.attached c l = ((cameUp s c l).completeDone .attach).startTraffic.choose := rfl
  rw [frame]
  generalize (cameUp s c l).completeDone .attach = u
  rw [State.choose_frame, State.startTraffic_frame]

/-- Its arbiter, but for the marker, the pointers and the transmitter, is the one that traffic starts with. -/
theorem attached_timers :
    let a := ((cameUp s c l).completeDone .attach).startTraffic.arb
    (s.attached c l).arb.cycleCount = a.cycleCount ∧ (s.attached c l).arb.cycleTimer = a.cycleTimer ∧
      (s.attached c l).arb.keepAliveTimer = a.keepAliveTimer := by
  have arb := State.choose_arb ((cameUp s c l).completeDone .attach).startTraffic
  have frame : s.attached c l = ((cameUp s c l).completeDone .attach).startTraffic.choose := rfl
  rw [frame, arb]
  exact ⟨rfl, rfl, rfl⟩

end

/-! ### The obligation -/

section
variable {s : State} {c : BitVec 32} {l : BitVec 16} {fresh : Bool}

/-- A reply with its fields in range is accepted while PROBING and while RECOVERING (R138). -/
theorem replyInRange_of (h₁ : 1 ≤ c.toNat) (h₂ : c.toNat ≤ 4194304) (h₃ : 32 ≤ l.toNat) (h₄ : l.toNat ≤ 256) :
    replyInRange c.toNat l.toNat = true := by
  simp [replyInRange, h₁, h₂, h₃, h₄]

theorem exec_helloReply_probing (range : replyInRange c.toNat l.toNat = true) (probing : s.link.state = .probing) :
    exec (.helloReplyReceived c l fresh) s = .next ((heard s).attached c.toNat l.toNat) := by
  have state : s.goodPacket.link.state = .probing := probing
  show execHelloReplyReceived c l fresh s = _
  unfold execHelloReplyReceived
  dsimp only
  rw [if_pos range, state]
  rfl

theorem exec_helloReply_recovering (range : replyInRange c.toNat l.toNat = true)
    (recovering : s.link.state = .recovering) :
    exec (.helloReplyReceived c l fresh) s = .next ((heard s).recovered c.toNat l.toNat fresh) := by
  have state : s.goodPacket.link.state = .recovering := recovering
  show execHelloReplyReceived c l fresh s = _
  unfold execHelloReplyReceived
  dsimp only
  rw [if_pos range, state]
  rfl

end

/-- The check's causes as the rule words them (R146). -/
theorem recoveryCauses_stated (s : State) (c l : Nat) (fresh : Bool) :
    (fun w : WinId =>
      if fresh = true ∧ (s.win w).state ∈ [.opened, .held, .fenced, .closing] then some FaultCause.moduleReset
      else if (s.win w).state ∈ [.syncing, .opened, .held, .fenced, .closing] ∧
          (s.win w).defn.any (fun d => c < (d.farBase.toNat + d.size) / 1024 || l < d.packetSize) = true
        then some FaultCause.farRange
      else none) = recoveryCauses s c l fresh := by
  funext w
  show _ = (freshCause fresh (s.win w)).or (rangeCause c l (s.win w))
  have bounds : (s.win w).defn.any (fun d => c < (d.farBase.toNat + d.size) / 1024 || l < d.packetSize) =
      outside c l (s.win w) := rfl
  rw [bounds, freshCause, rangeCause]
  cases (s.win w).state <;> cases fresh <;> simp [WindowState.carriesQueue, WindowState.live]

/-- Of the windows in service all but a SYNCING one carry a queue. -/
theorem carriesQueue_of_live {x : WindowState} (live : x.live = true) : x.carriesQueue = true ↔ x ≠ .syncing := by
  cases x <;> simp_all [WindowState.live, WindowState.carriesQueue]

theorem outside_iff {x : Window} {d : Definition} (defn : x.defn = some d) (c l : Nat) :
    outside c l x = true ↔ c < (d.farBase.toNat + d.size) / 1024 ∨ l < d.packetSize := by
  rw [outside, defn, Option.any_some, Bool.or_eq_true, decide_eq_true_iff, decide_eq_true_iff]
  rfl

theorem rangeCause_inside {c l : Nat} {x : Window} {d : Definition} (defn : x.defn = some d)
    (near : ¬ (c < (d.farBase.toNat + d.size) / 1024 ∨ l < d.packetSize)) :
    rangeCause c l x = none := by
  rw [← outside_iff defn] at near
  simp [rangeCause, near]

section
variable {c l : Nat} {fresh : Bool} {x : Window} {d : Definition} (live : x.state.live = true)
include live

theorem recoveryCause_reset (resets : fresh = true ∧ x.state ≠ .syncing) :
    recoveryCause c l fresh x = some .moduleReset := by
  simp [recoveryCause, freshCause, resets.1, (carriesQueue_of_live live).mpr resets.2]

theorem recoveryCause_not_reset (resets : ¬ (fresh = true ∧ x.state ≠ .syncing)) :
    recoveryCause c l fresh x = rangeCause c l x := by
  have : (fresh && x.state.carriesQueue) = false := by
    rw [Bool.eq_false_iff, ne_eq, Bool.and_eq_true, carriesQueue_of_live live]
    exact resets
  simp [recoveryCause, freshCause, this]

theorem rangeCause_outside (defn : x.defn = some d) (far : c < (d.farBase.toNat + d.size) / 1024 ∨ l < d.packetSize) :
    rangeCause c l x = some .farRange := by
  simp [rangeCause, live, (outside_iff defn c l).mpr far]

end

/-- An accepted reply ends a probe (R139). -/
theorem attached_leaves (s : State) (c l : Nat) :
    (s.attached c l).link = (cameUp s c l).link ∧
      (s.attached c l).ev.devicePending &&& DeviceKind.linkUp.bit ≠ 0 ∧
      (s.runsLong .attach = true →
        (s.attached c l).cmd = { s.cmd with long := { s.cmd.long with state := .done, detail := .none } } ∧
          (s.attached c l).ev.devicePending &&& DeviceKind.commandDone.bit ≠ 0) ∧
      (s.arb.mode = .cycled → (s.attached c l).arb.cycleCount = s.arb.cycleCount + 1 ∧
        (s.attached c l).arb.cycleTimer = some ⟨0, s.arb.cycleLength⟩) ∧
      (s.arb.mode = .free → (s.attached c l).arb.cycleTimer = none ∧ (s.attached c l).arb.keepAliveTimer = some 0) ∧
      (s.attached c l).acc = s.acc ∧ (s.attached c l).out = s.out := by
  have completed := State.completeDone_frame (cameUp s c l) .attach
  have done := completeDone_cmd_ev (cameUp s c l) (code := .attach)
  have raised := completeDone_devicePending (cameUp s c l) .attach
  have frame := attached_frame s c l
  obtain ⟨count, cycle, keepAlive⟩ := attached_timers s c l
  generalize s.attached c l = t at *
  generalize (cameUp s c l).completeDone .attach = u at *
  have arb : u.arb = (cameUp s c l).arb := by rw [completed]
  have pending : t.ev.devicePending = u.ev.devicePending := by rw [frame]
  refine ⟨by rw [frame, completed], ?_, fun runs => ?_, fun mode => ?_, fun mode => ?_, by rw [frame, completed]; rfl,
    by rw [frame, completed]; rfl⟩
  · obtain ⟨k, raised⟩ := raised
    rw [pending]
    exact has_of_or (by decide) ⟨k, s.ev.devicePending, raised⟩
  · obtain ⟨cmd, ev⟩ := done runs
    rw [pending]
    exact ⟨by rw [frame]; exact cmd, has_of_or (by decide) ⟨0, (cameUp s c l).ev.devicePending, by rw [ev]; simp⟩⟩
  · have started := congrArg State.arb (cycleStarted_frame u)
    rw [count, cycle, State.startTraffic_cycled u (by rw [arb]; exact mode), started, arb]
    exact ⟨rfl, rfl⟩
  · rw [cycle, keepAlive, State.startTraffic_free u (by rw [arb]; exact mode), arb]
    exact ⟨rfl, rfl⟩

/-- Settles O47: the end of a probe; a recovery as one state; and what it leaves whatever the slots are. -/
theorem helloReplyAccepted : Obligations.HelloReplyAccepted := by
  intro s c l fresh h₁ h₂ h₃ h₄ active
  have range := replyInRange_of h₁ h₂ h₃ h₄
  refine ⟨fun probing => ?_, fun recovering law => ?_, fun recovering => ?_⟩
  · obtain ⟨link, up, done, cycled, free, acc, out⟩ := attached_leaves (heard s) c.toNat l.toNat
    have windows := (Aside.attached (heard s) c.toNat l.toNat).win
    exact ⟨_, exec_helloReply_probing range probing, link, up, done, cycled, free,
      fun w => ⟨(windows w).state, (windows w).defn, (windows w).queue, (windows w).seqBit⟩, acc, out⟩
  · intro cause back halted tried
    have stated : cause = recoveryCauses (heard s) c.toNat l.toNat fresh := recoveryCauses_stated s _ _ fresh
    have together : haltedTogether (cameBack (heard s) c.toNat l.toNat) cause = halted := rfl
    have attempts : tried = attemptWhere cause := rfl
    rw [exec_helloReply_recovering range recovering, attempts]
    rw [stated] at together ⊢
    have law : TransferLaw (heard s) := law
    cases mode : s.arb.mode with
    | cycled =>
      have mode : (heard s).arb.mode = .cycled := mode
      rw [recovered_cycled law _ _ _ mode, together]
    | free =>
      have mode : (heard s).arb.mode = .free := mode
      rw [recovered_free law _ _ _ mode together]
  · obtain ⟨k, pending⟩ := recovered_devicePending (heard s) c.toNat l.toNat fresh
    refine ⟨_, exec_helloReply_recovering range recovering, recovered_link _ _ _ _,
      has_of_or (by decide) ⟨k, s.ev.devicePending, pending⟩, fun w d live defn => ?_, fun w dead => ?_,
      recovered_kept _ _ _ _⟩
    · intro resets outside
      exact ⟨fun h => recovered_halted _ _ _ _ (recoveryCause_reset live h),
        fun h far => recovered_halted _ _ _ _ ((recoveryCause_not_reset live h).trans (rangeCause_outside live defn far)),
        fun h near => recovered_spared _ _ _ _ ((recoveryCause_not_reset live h).trans (rangeCause_inside defn near))⟩
    · exact recovered_spared _ _ _ _ (recoveryCause_of_not_live dead)

end Sys2Proof.Proofs
end

section
/-! SUPPORT. LAYOUT (R69, R70) and the arbiter's choice (R121, R122): obligations O14 and O34. -/
namespace Sys2Proof.Proofs
open Sys2Proof.Machine Sys2Proof.Safety

/-! ### LAYOUT (R69, R70) -/

/-- Check 1 of R69, window by window. -/
theorem countsInRange_iff {counts : Vector Byte 12} :
    countsInRange counts = true ↔ ∀ w : WinId, counts[w].toNat ≤ 32 := by
  simp only [countsInRange, pageCounts, List.all_map, List.all_eq_true, mem_allWindows, true_imp_iff,
    Function.comp_apply, decide_eq_true_eq]
  rfl

section
variable {s : State} {counts : Vector Byte 12}

theorem judgeLayout_badParam (h : ∃ w : WinId, 32 < counts[w].toNat) : judgeLayout counts s = .refuse .badParam := by
  obtain ⟨w, large⟩ := h
  have out : countsInRange counts = false := by
    rw [← Bool.not_eq_true, countsInRange_iff]
    exact fun small => absurd (small w) (Nat.not_le.mpr large)
  simp [judgeLayout, out]

variable (small : ∀ w : WinId, counts[w].toNat ≤ 32)
include small

theorem judgeLayout_windowsClaiming (h : ∃ w : WinId, (s.win w).state.claims = true) :
    judgeLayout counts s = .refuse .windowsClaiming := by
  obtain ⟨w, claims⟩ := h
  have claimed : s.noneClaims = false := by
    rw [← Bool.not_eq_true, noneClaims_iff]
    exact fun unclaimed => by simp [unclaimed w] at claims
  simp [judgeLayout, countsInRange_iff.mpr small, claimed]

/-- With the counts in range and no window claiming, the sum of the counts decides (R69). -/
theorem judgeLayout_of_noneClaims (unclaimed : ∀ w : WinId, (s.win w).state.claims = false) :
    judgeLayout counts s =
      if 128 < (allWindows.map fun w => counts[w].toNat).sum then .refuse .overCapacity
      else .done (s.mapWins fun w x => { x with pages := counts[w].toNat }) [] := by
  simp only [judgeLayout, countsInRange_iff.mpr small, noneClaims_iff.mpr unclaimed, Bool.not_true, Bool.false_eq_true,
    if_false]
  rfl

end

/-- Settles O14: the three checks in their order, and the counts written together. -/
theorem layoutOutcome : Obligations.LayoutOutcome := by
  intro s q counts ready
  refine ⟨fun large => refused_of ready (judgeLayout_badParam large), fun small =>
    ⟨fun claims => refused_of ready (judgeLayout_windowsClaiming small claims), fun unclaimed => ?_⟩⟩
  have judged := fun c => judgeLayout_of_noneClaims (s := s.setCmd c) small unclaimed
  refine ⟨fun full => refused_of ready ?_, fun fits => ?_⟩
  · rw [judged, if_pos full]
  · refine done_of ready (p := []) (t := s.mapWins fun w x => { x with pages := counts[w].toNat }) ?_ rfl
    rw [judged, if_neg (Nat.not_lt.mpr fits), State.setCmd_mapWins]

/-! ### The search from a pointer (R122) -/

/-- How many windows the search from a pointer passes before it comes to a window (R122). -/
def behindPointer (ptr w : WinId) : Nat := (w.val + 11 - ptr.val) % 12

theorem searchOrder_sorted (ptr : WinId) :
    (searchOrder ptr).Pairwise fun v w => behindPointer ptr v < behindPointer ptr w := by
  revert ptr; decide

theorem mem_searchOrder (ptr w : WinId) : w ∈ searchOrder ptr := by revert ptr w; decide

/-- A search from a pointer finds the window that meets its condition and is passed first. -/
theorem search_finds {ptr w : WinId} {p : WinId → Bool} (holds : p w = true)
    (least : ∀ v, p v = true → behindPointer ptr w ≤ behindPointer ptr v) : (searchOrder ptr).find? p = some w := by
  obtain ⟨before, after, order⟩ := List.append_of_mem (mem_searchOrder ptr w)
  refine List.find?_eq_some_iff_append.mpr ⟨holds, before, after, order, fun v early => ?_⟩
  have sorted := searchOrder_sorted ptr
  rw [order, List.pairwise_append] at sorted
  obtain ⟨-, -, across⟩ := sorted
  have passed : behindPointer ptr v < behindPointer ptr w := across v early w List.mem_cons_self
  have fails : ¬p v = true := fun meets => absurd (least v meets) (Nat.not_le.mpr passed)
  simpa using fails

/-! ### Exchanges that may be sent (R85, R122) -/

theorem mayStart_iff (x : WindowState) : x.mayStart = true ↔ x ∈ [.syncing, .opened, .fenced, .closing] := by
  cases x <;> decide

section
variable (s : State) (w : WinId) (x : Exchange)

/-- The exchange of a window, eligible to be sent (R85). -/
def Sendable : Prop :=
  s.link.state = .active ∧ (s.win w).state ∈ [.syncing, .opened, .fenced, .closing] ∧
    (s.win w).exchange = some x ∧ x.state = .ready

/-- What step 2 of R122 looks for: an eligible exchange of a PERIODIC window that fits the remaining budget. -/
def PeriodicSendable : Prop :=
  (s.win w).isPeriodic = true ∧ Sendable s w x ∧ (x.body = .sync ∨ x.body.cost ≤ (s.win w).remaining.getD 0)

/-- What step 3 of R122 looks for: an eligible exchange of a STRICT or POSTED window. -/
def GeneralSendable : Prop := (s.win w).isPeriodic = false ∧ Sendable s w x

end

section
variable {s : State} {w : WinId} {x : Exchange}

/-- The model's eligibility is that of the window's exchange (R85). -/
theorem eligible_iff : s.eligible w = true ↔ ∃ x, Sendable s w x := by
  simp only [State.eligible, Sendable, Bool.and_eq_true, decide_eq_true_iff, mayStart_iff]
  cases (s.win w).exchange <;> simp [and_assoc]

/-- The model's test of the budget is that of the window's exchange (R122). -/
theorem fits_iff (h : (s.win w).exchange = some x) :
    (s.win w).fits = true ↔ x.body = .sync ∨ x.body.cost ≤ (s.win w).remaining.getD 0 := by
  simp [Window.fits, h]

theorem periodicSearch_iff :
    ((s.win w).isPeriodic && s.eligible w && (s.win w).fits) = true ↔ ∃ x, PeriodicSendable s w x := by
  simp only [Bool.and_eq_true, eligible_iff, PeriodicSendable]
  constructor
  · rintro ⟨⟨periodic, x, link, state, exchange, ready⟩, fits⟩
    exact ⟨x, periodic, ⟨link, state, exchange, ready⟩, (fits_iff exchange).mp fits⟩
  · rintro ⟨x, periodic, ⟨link, state, exchange, ready⟩, fits⟩
    exact ⟨⟨periodic, x, link, state, exchange, ready⟩, (fits_iff exchange).mpr fits⟩

theorem generalSearch_iff :
    (!(s.win w).isPeriodic && s.eligible w) = true ↔ ∃ x, GeneralSendable s w x := by
  simp only [Bool.and_eq_true, Bool.not_eq_true', eligible_iff, GeneralSendable, exists_and_left]

/-! ### The two candidates (R122) -/

theorem periodicCandidate_of_first (h : PeriodicSendable s w x)
    (least : ∀ v y, PeriodicSendable s v y → behindPointer s.arb.periodicPtr w ≤ behindPointer s.arb.periodicPtr v) :
    s.periodicCandidate = some w :=
  search_finds (periodicSearch_iff.mpr ⟨x, h⟩) fun v meets =>
    let ⟨y, sendable⟩ := periodicSearch_iff.mp meets
    least v y sendable

theorem periodicCandidate_of_none (h : ∀ v y, ¬PeriodicSendable s v y) : s.periodicCandidate = none :=
  List.find?_eq_none.mpr fun v _ meets =>
    let ⟨y, sendable⟩ := periodicSearch_iff.mp meets
    h v y sendable

theorem generalCandidate_of_first (h : GeneralSendable s w x)
    (least : ∀ v y, GeneralSendable s v y → behindPointer s.arb.generalPtr w ≤ behindPointer s.arb.generalPtr v) :
    s.generalCandidate = some w :=
  search_finds (generalSearch_iff.mpr ⟨x, h⟩) fun v meets =>
    let ⟨y, sendable⟩ := generalSearch_iff.mp meets
    least v y sendable

theorem generalCandidate_of_none (h : ∀ v y, ¬GeneralSendable s v y) : s.generalCandidate = none :=
  List.find?_eq_none.mpr fun v _ meets =>
    let ⟨y, sendable⟩ := generalSearch_iff.mp meets
    h v y sendable

/-! ### What a choice sends (R121, R127) -/

/-- A sent exchange of a PERIODIC window spends its budget and moves the periodic pointer. -/
theorem sendExchange_periodic (periodic : (s.win w).isPeriodic = true) (exchange : (s.win w).exchange = some x) :
    s.sendExchange w = { s.setWin w { s.win w with
        exchange := some { x with state := .sending }
        remaining := (s.win w).remaining.map (· - x.body.cost) } with
      arb := { s.arb with transmitter := some (s.formPacket w x.body), periodicPtr := w } } := by
  simp [State.sendExchange, State.modWin, State.setWin, exchange, periodic]

/-- A sent exchange of a STRICT or POSTED window spends nothing and moves the general pointer. -/
theorem sendExchange_general (general : (s.win w).isPeriodic = false) (exchange : (s.win w).exchange = some x) :
    s.sendExchange w = { s.setWin w { s.win w with exchange := some { x with state := .sending } } with
      arb := { s.arb with transmitter := some (s.formPacket w x.body), generalPtr := w } } := by
  simp [State.sendExchange, State.modWin, State.setWin, exchange, general]

theorem choose_of_sending (h : s.arb.transmitter.isSome = true) : s.choose = s := by
  obtain ⟨packet, sending⟩ := Option.isSome_iff_exists.mp h
  simp [State.choose, sending]

variable (free : s.arb.transmitter = none)
include free

theorem choose_of_pendingMarker {m : Marker} (marker : s.arb.marker = some m) :
    s.choose = { s with arb := { s.arb with marker := none, transmitter := some m.packet } } := by
  simp [State.choose, free, marker]

/-- On a FREE transmitter with no marker the periodic candidate goes before the general one (R122). -/
theorem choose_of_noMarker (marker : s.arb.marker = none) :
    s.choose = ((s.periodicCandidate.or s.generalCandidate).map s.sendExchange).getD s := by
  simp only [State.choose, free, marker]
  cases s.periodicCandidate with
  | some w => rfl
  | none => cases s.generalCandidate <;> rfl

end

/-- Settles O34: the marker, the first PERIODIC exchange within its budget, the first other exchange, or nothing. -/
theorem arbiterChoice : Obligations.ArbiterChoice := by
  intro s eligible length fits behind first second packet
  have cost : ∀ x, length x = x.body.cost := by rintro ⟨⟨⟩⟩ <;> rfl
  have formed : ∀ w x, packet w x = s.formPacket w x.body := by
    rintro w ⟨⟨⟩⟩
    case write => simp only [packet, State.formPacket]; cases s.headOf w <;> rfl
    all_goals rfl
  have periodic : ∀ w x, first w x ↔ PeriodicSendable s w x := fun w x => by
    simp only [first, fits, cost]; rfl
  have general : ∀ w x, second w x ↔ GeneralSendable s w x := fun _ _ => Iff.rfl
  simp only [cost, formed, periodic, general]
  refine ⟨choose_of_sending, fun free => ⟨fun m marker => ?_, fun marker => ?_⟩⟩
  · rw [choose_of_pendingMarker free marker]
    cases m <;> rfl
  rw [choose_of_noMarker free marker]
  refine ⟨fun w x sends least => ?_, fun noPeriodic => ⟨fun w x sends least => ?_, fun noGeneral => ?_⟩⟩
  · have ⟨cls, ⟨_, _, exchange, _⟩, _⟩ := sends
    rw [periodicCandidate_of_first sends least]
    exact sendExchange_periodic cls exchange
  · have ⟨cls, _, _, exchange, _⟩ := sends
    rw [periodicCandidate_of_none noPeriodic, generalCandidate_of_first sends least]
    exact sendExchange_general cls exchange
  · rw [periodicCandidate_of_none noPeriodic, generalCandidate_of_none noGeneral]
    rfl

end Sys2Proof.Proofs
end

section
/-! SUPPORT. What one operation keeps of the laws of the exchanges, the budgets and the link mode (R83, R111, R126, R128) and
of the transmitter (R121): `ExchangesKept`; and, where it leaves a FREE transmitter nothing to send, `Idles`. -/
namespace Sys2Proof.Proofs
open Sys2Proof.Machine Sys2Proof.Safety

/-! ### What the laws say of one window -/

/-- A PERIODIC window in service (R128). -/
def PeriodicLive (x : Window) : Prop := x.isPeriodic = true ∧ x.state.live = true

/-- The NAK time of an exchange, with what is left of its interval in BACKOFF, is within the limit (R111). -/
def NakTimeFits (d : Definition) (e : Exchange) : Prop :=
  match e.state with
  | .backoff n => n ≤ d.nakInterval ∧ e.nakUsed + (d.nakInterval - n) ≤ d.nakLimit
  | .ready | .sending | .awaiting .. => e.nakUsed ≤ d.nakLimit

theorem nakFits_iff {x : Window} : nakFits x = true ↔
    ∀ e d, x.exchange = some e → x.defn = some d → d.nakLimit = 0 ∨ NakTimeFits d e := by
  unfold nakFits NakTimeFits
  cases x.exchange with
  | none => simp
  | some e =>
    cases x.defn with
    | none => simp
    | some d => cases he : e.state <;> simp [he]

/-- NAK time within the limit is within it whatever the exchange's state becomes but BACKOFF. -/
theorem NakTimeFits.used {d : Definition} {e : Exchange} (h : NakTimeFits d e) : e.nakUsed ≤ d.nakLimit := by
  unfold NakTimeFits at h
  split at h
  · omega
  · exact h
  · exact h
  · exact h

theorem nakTimeFits_of_used {d : Definition} {e : Exchange} (h : e.nakUsed ≤ d.nakLimit)
    (forward : ∀ n, e.state ≠ .backoff n) : NakTimeFits d e := by
  unfold NakTimeFits
  split
  · next n hn => exact absurd hn (forward n)
  · exact h
  · exact h
  · exact h

theorem budgetFits_iff {x : Window} : budgetFits x = true ↔
    x.remaining.isSome = (x.defn.bind (·.cls.budget)).isSome ∧
      ∀ b r, x.defn.bind (·.cls.budget) = some b → x.remaining = some r → r ≤ b := by
  unfold budgetFits
  cases x.defn.bind (·.cls.budget) <;> cases x.remaining <;> simp

/-- An exchange of the window could be sent on an ACTIVE link (R85, R122). -/
def Startable (x : Window) : Prop :=
  x.state.mayStart = true ∧ ∃ e, x.exchange = some e ∧ e.state = .ready ∧
    (x.isPeriodic = false ∨ e.body = .sync ∨ e.body.cost ≤ x.remaining.getD 0)

theorem isCandidate_iff {s : State} {w : WinId} :
    isCandidate s w = true ↔ s.link.state = .active ∧ Startable (s.win w) := by
  unfold isCandidate Startable
  simp only [mayStart_iff]
  cases (s.win w).exchange with
  | none => simp
  | some e => cases hb : e.body <;> simp [hb, ExchangeBody.cost, and_assoc]

theorem modeLaw_iff {s : State} : ModeLaw s ↔ (s.arb.mode = .free → ∀ w, ¬PeriodicLive (s.win w)) := by
  have live : s.periodicLive = false ↔ ∀ w, ¬PeriodicLive (s.win w) := by
    simp [State.periodicLive, PeriodicLive, mem_allWindows]
  unfold ModeLaw
  rw [live]

/-! ### What is kept of one window -/

/-- A record that keeps what its window has of R83, R111, R126 and R128. -/
structure WindowKept (x y : Window) : Prop where
  fits : exchangeFits x = true → exchangeFits y = true
  budget : budgetFits x = true → budgetFits y = true
  periodic : exchangeFits x = true → PeriodicLive y → PeriodicLive x
  nak : exchangeFits x = true → nakFits x = true → nakFits y = true

/-- A record that keeps them and has nothing new to send, nor anything newly SENDING. -/
structure WindowIdles (x y : Window) : Prop extends WindowKept x y where
  sending : y.exchange.map (·.state) = some .sending → x.exchange.map (·.state) = some .sending
  candidate : Startable y → Startable x

/-- What the laws read of a window. -/
def servedOf (x : Window) : WindowState × Option Definition × List SlotId × Option Exchange × Option Nat :=
  (x.state, x.defn, x.queue, x.exchange, x.remaining)

theorem WindowIdles.of_served {x y : Window} (h : servedOf y = servedOf x) : WindowIdles x y := by
  simp only [servedOf, Prod.mk.injEq] at h
  obtain ⟨state, defn, queue, exchange, remaining⟩ := h
  have periodic : y.isPeriodic = x.isPeriodic := by unfold Window.isPeriodic; rw [defn]
  refine ⟨⟨fun f => (exchangeFits_congr state queue (by rw [exchange])).trans f, ?_, ?_, fun _ => ?_⟩, ?_, ?_⟩
  · rw [budgetFits_iff, budgetFits_iff, defn, remaining]; exact id
  · unfold PeriodicLive; rw [periodic, state]; exact fun _ => id
  · rw [nakFits_iff, nakFits_iff, defn, exchange]; exact id
  · rw [exchange]; exact id
  · unfold Startable; rw [state, exchange, periodic, remaining]; exact id

theorem WindowIdles.refl (x : Window) : WindowIdles x x := .of_served rfl

/-- A record without an exchange: it is in service only if its window was. -/
theorem WindowIdles.of_none {x y : Window} (exchange : y.exchange = none) (defn : y.defn = x.defn)
    (remaining : y.remaining = x.remaining) (live : exchangeFits x = true → y.state.live = true → x.state.live = true) :
    WindowIdles x y := by
  have periodic : y.isPeriodic = x.isPeriodic := by unfold Window.isPeriodic; rw [defn]
  refine ⟨⟨fun _ => exchangeFits_none exchange, ?_, fun f h => ?_, fun _ _ => ?_⟩, ?_, ?_⟩
  · rw [budgetFits_iff, budgetFits_iff, defn, remaining]; exact id
  · exact ⟨by rw [← periodic]; exact h.1, live f h.2⟩
  · rw [nakFits_iff, exchange]; exact fun _ _ h => by cases h
  · rw [exchange]; exact fun h => by cases h
  · rintro ⟨-, e, he, -⟩; rw [exchange] at he; cases he

/-- A record with its exchange rewritten: the same packet, in a state of its own. -/
theorem WindowKept.of_exchange {x y : Window} {e e' : Exchange} (state : y.state = x.state) (defn : y.defn = x.defn)
    (queue : y.queue = x.queue) (remaining : y.remaining = x.remaining) (old : x.exchange = some e)
    (new : y.exchange = some e') (body : e'.body = e.body)
    (nak : ∀ d, x.defn = some d → d.nakLimit ≠ 0 → NakTimeFits d e → NakTimeFits d e') : WindowKept x y := by
  have periodic : y.isPeriodic = x.isPeriodic := by unfold Window.isPeriodic; rw [defn]
  refine ⟨fun f => (exchangeFits_congr state queue (by simp [old, new, body])).trans f, ?_, ?_, fun _ h => ?_⟩
  · rw [budgetFits_iff, budgetFits_iff, defn, remaining]; exact id
  · unfold PeriodicLive; rw [periodic, state]; exact fun _ => id
  · refine nakFits_iff.mpr fun a d ha hd => ?_
    obtain rfl : e' = a := Option.some.inj (new.symm.trans ha)
    rw [defn] at hd
    by_cases none : d.nakLimit = 0
    · exact .inl none
    · exact .inr (nak d hd none ((nakFits_iff.mp h e d old hd).resolve_left none))

/-- The rewritten exchange is SENDING only if the old one was, and READY only if the old one was. -/
theorem WindowIdles.of_exchange {x y : Window} {e e' : Exchange} (state : y.state = x.state) (defn : y.defn = x.defn)
    (queue : y.queue = x.queue) (remaining : y.remaining = x.remaining) (old : x.exchange = some e)
    (new : y.exchange = some e') (body : e'.body = e.body)
    (nak : ∀ d, x.defn = some d → d.nakLimit ≠ 0 → NakTimeFits d e → NakTimeFits d e')
    (sending : e'.state = .sending → e.state = .sending) (ready : e'.state = .ready → e.state = .ready) :
    WindowIdles x y := by
  refine ⟨.of_exchange state defn queue remaining old new body nak, by simpa [old, new] using sending, ?_⟩
  rintro ⟨start, a, ha, isReady, cost⟩
  obtain rfl : e' = a := Option.some.inj (new.symm.trans ha)
  have periodic : y.isPeriodic = x.isPeriodic := by unfold Window.isPeriodic; rw [defn]
  exact ⟨by rw [← state]; exact start, e, old, ready isReady, by rwa [periodic, remaining, body] at cost⟩

/-! ### What is kept of the part -/

/-- The second state keeps what the first has of R83, R111, R121, R126 and R128. -/
structure ExchangesKept (s t : State) : Prop where
  exchanges : ExchangeLaw s → ExchangeLaw t
  budgets : BudgetLaw s → BudgetLaw t
  mode : ExchangeLaw s → ModeLaw s → ModeLaw t
  nak : ExchangeLaw s → NakLaw s → NakLaw t
  sending : SendingLaw s → SendingLaw t

/-- It keeps them, and a FREE transmitter without anything to send. -/
structure Idles (s t : State) : Prop extends ExchangesKept s t where
  idle : IdleLaw s → IdleLaw t

/-- One operation, and another before it. -/
theorem ExchangesKept.after {s t u : State} (k : ExchangesKept t u) (h : ExchangesKept s t) : ExchangesKept s u :=
  ⟨fun x => k.exchanges (h.exchanges x), fun b => k.budgets (h.budgets b),
    fun x m => k.mode (h.exchanges x) (h.mode x m), fun x n => k.nak (h.exchanges x) (h.nak x n),
    fun l => k.sending (h.sending l)⟩

theorem Idles.after {s t u : State} (k : Idles t u) (h : Idles s t) : Idles s u :=
  ⟨k.toExchangesKept.after h.toExchangesKept, fun i => k.idle (h.idle i)⟩

/-- Every window keeps what it has, and the mode is that before or CYCLED. -/
theorem ExchangesKept.of_windows {s t : State} (win : ∀ w, WindowKept (s.win w) (t.win w))
    (mode : t.arb.mode = s.arb.mode ∨ t.arb.mode = .cycled) (sending : SendingLaw s → SendingLaw t) : ExchangesKept s t := by
  refine ⟨fun x w => (win w).fits (x w), fun b w => (win w).budget (b w), fun x m => ?_,
    fun x n w => (win w).nak (x w) (n w), sending⟩
  rw [modeLaw_iff] at m ⊢
  intro free w live
  rcases mode with same | cycled
  · exact m (same.symm.trans free) w ((win w).periodic (x w) live)
  · rw [cycled] at free; cases free

/-- The transmitter as before, a SENDING exchange was SENDING before. -/
theorem sendingLaw_of_windows {s t : State} (transmitter : t.arb.transmitter = s.arb.transmitter)
    (win : ∀ w, (t.win w).exchange.map (·.state) = some .sending → (s.win w).exchange.map (·.state) = some .sending)
    (l : SendingLaw s) : SendingLaw t := fun w h => by
  rw [transmitter]; exact l w (win w h)

/-- What the laws read of the arbiter and the link. -/
def lineOf (s : State) : LinkMode × Option Marker × Option Packet × LinkState :=
  (s.arb.mode, s.arb.marker, s.arb.transmitter, s.link.state)

/-- No window has anything new to send, no marker falls due, and the link does not become ACTIVE. -/
theorem Idles.of_windows {s t : State} (win : ∀ w, WindowIdles (s.win w) (t.win w))
    (mode : t.arb.mode = s.arb.mode ∨ t.arb.mode = .cycled) (transmitter : t.arb.transmitter = s.arb.transmitter)
    (marker : s.arb.marker = none → t.arb.marker = none) (link : t.link.state = .active → s.link.state = .active) :
    Idles s t := by
  refine ⟨.of_windows (fun w => (win w).toWindowKept) mode
    (sendingLaw_of_windows transmitter fun w => (win w).sending), fun i free => ?_⟩
  obtain ⟨noMarker, noCandidate⟩ := i (transmitter.symm.trans free)
  refine ⟨marker noMarker, fun w => Bool.eq_false_iff.mpr fun c => ?_⟩
  obtain ⟨active, start⟩ := isCandidate_iff.mp c
  have was := isCandidate_iff.mpr ⟨link active, (win w).candidate start⟩
  rw [noCandidate w] at was
  cases was

/-- With the arbiter and the link as they were, only the windows count. -/
theorem Idles.of_line {s t : State} (line : lineOf t = lineOf s) (win : ∀ w, WindowIdles (s.win w) (t.win w)) :
    Idles s t := by
  simp only [lineOf, Prod.mk.injEq] at line
  obtain ⟨mode, marker, transmitter, link⟩ := line
  exact .of_windows win (.inl mode) transmitter (fun h => marker.trans h) (fun h => link.symm.trans h)

/-- An operation that writes nothing these laws read. -/
theorem Idles.apart {s t : State} (line : lineOf t = lineOf s) (win : ∀ w, servedOf (t.win w) = servedOf (s.win w)) :
    Idles s t := .of_line line fun w => .of_served (win w)

theorem Idles.refl (s : State) : Idles s s := .apart rfl fun _ => rfl

theorem ExchangesKept.refl (s : State) : ExchangesKept s s := (Idles.refl s).toExchangesKept

theorem Idles.foldl {α : Type} {f : State → α → State} (h : ∀ s a, Idles s (f s a)) (l : List α) (s : State) :
    Idles s (l.foldl f s) :=
  foldl_invariant (fun t => Idles s t) f (fun t a ht => (h t a).after ht) l s (.refl s)

/-- A change of one window record. -/
theorem win_modWin_of {R : Window → Window → Prop} (refl : ∀ x, R x x) (s : State) (w : WinId) {f : Window → Window}
    (h : R (s.win w) (f (s.win w))) (v : WinId) : R (s.win v) ((s.modWin w f).win v) := by
  rw [State.win_modWin]
  split
  · next e => subst e; exact h
  · exact refl _

theorem Idles.modWin (s : State) (w : WinId) {f : Window → Window} (h : WindowIdles (s.win w) (f (s.win w))) :
    Idles s (s.modWin w f) := .of_line rfl (win_modWin_of .refl s w h)

theorem ExchangesKept.modWin (s : State) (w : WinId) {f : Window → Window} (h : WindowKept (s.win w) (f (s.win w)))
    (sending : (f (s.win w)).exchange.map (·.state) = some .sending → (s.win w).exchange.map (·.state) = some .sending) :
    ExchangesKept s (s.modWin w f) :=
  .of_windows (win_modWin_of (fun x => (WindowIdles.refl x).toWindowKept) s w h) (.inl rfl)
    (sendingLaw_of_windows rfl (win_modWin_of
      (R := fun x y => y.exchange.map (·.state) = some .sending → x.exchange.map (·.state) = some .sending)
      (fun _ => id) s w sending))

/-! ### Choices (R121, R122) -/

theorem formPacket_window (s : State) (w : WinId) (b : ExchangeBody) : (s.formPacket w b).window = some w := by
  unfold State.formPacket
  split
  · rfl
  · rfl
  · split <;> rfl

/-- A sent exchange spends from the budget of a PERIODIC window, and its NAK time stays (R127). -/
theorem WindowKept.sent {x : Window} {e : Exchange} (h : x.exchange = some e) (periodic : Bool) (n : Nat) :
    WindowKept x { x with exchange := some { e with state := .sending }
                          remaining := if periodic then x.remaining.map (· - n) else x.remaining } := by
  refine ⟨fun f => Eq.trans (b := exchangeFits x) (exchangeFits_congr rfl rfl (by simp [h])) f, fun b => ?_,
    fun _ => id, fun _ f => ?_⟩
  · rw [budgetFits_iff] at b ⊢
    cases periodic with
    | false => exact b
    | true =>
      refine ⟨by simpa using b.1, fun m r hm hr => ?_⟩
      obtain ⟨a, ha, rfl⟩ := Option.map_eq_some_iff.mp hr
      exact (Nat.sub_le a n).trans (b.2 m a hm ha)
  · refine nakFits_iff.mpr fun a d ha hd => ?_
    obtain rfl := Option.some.inj ha
    exact (nakFits_iff.mp f e d h hd).imp_right fun time => nakTimeFits_of_used time.used (by simp)

/-- With nothing SENDING on a FREE transmitter, an exchange that is sent is the one in the transmitter. -/
theorem sendingLaw_sendExchange {s : State} (free : s.arb.transmitter = none) {w : WinId} {e : Exchange}
    (h : (s.win w).exchange = some e) (l : SendingLaw s) : SendingLaw (s.sendExchange w) := by
  intro v hv
  have packet : (s.sendExchange w).arb.transmitter = some (s.formPacket w e.body) := by simp [State.sendExchange, h]
  rw [s.sendExchange_win h] at hv
  split at hv
  · next is => rw [packet, is]; exact formPacket_window s w e.body
  · have := l v hv
    rw [free] at this
    cases this

theorem ExchangesKept.sendExchange {s : State} (free : s.arb.transmitter = none) {w : WinId} {e : Exchange}
    (h : (s.win w).exchange = some e) : ExchangesKept s (s.sendExchange w) := by
  refine .of_windows (fun v => ?_) (.inl (by simp [State.sendExchange, h])) (sendingLaw_sendExchange free h)
  rw [s.sendExchange_win h]
  split
  · next e => subst e; exact .sent h _ _
  · exact (WindowIdles.refl _).toWindowKept

/-- A marker that goes into a FREE transmitter leaves nothing SENDING. -/
theorem ExchangesKept.sendMarker {s : State} (free : s.arb.transmitter = none) (p : Packet) :
    ExchangesKept s { s with arb := { s.arb with marker := none, transmitter := some p } } := by
  refine .of_windows (fun _ => (WindowIdles.refl _).toWindowKept) (.inl rfl) fun l w hw => ?_
  have := l w hw
  rw [free] at this
  cases this

theorem periodicCandidate_some {s : State} {w : WinId} (h : s.periodicCandidate = some w) : ∃ e, PeriodicSendable s w e :=
  periodicSearch_iff.mp
    (List.find?_some (p := fun w => (s.win w).isPeriodic && s.eligible w && (s.win w).fits) h)

theorem generalCandidate_some {s : State} {w : WinId} (h : s.generalCandidate = some w) : ∃ e, GeneralSendable s w e :=
  generalSearch_iff.mp (List.find?_some (p := fun w => !(s.win w).isPeriodic && s.eligible w) h)

/-- A choice on a FREE transmitter sends the marker, sends an exchange, or finds nothing to send. -/
theorem choose_of_free {s : State} (free : s.arb.transmitter = none) :
    (∃ m, s.choose = { s with arb := { s.arb with marker := none, transmitter := some (Marker.packet m) } }) ∨
      (∃ w e, (s.win w).exchange = some e ∧ s.choose = s.sendExchange w) ∨
      (s.choose = s ∧ s.arb.marker = none ∧ s.periodicCandidate = none ∧ s.generalCandidate = none) := by
  rcases s.choose_cases with ⟨busy, -⟩ | ⟨-, ⟨m, -, h⟩ | ⟨marker, ⟨w, c, h⟩ | ⟨periodic, ⟨w, c, h⟩ | ⟨general, h⟩⟩⟩⟩
  · rw [free] at busy; cases busy
  · exact .inl ⟨m, h⟩
  · obtain ⟨e, -, ⟨-, -, he, -⟩, -⟩ := periodicCandidate_some c
    exact .inr (.inl ⟨w, e, he, h⟩)
  · obtain ⟨e, -, -, -, he, -⟩ := generalCandidate_some c
    exact .inr (.inl ⟨w, e, he, h⟩)
  · exact .inr (.inr ⟨h, marker, periodic, general⟩)

theorem ExchangesKept.choose (s : State) : ExchangesKept s s.choose := by
  cases tx : s.arb.transmitter with
  | some p => rw [choose_of_sending (by rw [tx]; rfl)]; exact .refl s
  | none =>
    rcases choose_of_free tx with ⟨m, h⟩ | ⟨w, e, he, h⟩ | ⟨h, -⟩ <;> rw [h]
    · exact .sendMarker tx _
    · exact .sendExchange tx he
    · exact .refl s

/-- What could be sent is found by one of the two searches (R122). -/
theorem not_isCandidate_of_none {s : State} (periodic : s.periodicCandidate = none) (general : s.generalCandidate = none)
    (w : WinId) : isCandidate s w = false := by
  refine Bool.eq_false_iff.mpr fun c => ?_
  obtain ⟨active, start, e, he, ready, cost⟩ := isCandidate_iff.mp c
  have sendable : Sendable s w e := ⟨active, (mayStart_iff _).mp start, he, ready⟩
  cases h : (s.win w).isPeriodic with
  | false => exact List.find?_eq_none.mp general w (mem_searchOrder _ w) (generalSearch_iff.mpr ⟨e, h, sendable⟩)
  | true =>
    exact List.find?_eq_none.mp periodic w (mem_searchOrder _ w)
      (periodicSearch_iff.mpr ⟨e, h, sendable, cost.resolve_left (by simp [h])⟩)

/-- After a choice a FREE transmitter has nothing to send (R121). -/
theorem idleLaw_choose (s : State) : IdleLaw s.choose := by
  intro free
  cases tx : s.arb.transmitter with
  | some p => rw [choose_of_sending (by rw [tx]; rfl), tx] at free; cases free
  | none =>
    rcases choose_of_free tx with ⟨m, h⟩ | ⟨w, e, he, h⟩ | ⟨h, marker, periodic, general⟩ <;> rw [h] at free ⊢
    · cases free
    · simp [State.sendExchange, he] at free
    · exact ⟨marker, not_isCandidate_of_none periodic general⟩

/-- Whatever came before a choice, it leaves a FREE transmitter with nothing to send. -/
theorem Idles.chosen {s t : State} (h : ExchangesKept s t) : Idles s t.choose :=
  ⟨(ExchangesKept.choose t).after h, fun _ => idleLaw_choose t⟩

end Sys2Proof.Proofs
end

section
/-! SUPPORT. The operations of the part one by one: what each keeps of the laws of exchanges, budgets, mode and transmitter
(`ExchangesKept`, `Idles`). -/
namespace Sys2Proof.Proofs
open Sys2Proof.Machine Sys2Proof.Safety

/-! ### Counters, events, slots and the command unit -/

theorem Idles.modWin_apart (s : State) (w : WinId) {f : Window → Window} (h : servedOf (f (s.win w)) = servedOf (s.win w)) :
    Idles s (s.modWin w f) := .modWin s w (.of_served h)

theorem Idles.countWindow (s : State) (w : WinId) (k : WindowCounter) (n : Nat) : Idles s (s.countWindow w k n) :=
  .modWin_apart s w rfl

theorem Idles.setAttn (s : State) : Idles s s.setAttn := .apart rfl fun _ => rfl

theorem Idles.raiseWindow (s : State) (w : WinId) (k : WindowKind) : Idles s (s.raiseWindow w k) :=
  (Idles.setAttn _).after (.modWin_apart s w rfl)

theorem Idles.raiseDevice (s : State) (k : DeviceKind) : Idles s (s.raiseDevice k) := .apart rfl fun _ => rfl

theorem Idles.countDevice (s : State) (k : DeviceCounter) (n : Nat) : Idles s (s.countDevice k n) := .apart rfl fun _ => rfl

theorem Idles.stray (s : State) : Idles s s.stray := .apart rfl fun _ => rfl

theorem Idles.goodPacket (s : State) : Idles s s.goodPacket := .apart rfl fun _ => rfl

theorem Idles.completeLong (s : State) (st : LongState) (d : LongDetail) : Idles s (s.completeLong st d) := by
  rw [s.completeLong_frame]
  exact .apart rfl fun _ => rfl

theorem Idles.completeDone (s : State) (c : LongCode) : Idles s (s.completeDone c) := by
  rw [s.completeDone_frame]
  exact .apart rfl fun _ => rfl

theorem Idles.startLong (s : State) (c : LongCode) (q : Byte) (w : Option WinId) : Idles s (s.startLong c q w) :=
  .apart rfl fun _ => rfl

theorem Idles.setResult (s : State) (r : ResultRecord) : Idles s (s.setResult r) := .apart rfl fun _ => rfl

theorem Idles.endTransaction (s : State) : Idles s s.endTransaction := .apart rfl fun _ => rfl

theorem Idles.setSlot (s : State) (i : SlotId) (o : Option Transfer) : Idles s (s.setSlot i o) := .apart rfl fun _ => rfl

theorem Idles.placeRead (s : State) (w : WinId) (data : List Byte) : Idles s (s.placeRead w data) := by
  unfold State.placeRead
  split
  · exact .refl s
  · exact .apart rfl fun _ => rfl

theorem Idles.unmarkFlush (s : State) (w : WinId) : Idles s (s.unmarkFlush w) :=
  .foldl (fun u i => .setSlot u i _) _ s

theorem Idles.markHead (s : State) (w : WinId) : Idles s (s.markHead w) := by
  unfold State.markHead
  split
  · split
    · exact .setSlot s _ _
    · exact .refl s
  · exact .refl s

theorem Idles.markHeads (s : State) : Idles s s.markHeads := .foldl .markHead _ s

theorem Idles.markNewHeads (s : State) : Idles s s.markNewHeads := by
  rcases s.markNewHeads_cases with ⟨-, h⟩ | ⟨-, h⟩ <;> rw [h]
  · exact .markHeads s
  · exact .refl s

theorem Idles.lateDetection (s : State) : Idles s s.lateDetection := by
  refine .after (.markHeads _) (.foldl (fun u w => ?_) allWindows s)
  split
  · exact .after (.raiseWindow _ w .late) (.countWindow u w .late 1)
  · exact .refl u

/-! ### Time, cycles, and the states and modes of the link -/

/-- The interval of a BACKOFF exchange that runs on adds to its NAK time no more than it takes from what is left (R97,
R110). -/
theorem NakTimeFits.elapse {d : Definition} {e : Exchange} (h : NakTimeFits d e) (n : Nat) (clock : Bool) :
    NakTimeFits d (e.elapse n d.nakInterval clock) := by
  unfold Exchange.elapse
  cases he : e.state with
  | awaiting a l st => exact h.used
  | ready => exact h
  | sending => exact h
  | backoff a =>
    simp only [NakTimeFits, he] at h ⊢
    have bounds := runTimer_bounds n d.nakInterval a
    generalize runTimer n d.nakInterval a = b at bounds
    cases clock
    · simp only [Bool.false_eq_true, if_false]; omega
    · simp only [if_true]; omega

theorem WindowIdles.elapse (n : Nat) (active : Bool) (x : Window) : WindowIdles x (x.elapse n active) := by
  unfold Window.elapse
  split
  · next e d he hd =>
    refine .of_exchange (e := e) rfl rfl rfl rfl he rfl (Exchange.elapse_body ..) (fun d' hd' _ fits => ?_) ?_ ?_
    · obtain rfl := Option.some.inj (hd.symm.trans hd')
      exact fits.elapse n _
    · unfold Exchange.elapse; split <;> simp
    · unfold Exchange.elapse; split <;> simp
  · exact .refl x

theorem Idles.elapse (s : State) (n : Nat) : Idles s (s.elapse n) := by
  refine .of_line rfl fun w => ?_
  have win : (s.elapse n).win w = (s.win w).elapse n (s.link.state = .active) := State.win_mapWins s w _
  rw [win]
  exact .elapse n _ _

/-- A budget refilled is the budget (R125). -/
theorem WindowKept.refill (x : Window) : WindowKept x x.refill := by
  unfold Window.refill
  split
  · next b hb =>
    refine ⟨id, fun _ => budgetFits_iff.mpr ⟨by simp [hb], fun m r hm hr => ?_⟩, fun _ => id, fun _ => id⟩
    obtain rfl := Option.some.inj (hb.symm.trans hm)
    obtain rfl := Option.some.inj hr
    exact le_rfl
  · exact (WindowIdles.refl x).toWindowKept

theorem refill_exchange (x : Window) : x.refill.exchange = x.exchange := by unfold Window.refill; split <;> rfl

/-- The windows, the mode and the transmitter as they were: only what may be sent has changed. -/
theorem ExchangesKept.of_same {s t : State} (win : t.windows = s.windows) (mode : t.arb.mode = s.arb.mode ∨ t.arb.mode = .cycled)
    (transmitter : t.arb.transmitter = s.arb.transmitter) : ExchangesKept s t := by
  have win := State.windows_eq_iff.mp win
  exact .of_windows (fun w => by rw [win]; exact (WindowIdles.refl _).toWindowKept) mode
    (sendingLaw_of_windows transmitter fun w => by rw [win]; exact id)

theorem ExchangesKept.startCycle (s : State) : ExchangesKept s s.startCycle := by
  unfold State.startCycle
  refine (Idles.lateDetection _).toExchangesKept.after (.after ?_ (.of_same (t := { s with arb := { s.arb with
    cycleCount := s.arb.cycleCount + 1, marker := some (.cycle (s.arb.cycleCount + 1))
    cycleTimer := some ⟨0, s.arb.cycleLength⟩ } }) rfl (.inl rfl) rfl))
  refine .of_windows (fun w => ?_) (.inl rfl) (sendingLaw_of_windows rfl fun w => ?_) <;> rw [State.win_mapWins]
  · exact .refill _
  · rw [refill_exchange]; exact id

theorem ExchangesKept.startTraffic (s : State) : ExchangesKept s s.startTraffic := by
  unfold State.startTraffic
  split
  · exact .startCycle s
  · exact .of_same rfl (.inl rfl) rfl

theorem ExchangesKept.toCycled_of_cycled (s : State) :
    ExchangesKept { s with arb := { s.arb with mode := .cycled } } s.toCycled := by
  unfold State.toCycled
  dsimp only
  split
  · exact (ExchangesKept.startCycle _).after (.of_same rfl (.inr rfl) rfl)
  · exact .refl _

theorem ExchangesKept.toCycled (s : State) : ExchangesKept s s.toCycled :=
  (ExchangesKept.toCycled_of_cycled s).after (.of_same rfl (.inr rfl) rfl)

theorem ExchangesKept.helloDue (s : State) : ExchangesKept s s.helloDue := .of_same rfl (.inl rfl) rfl

theorem ExchangesKept.quietArbiter (s : State) : ExchangesKept s s.quietArbiter := .of_same rfl (.inl rfl) rfl

theorem ExchangesKept.idleDue (s : State) : ExchangesKept s s.idleDue := .of_same rfl (.inl rfl) rfl

theorem ExchangesKept.toActive (s : State) (c l : Nat) : ExchangesKept s (s.toActive c l) := .of_same rfl (.inl rfl) rfl

theorem ExchangesKept.takeAttach (s : State) : ExchangesKept s s.takeAttach := .of_same rfl (.inl rfl) rfl

/-- A link that leaves for DETACHED drops its marker, and nothing may be sent (R85, R123). -/
theorem Idles.toDetached (s : State) : Idles s s.toDetached :=
  .of_windows (fun _ => .refl _) (.inl rfl) rfl (fun _ => rfl) fun h => by cases h

theorem Idles.endProbe (s : State) : Idles s s.endProbe := by
  unfold State.endProbe
  split
  · exact .toDetached s
  · exact .refl s

/-- The mode becomes FREE only where no PERIODIC window is in service (R132). -/
theorem Idles.toFree {s : State} (h : s.periodicLive = false) : Idles s s.toFree := by
  refine ⟨⟨id, id, fun _ _ _ => h, fun _ => id, id⟩, fun i free => ?_⟩
  obtain ⟨marker, candidate⟩ := i free
  refine ⟨?_, candidate⟩
  show dropCycle s.arb.marker = none
  rw [marker]
  rfl

/-- A SENDING or AWAITING exchange rewound has the NAK time it had (R144). -/
theorem WindowKept.rewind (x : Window) : WindowKept x { x with exchange := x.exchange.map Exchange.rewind } := by
  cases hx : x.exchange with
  | none => exact WindowIdles.toWindowKept (.of_none rfl rfl rfl fun _ => id)
  | some e =>
    refine .of_exchange (e' := e.rewind) rfl rfl rfl rfl hx rfl ?_ fun d _ _ fits => ?_
    · unfold Exchange.rewind; split <;> rfl
    · unfold Exchange.rewind
      split
      · exact nakTimeFits_of_used fits.used (by simp)
      · exact nakTimeFits_of_used fits.used (by simp)
      · exact fits
      · exact fits

theorem rewind_ne_sending (e : Exchange) : e.rewind.state ≠ .sending := by
  unfold Exchange.rewind
  cases h : e.state <;> simp [h]

theorem ExchangesKept.rewind (s : State) :
    ExchangesKept s (s.mapWins fun _ x => { x with exchange := x.exchange.map Exchange.rewind }) := by
  refine .of_windows (fun w => ?_) (.inl rfl) (sendingLaw_of_windows rfl fun w h => ?_) <;> rw [State.win_mapWins] at *
  · exact .rewind _
  · rw [Option.map_map] at h
    obtain ⟨e, -, he⟩ := Option.map_eq_some_iff.mp h
    exact absurd he (rewind_ne_sending e)

theorem ExchangesKept.enterRecovering (s : State) : ExchangesKept s s.enterRecovering := by
  have lost : ExchangesKept s { s with link := { s.link with state := .recovering, timeoutRun := 0, recoveryTimer := some 0 } } :=
    .of_same rfl (.inl rfl) rfl
  have counted := (Idles.after (.countDevice _ .recoveries 1) (.raiseDevice _ .recovering)).toExchangesKept.after lost
  have rewound := (ExchangesKept.rewind _).after counted
  exact (ExchangesKept.helloDue _).after ((ExchangesKept.quietArbiter _).after rewound)

theorem ExchangesKept.countTimeout (s : State) : ExchangesKept s s.countTimeout := by
  unfold State.countTimeout
  split
  · dsimp only
    split
    · exact (ExchangesKept.enterRecovering _).after (.of_same rfl (.inl rfl) rfl)
    · exact .of_same rfl (.inl rfl) rfl
  · exact .refl s

/-! ### The acceptance point and the offer of packets -/

theorem Idles.note (s : State) (k : ErrorKind) : Idles s (s.note k) := by
  rw [s.note_frame]
  exact .apart rfl fun _ => rfl

theorem Idles.errorAnswer (s : State) (g : Tag) : Idles s (s.errorAnswer g) := .apart rfl fun _ => rfl

theorem Idles.setPresented (s : State) (o : Option Presented) : Idles s (s.setPresented o) := .apart rfl fun _ => rfl

/-- The packet offered is READY, with no NAK time used (R84). -/
theorem ExchangesKept.offer (s : State) (w : WinId) : ExchangesKept s (s.offer w) := by
  have quiet := Quiet.offer s w
  rcases s.offer_cases w with h | ⟨d, i, t, old, hd, hh, hs, h⟩ <;> rw [h] at quiet ⊢
  · exact .refl s
  · refine .modWin s w ⟨?_, id, fun _ => id, fun _ _ => nakFits_iff.mpr fun e _ he _ => .inr ?_⟩ fun h => by cases h
    · have fits := (quiet.win w).fits
      rwa [State.win_modWin_self] at fits
    · obtain rfl := Option.some.inj he
      exact Nat.zero_le _

theorem Idles.taken (s : State) (r : BusRequest) (w : WinId) (i : SlotId) : Idles s (s.taken r w i) := by
  refine .of_line (by rw [s.taken_frame]; rfl) fun v => ?_
  rw [State.taken_win]
  split
  · next e => subst e; exact ⟨⟨exchangeFits_append i, id, fun _ => id, fun _ => id⟩, id, id⟩
  · exact .refl _

/-- A taking offers the packet of a new head and makes a choice (R49, R121). -/
theorem Idles.attempt (s : State) : Idles s s.attempt := by
  rcases s.attempt_cases with ⟨-, h⟩ | ⟨p, -, ⟨k, h⟩ | ⟨r, h⟩ | h | ⟨w, i, -, h⟩⟩ <;> rw [h]
  · exact .refl s
  · exact .after (.errorAnswer _ _) (.note s k)
  · exact .setPresented s _
  · exact .apart rfl fun _ => rfl
  · rw [s.take_eq]
    exact .chosen ((ExchangesKept.offer _ w).after (Idles.taken s p.req w i).toExchangesKept)

theorem Idles.attemptSince (s old : State) : Idles s (s.attemptSince old) := by
  rcases s.attemptSince_cases old with h | h <;> rw [h]
  · exact .attempt s
  · exact .refl s

theorem Idles.settle {s t : State} (h : ExchangesKept s t) : Idles s t.settle :=
  .chosen ((Idles.attempt t).toExchangesKept.after h)

theorem Idles.attemptExpired (s : State) (p : Presented) (k : ErrorKind) : Idles s (s.attemptExpired p k) := by
  rcases s.attemptExpired_cases p k with ⟨-, h⟩ | ⟨-, h⟩ <;> rw [h]
  · exact .after (.errorAnswer _ _) (.note s k)
  · exact .setPresented s _

theorem Idles.countExpiry (s : State) (r : BusRequest) : Idles s (s.countExpiry r) := by
  unfold State.countExpiry
  split
  · split
    · exact .countDevice s _ _
    · split
      · exact .after (.raiseWindow _ _ .wait) (.countWindow s _ .waitExpired 1)
      · exact .refl s
    · exact .refl s
    · exact .refl s
  · exact .refl s
  · exact .refl s
  · exact .refl s

theorem Idles.expireWait (s : State) (p : Presented) : Idles s (s.expireWait p) :=
  .after (.attemptExpired _ _ _) (.after (.setPresented (s.countExpiry p.req) _) (.countExpiry s p.req))

/-! ### The failure path -/

/-- A halted window has no exchange and is out of service (R20). -/
theorem Idles.haltWindow (s : State) (w : WinId) (c : FaultCause) (k : Option StrikeKind) (f : Option FarAddr) :
    Idles s (s.haltWindow w c k f) := by
  refine .of_line (by unfold lineOf; rw [State.haltWindow_arb, State.haltWindow_link]) fun v => ?_
  rw [State.haltWindow_win]
  split
  · next e => subst e; exact .of_none rfl rfl rfl fun _ h => by cases h
  · exact .refl _

theorem Idles.failExchange (s : State) (w : WinId) (x : Exchange) (c : FaultCause) (k : Option StrikeKind) :
    Idles s (s.failExchange w x c k) := by
  unfold State.failExchange
  split <;> exact .haltWindow s w _ _ _

theorem Idles.haltFold (s : State) (p : State → WinId → Bool) (c : FaultCause) :
    Idles s (allWindows.foldl (fun s w => if p s w then s.haltWindow w c none none else s) s) := by
  refine .foldl (fun u w => ?_) _ s
  split
  · exact .haltWindow u w c none none
  · exact .refl u

theorem Idles.haltAllLive (s : State) (c : FaultCause) : Idles s (s.haltAllLive c) :=
  .haltFold s (fun s w => (s.win w).state.live) c

theorem Idles.recoveryCheck (s : State) (fresh : Bool) : Idles s (s.recoveryCheck fresh) := by
  unfold State.recoveryCheck
  dsimp only
  refine .after (.haltFold _ (fun s w => (s.win w).state.live && s.outOfRange w) .farRange) ?_
  split
  · exact .haltFold s (fun s w => (s.win w).state.carriesQueue) .moduleReset
  · exact .refl s

theorem Idles.giveUpRecovery (s : State) : Idles s s.giveUpRecovery :=
  .after (.haltAllLive _ _) (.after (.raiseDevice _ _) (.toDetached s))

/-! ### The progress and the ends of a head -/

theorem Idles.settleExchange (s : State) (w : WinId) : Idles s (s.settleExchange w) :=
  .modWin s w (.of_none rfl rfl rfl fun _ => id)

/-- The end of a head leaves its window without an exchange, in service only if it was (R19, R50). -/
theorem Idles.headEnded (b : State) (w : WinId) (i : SlotId) (t : Transfer) (answers : List Answer) (bytes short : Nat)
    (kinds : WindowKinds) : Idles b (headEnded b w i t answers bytes short kinds) := by
  refine .of_line (by rw [headEnded_frame]; rfl) fun v => ?_
  rw [headEnded_win]
  split
  · next e =>
    subst e
    refine .of_none rfl rfl rfl fun _ h => ?_
    unfold endedRecord at h
    dsimp only at h
    split at h
    · cases h
    · exact h
  · exact .refl _

theorem ExchangesKept.packetSucceeds (s : State) (w : WinId) (len : Nat) : ExchangesKept s (s.packetSucceeds w len) := by
  cases head : s.headOf w with
  | none => rw [packetSucceeds_headless head]; exact (Idles.settleExchange s w).toExchangesKept
  | some p =>
    obtain ⟨i, t⟩ := p
    by_cases all : t.bytesDone + len = t.size
    · obtain ⟨answers, ended⟩ := packetSucceeds_ended head all
      rw [ended]
      exact (ExchangesKept.offer _ w).after (Idles.headEnded ..).toExchangesKept
    · rw [packetSucceeds_part head all]
      exact (ExchangesKept.offer _ w).after ((Idles.setSlot _ _ _).after (.settleExchange s w)).toExchangesKept

theorem ExchangesKept.endShort (s : State) (w : WinId) (received : Nat) : ExchangesKept s (s.endShort w received) := by
  cases head : s.headOf w with
  | none => rw [endShort_headless head]; exact (Idles.settleExchange s w).toExchangesKept
  | some p =>
    obtain ⟨answers, kinds, ended⟩ := endShort_ended head received
    rw [ended]
    exact (ExchangesKept.offer _ w).after (Idles.headEnded ..).toExchangesKept

end Sys2Proof.Proofs
end

section
/-! SUPPORT. Strikes, responses and the commands of the management port: what each keeps of the laws of exchanges, budgets, mode
and transmitter. -/
namespace Sys2Proof.Proofs
open Sys2Proof.Machine Sys2Proof.Safety

/-! ### Strikes and responses (R94 to R111) -/

section
variable {s : State} {w : WinId} {x : Exchange}

/-- An exchange that is no longer SENDING, its packet and its NAK time the same. -/
theorem ExchangesKept.setExchange (hx : (s.win w).exchange = some x) {y : Exchange} (body : y.body = x.body)
    (used : y.nakUsed = x.nakUsed) (sending : y.state ≠ .sending) (forward : ∀ n, y.state ≠ .backoff n) :
    ExchangesKept s (s.modWin w fun v => { v with exchange := some y }) :=
  .modWin s w (.of_exchange rfl rfl rfl rfl hx rfl body fun _ _ _ fits => nakTimeFits_of_used (used ▸ fits.used) forward)
    fun h => absurd (Option.some.inj h) sending

theorem ExchangesKept.strike (s : State) (w : WinId) (k : StrikeKind) : ExchangesKept s (s.strike w k) := by
  unfold State.strike
  split
  · next x d hx hd =>
    have struck := (ExchangesKept.setExchange ((countWindow_exchange s w .strikes 1).trans hx)
      (y := { x with state := .ready, strikes := x.strikes + 1, lastStrike := some k }) rfl rfl (by simp) (by simp)).after
        (Idles.countWindow s w .strikes 1).toExchangesKept
    dsimp only
    split
    · exact struck
    · exact (Idles.failExchange _ w _ _ _).toExchangesKept.after struck
  · exact .refl s

/-- A NAK within the limit leaves the whole interval within it; a NAK beyond it halts the window (R96, R111). -/
theorem Idles.takeNak (hx : (s.win w).exchange = some x) : Idles s (s.takeNak w x) := by
  cases hd : (s.win w).defn with
  | none => unfold State.takeNak; rw [hd]; exact .refl s
  | some d =>
    have counted := Idles.countWindow s w .naks 1
    rw [takeNak_eq hd]
    split
    · rw [failExchange_eq, haltWindow_withExchange]
      exact (Idles.haltWindow ..).after counted
    · next within =>
      refine (Idles.modWin _ w (.of_exchange (e' := { x with state := .backoff 0, strikes := 0 }) rfl rfl rfl rfl
        ((countWindow_exchange s w .naks 1).trans hx) rfl rfl (fun d' hd' some fits => ?_) (fun h => by cases h)
        fun h => by cases h)).after counted
      rw [State.countWindow, State.win_modWin_self] at hd'
      obtain rfl := Option.some.inj (hd.symm.trans hd')
      exact ⟨Nat.zero_le _, by simpa using not_lt.mp fun passes => within ⟨some, passes⟩⟩

theorem ExchangesKept.takeData (data : List Byte) : ExchangesKept s (s.takeData w x data) := by
  have placed := (Idles.placeRead s w data).toExchangesKept
  unfold State.takeData
  split
  · split
    · exact (ExchangesKept.packetSucceeds ..).after placed
    · split
      · exact (ExchangesKept.endShort ..).after placed
      · exact (Idles.failExchange ..).toExchangesKept
  · exact .refl s
  · exact .refl s

/-- A window opens from its SYNC exchange, so it was in service (R12, R83). -/
theorem Idles.syncAcknowledged (hx : (s.win w).exchange = some x) : Idles s (s.syncAcknowledged w) := by
  have opened : Idles s (s.modWin w fun v => { v with state := .opened, exchange := none, seqBit := false }) :=
    .modWin s w (.of_none rfl rfl rfl fun fits _ => live_of_fits fits (by rw [hx]; rfl))
  unfold State.syncAcknowledged
  dsimp only
  split
  · exact (Idles.completeDone _ _).after opened
  · exact opened

theorem ExchangesKept.takeAck (hx : (s.win w).exchange = some x) : ExchangesKept s (s.takeAck w x) := by
  unfold State.takeAck
  split
  · exact .packetSucceeds ..
  · exact (Idles.syncAcknowledged hx).toExchangesKept
  · exact .refl s

end

theorem Idles.receive (s : State) (f : BitVec 4) (bit : Bool) (r : Response) : Idles s (s.receive f bit r) := by
  have good := Idles.goodPacket s
  unfold State.receive
  dsimp only
  split
  · exact (Idles.stray _).after good
  · exact .chosen ((Idles.attemptSince ..).toExchangesKept.after ((ExchangesKept.strike ..).after good.toExchangesKept))
  · next w x h =>
    have hx := State.matchResponse_settles h
    cases r with
    | ack mark =>
      exact .chosen ((Idles.attemptSince ..).toExchangesKept.after ((ExchangesKept.takeAck hx).after good.toExchangesKept))
    | nak => exact (Idles.attemptSince ..).after ((Idles.takeNak hx).after good)
    | refuse => exact (Idles.attemptSince ..).after ((Idles.failExchange ..).after good)
    | data bytes =>
      exact .chosen ((Idles.attemptSince ..).toExchangesKept.after ((ExchangesKept.takeData bytes).after good.toExchangesKept))

/-! ### Judged frames -/

/-- What a judged frame leaves keeps the laws, and a FREE transmitter without anything to send. -/
def JudgedIdles (s : State) : Judged → Prop
  | .refuse _ => True
  | .done t _ => Idles s t
  | .pending t => Idles s t

theorem Idles.command {s : State} (q c : Byte) {judge : State → Judged} (h : ∀ u, JudgedIdles u (judge u)) :
    Idles s (s.command q c judge) := by
  refine .after (t := s.endTransaction) ?_ (.endTransaction s)
  show Idles _ (s.endTransaction.conclude q c (judge s.endTransaction))
  have kept := h s.endTransaction
  cases hj : judge s.endTransaction with
  | refuse r => exact .setResult _ _
  | done t p => rw [hj] at kept; exact .after (.setResult _ _) kept
  | pending t => rw [hj] at kept; exact .after (.setResult _ _) kept

theorem Idles.commandUnlessBusy {s : State} (q c : Byte) {judge : State → Judged} (h : ∀ u, JudgedIdles u (judge u)) :
    Idles s (s.commandUnlessBusy q c judge) := by
  unfold State.commandUnlessBusy
  split
  · exact .after (.setResult _ _) (.endTransaction s)
  · exact .command q c h

theorem JudgedIdles.onWindow {s : State} {b : Byte} {judge : WinId → Judged} (h : ∀ w, JudgedIdles s (judge w)) :
    JudgedIdles s (onWindow b judge) := by
  unfold Machine.onWindow
  split
  · trivial
  · exact h _

theorem JudgedIdles.onTarget {s : State} {b : Byte} {judge : Target → Judged} (h : ∀ t, JudgedIdles s (judge t)) :
    JudgedIdles s (onTarget b judge) := by
  unfold Machine.onTarget
  split
  · trivial
  · exact h _

/-! ### The window commands -/

theorem idles_define (b : Byte) (p : DefineParams) (s : State) : JudgedIdles s (judgeDefine b p s) := by
  refine .onWindow fun w => ?_
  split
  · trivial
  · next d hd =>
    dsimp only
    split
    · trivial
    · next st =>
      split
      · trivial
      · have dead : (s.win w).state.live = false := by
          rcases (show (s.win w).state = .unused ∨ (s.win w).state = .defined by tauto) with h | h <;> rw [h] <;> rfl
        have written : Idles s (s.modWin w fun x => { x with state := .defined, defn := some d, remaining := d.freshBudget }) := by
          refine .modWin s w ⟨⟨fun f => exchangeFits_none (none_of_fits (x := s.win w) f dead), fun _ => ?_, fun _ h => ?_,
            fun f _ => nakFits_iff.mpr fun e _ he => ?_⟩, id, fun h => ?_⟩
          · exact budgetFits_iff.mpr ⟨rfl, fun m r hm hr => le_of_eq (Option.some.inj (hr.symm.trans hm))⟩
          · cases h.2
          · rw [none_of_fits f dead] at he; cases he
          · cases h.1
        show Idles s (ite _ _ _)
        split
        · exact (Idles.attempt _).after written
        · exact written

theorem idles_undefine (b : Byte) (s : State) : JudgedIdles s (judgeUndefine b s) := by
  refine .onWindow fun w => ?_
  split
  · trivial
  · next st =>
    have dead : (s.win w).state.live = false := by rw [show (s.win w).state = .defined by simpa using st]; rfl
    refine (Idles.attempt _).after (.modWin s w ⟨⟨fun f => exchangeFits_none (none_of_fits (x := s.win w) f dead), fun _ => rfl,
      fun _ h => ?_, fun _ _ => nakFits_iff.mpr fun _ _ _ hd => ?_⟩, id, fun h => ?_⟩)
    · cases h.2
    · cases hd
    · cases h.1

theorem idles_layout (counts : Vector Byte 12) (s : State) : JudgedIdles s (judgeLayout counts s) := by
  unfold judgeLayout
  split
  · trivial
  · split
    · trivial
    · split
      · trivial
      · exact Idles.apart rfl fun w => by rw [State.win_mapWins]; rfl

theorem modeLaw_of_cycled {s : State} (h : s.arb.mode = .cycled) : ModeLaw s := fun free => by rw [h] at free; cases free

/-- A window enters SYNCING with a READY SYNC, and the mode becomes CYCLED where the window is PERIODIC (R11, R131). -/
theorem ExchangesKept.takeOpen {s : State} {w : WinId} : ExchangesKept s (s.takeOpen w) := by
  have win := s.win_modWin w (f := fun x => { x with state := .syncing, fault := none, exchange := some (.new .sync) })
  unfold State.takeOpen
  dsimp only
  generalize hu : (s.modWin w fun x => { x with state := .syncing, fault := none, exchange := some (.new .sync) }) = u at win
  have mode : u.arb.mode = s.arb.mode := by rw [← hu]; rfl
  have exchanges : ExchangeLaw s → ExchangeLaw u := fun x v => by
    rw [win]; split
    · exact exchangeFits_sync rfl rfl
    · exact x v
  have budgets : BudgetLaw s → BudgetLaw u := fun b v => by
    rw [win]; split
    · next e => subst e; exact b v
    · exact b v
  have nak : NakLaw s → NakLaw u := fun n v => by
    rw [win]; split
    · refine nakFits_iff.mpr fun e d he _ => .inr ?_
      obtain rfl := Option.some.inj he
      exact Nat.zero_le _
    · exact n v
  have sending : SendingLaw s → SendingLaw u := sendingLaw_of_windows (by rw [← hu]; rfl) fun v h => by
    rw [win] at h; split at h
    · cases h
    · exact h
  split
  · have cycled := (Idles.raiseDevice _ .modeChanged).toExchangesKept.after (.toCycled_of_cycled u)
    exact ⟨fun x => cycled.exchanges (exchanges x), fun b => cycled.budgets (budgets b),
      fun x _ => cycled.mode (exchanges x) (modeLaw_of_cycled rfl), fun x n => cycled.nak (exchanges x) (nak n),
      fun l => cycled.sending (sending l)⟩
  · next general =>
    refine ⟨exchanges, budgets, fun _ m => modeLaw_iff.mpr fun free v live => ?_, fun _ => nak, sending⟩
    by_cases e : v = w
    · exact general (by rw [← e, live.1, free]; rfl)
    · rw [win, if_neg e] at live
      exact modeLaw_iff.mp m (mode.symm.trans free) v live

theorem idles_open (q b : Byte) (s : State) : JudgedIdles s (judgeOpen q b s) := by
  refine .onWindow fun w => ?_
  split
  · trivial
  · exact Idles.settle ((Idles.startLong _ _ _ _).toExchangesKept.after .takeOpen)

theorem exchangeFits_iff {x : Window} : exchangeFits x = true ↔ ∀ e, x.exchange = some e →
    x.state.live = true ∧ (e.body = .sync ↔ x.state = .syncing) ∧ (e.body = .sync ∨ x.queue ≠ []) := by
  unfold exchangeFits
  cases x.exchange with
  | none => simp
  | some e => by_cases sync : e.body = .sync <;> by_cases syncing : x.state = .syncing <;> simp [sync, syncing]

theorem carriesQueue_iff {a : WindowState} : a.carriesQueue = true ↔ a.live = true ∧ a ≠ .syncing := by
  simp [WindowState.carriesQueue]

/-- A window in service moves between OPEN, HELD, FENCED and CLOSING. -/
theorem WindowKept.enter {x : Window} {st : WindowState} (old : x.state.carriesQueue = true) (new : st.carriesQueue = true) :
    WindowKept x { x with state := st } := by
  rw [carriesQueue_iff] at old new
  refine ⟨fun f => exchangeFits_iff.mpr fun e he => ?_, id, fun _ h => ⟨h.1, old.1⟩, fun _ => id⟩
  obtain ⟨-, sync, carried⟩ := exchangeFits_iff.mp f e he
  exact ⟨new.1, ⟨fun h => absurd (sync.mp h) old.2, fun h => absurd h new.2⟩, carried⟩

theorem ExchangesKept.enter {s : State} {w : WinId} {st : WindowState} (old : (s.win w).state.carriesQueue = true)
    (new : st.carriesQueue = true) : ExchangesKept s (s.enter w st) := .modWin s w (.enter old new) id

theorem Idles.enter {s : State} {w : WinId} {st : WindowState} (old : (s.win w).state.carriesQueue = true)
    (new : st.carriesQueue = true) (start : st.mayStart = true → (s.win w).state.mayStart = true) :
    Idles s (s.enter w st) := .modWin s w ⟨.enter old new, id, fun h => ⟨start h.1, h.2⟩⟩

/-- Out of HELD an exchange may be sent again, and a choice is made; out of any other state nothing new may be (R85). -/
theorem Idles.enterLifted {s : State} {w : WinId} {st : WindowState} (old : (s.win w).state.carriesQueue = true)
    (new : st.carriesQueue = true) : Idles s ((s.enter w st).liftHold w ((s.win w).state = .held)) := by
  unfold State.liftHold
  split
  · exact .settle ((ExchangesKept.offer _ w).after (.enter old new))
  · next h =>
    refine (Idles.attempt _).after (.enter old new fun _ => ?_)
    have other : (s.win w).state ≠ .held := by simpa using h
    revert old other
    cases (s.win w).state <;> decide

theorem Idles.closeNow (s : State) (w : WinId) : Idles s (s.closeNow w) :=
  (Idles.raiseWindow _ w .closed).after (.modWin s w (.of_none rfl rfl rfl fun _ h => by cases h))

theorem idles_hold (b : Byte) (s : State) : JudgedIdles s (judgeHold b s) := by
  refine .onWindow fun w => ?_
  split
  · trivial
  · next h =>
    have h : (s.win w).state = .opened := by simpa using h
    exact (Idles.attempt _).after (.enter (by rw [h]; rfl) rfl fun h => by cases h)

theorem idles_release (b : Byte) (s : State) : JudgedIdles s (judgeRelease b s) := by
  refine .onWindow fun w => ?_
  split
  · trivial
  · next h =>
    have h : (s.win w).state = .held := by simpa using h
    have lifted := Idles.enterLifted (s := s) (w := w) (st := .opened) (by rw [h]; rfl) rfl
    rwa [decide_eq_true h] at lifted

theorem idles_fence (b : Byte) (s : State) : JudgedIdles s (judgeFence b s) := by
  refine .onWindow fun w => ?_
  dsimp only
  split
  · trivial
  · next h =>
    refine Idles.enterLifted ?_ rfl
    rcases (show (s.win w).state = .opened ∨ (s.win w).state = .held by tauto) with h | h <;> rw [h] <;> rfl

theorem idles_unfence (b : Byte) (s : State) : JudgedIdles s (judgeUnfence b s) := by
  refine .onWindow fun w => ?_
  split
  · trivial
  · next h =>
    have h : (s.win w).state = .fenced := by simpa using h
    exact (Idles.attempt _).after (.enter (by rw [h]; rfl) rfl fun _ => by rw [h]; rfl)

/-- CLOSE of a window in service (R18). -/
theorem idles_closeInService {s : State} {w : WinId} (h : (s.win w).state.carriesQueue = true) :
    JudgedIdles s (if (s.win w).queue.isEmpty then .done (s.closeNow w).attempt []
      else .done ((s.enter w .closing).liftHold w ((s.win w).state = .held)) []) := by
  split
  · exact (Idles.attempt _).after (.closeNow s w)
  · exact Idles.enterLifted h rfl

theorem idles_close (b : Byte) (s : State) : JudgedIdles s (judgeClose b s) := by
  refine .onWindow fun w => ?_
  have inService := fun h => idles_closeInService (s := s) (w := w) h
  dsimp only
  cases st : (s.win w).state with
  | opened => simpa [st] using inService (by rw [st]; rfl)
  | held => simpa [st] using inService (by rw [st]; rfl)
  | fenced => simpa [st] using inService (by rw [st]; rfl)
  | halted => exact (Idles.attempt _).after (.closeNow s w)
  | unused => trivial
  | defined => trivial
  | syncing => trivial
  | closing => trivial

theorem idles_flush (q b : Byte) (s : State) : JudgedIdles s (judgeFlush q b s) := by
  refine .onWindow fun w => ?_
  dsimp only
  split
  · trivial
  · split
    · exact Idles.refl s
    · exact (Idles.startLong ..).after (.setSlot ..)

theorem idles_readWindow (b : Byte) (s : State) : JudgedIdles s (judgeReadWindow b s) := by
  refine .onWindow fun w => ?_
  show Idles s (ite _ _ _)
  split
  · exact .apart rfl fun _ => rfl
  · exact .refl s

end Sys2Proof.Proofs
end

section
/-! SUPPORT. Every command keeps the laws of exchanges, budgets, mode and transmitter (`exec_idles`), and so does every step:
obligations O54 and O55. -/
namespace Sys2Proof.Proofs
open Sys2Proof.Machine Sys2Proof.Safety

/-! ### The event unit -/

theorem idles_clearCounters (b : Byte) (s : State) : JudgedIdles s (judgeClearCounters b s) := by
  refine .onTarget fun t => ?_
  cases t with
  | window w => exact .modWin_apart s w (f := fun x => { x with counters := .zero }) rfl
  | device => exact .apart rfl fun _ => rfl

theorem idles_setMasks (wm : Byte) (dm : BitVec 16) (s : State) : JudgedIdles s (judgeSetMasks wm dm s) := by
  unfold judgeSetMasks
  split
  · exact Idles.apart rfl fun _ => rfl
  · trivial

theorem idles_ackEvents (b : Byte) (k : BitVec 16) (s : State) : JudgedIdles s (judgeAckEvents b k s) := by
  refine .onTarget fun t => ?_
  cases t with
  | window w =>
    dsimp only
    split
    · exact (Idles.setAttn _).after (.modWin_apart s w rfl)
    · trivial
  | device =>
    dsimp only
    split
    · exact Idles.apart rfl fun _ => rfl
    · trivial

/-! ### The link commands -/

theorem idles_attach (q : Byte) (s : State) : JudgedIdles s (judgeAttach q s) := by
  unfold judgeAttach
  split
  · trivial
  · exact Idles.chosen ((Idles.startLong ..).toExchangesKept.after (.takeAttach s))

theorem idles_detach (s : State) : JudgedIdles s (judgeDetach s) := by
  unfold judgeDetach
  split
  · trivial
  · split
    · trivial
    · exact (Idles.raiseDevice _ _).after (.toDetached s)

theorem Idles.writeSettings (s : State) (p : LinkSettings) : Idles s (s.writeSettings p) := .apart rfl fun _ => rfl

/-- FREE is taken up only with no PERIODIC window in service, and a cycle that starts is followed by a choice (R125, R132). -/
theorem Idles.setMode {s : State} {m : LinkMode} (shut : m = .free → s.periodicLive = false) : Idles s (s.setMode m) := by
  unfold State.setMode
  split
  · exact .refl s
  · cases m with
    | free => exact .toFree (shut rfl)
    | cycled =>
      dsimp only
      split
      · exact .chosen (.toCycled s)
      · next down =>
        unfold State.toCycled
        exact (if_neg down : (if s.link.state = .active then _ else _) = _) ▸
          .of_windows (fun _ => .refl _) (.inr rfl) rfl id id

theorem Idles.keepAliveChanged (s : State) (old : Nat) : Idles s (s.keepAliveChanged old) := by
  unfold State.keepAliveChanged
  split
  · exact .refl s
  · split
    · split
      · exact .chosen (.idleDue s)
      · exact .refl s
    · exact .refl s

theorem Idles.recoveryLimitChanged (s : State) (old : Nat) : Idles s (s.recoveryLimitChanged old) := by
  unfold State.recoveryLimitChanged
  split
  · exact .refl s
  · split
    · split
      · exact (Idles.attemptSince _ s).after (.giveUpRecovery s)
      · exact .refl s
    · exact .refl s

theorem Idles.waitLimitChanged (s : State) (old : Nat) : Idles s (s.waitLimitChanged old) := by
  unfold State.waitLimitChanged
  split
  · exact .refl s
  · split
    · exact .refl s
    · split
      · exact .expireWait s _
      · exact .attempt s

theorem periodicLive_writeSettings (s : State) (p : LinkSettings) : (s.writeSettings p).periodicLive = s.periodicLive := rfl

theorem idles_setLink (p : LinkParams) (s : State) : JudgedIdles s (judgeSetLink p s) := by
  unfold judgeSetLink
  split
  · trivial
  · next q h =>
    split
    · trivial
    · next shut =>
      have shut : q.mode = .free → (s.writeSettings q).periodicLive = false := fun free => by
        rw [periodicLive_writeSettings]; simpa [free] using shut
      exact (Idles.waitLimitChanged ..).after ((Idles.recoveryLimitChanged ..).after ((Idles.keepAliveChanged ..).after
        ((Idles.setMode shut).after (.writeSettings s q))))

/-! ### ABORT and the resets -/

theorem Idles.abortOwner (s : State) : Idles s s.abortOwner := by
  unfold State.abortOwner
  split
  · split
    · exact .haltWindow s _ _ _ _
    · exact .refl s
  · exact .endProbe s
  · exact .unmarkFlush s _
  · exact .refl s

theorem idles_abort (s : State) : JudgedIdles s (judgeAbort s) := by
  unfold judgeAbort
  split
  · trivial
  · exact (Idles.attemptSince _ s).after ((Idles.abortOwner _).after (.completeLong s _ _))

theorem WindowIdles.reset (x : Window) : WindowIdles x .reset := by
  refine ⟨⟨fun _ => rfl, fun _ => rfl, fun _ h => ?_, fun _ _ => rfl⟩, fun h => ?_, fun h => ?_⟩
  · cases h.1
  · cases h
  · cases h.1

theorem Idles.resetWindows (s : State) : Idles s s.resetWindows := by
  rw [resetWindows_eq]
  refine (Idles.attemptSince _ s).after (.of_windows (fun w => ?_) ?_ ?_ ?_ ?_)
  · rw [windowsCleared_win]; exact .reset _
  all_goals unfold windowsCleared probeEnded; split
  · exact .inl rfl
  · exact .inl rfl
  · rfl
  · rfl
  · exact fun _ => rfl
  · exact id
  · exact fun h => by cases h
  · exact id

theorem Idles.resetLink (s : State) : Idles s s.resetLink := by
  have detached := (Idles.toDetached _).after ((Idles.haltAllLive _ .linkLost).after (.completeLong s .aborted .resetLink))
  unfold State.resetLink
  dsimp only
  refine (Idles.attemptSince _ s).after (.after (.apart rfl fun _ => rfl) (t := if s.link.state = .detached then _ else _) ?_)
  split
  · exact detached
  · exact (Idles.raiseDevice _ .linkDown).after detached

/-- The windows, the arbiter and the link of a reset part meet every law (R1, R134). -/
theorem Idles.reset {t : State} (win : t.windows = State.reset.windows) (line : lineOf t = lineOf State.reset) (s : State) :
    Idles s t := by
  have win := State.windows_eq_iff.mp win
  obtain ⟨-, -, -, -, -, -, exchanges, budgets, mode, sending, -, -, -, -, -, nak, -, idle, -⟩ := lawsHoldAtReset
  have kept : Idles State.reset t := .apart line fun w => by rw [win]
  exact ⟨⟨fun _ => kept.exchanges exchanges, fun _ => kept.budgets budgets, fun _ _ => kept.mode exchanges mode,
    fun _ _ => kept.nak exchanges nak, fun _ => kept.sending sending⟩, fun _ => kept.idle idle⟩

theorem Idles.resetAll (s : State) : Idles s s.resetAll := .reset (t := s.resetAll) rfl rfl s

theorem idles_pinReset (s : State) : ∃ t, execPinReset s = .next t ∧ Idles s t := ⟨_, rfl, by refine .reset ?_ ?_ s <;> rfl⟩

theorem idles_reset {s : State} (own target : Byte) {effect : State → State} (h : Idles s (effect s)) :
    JudgedIdles s (judgeReset own target effect s) := by
  unfold judgeReset
  split
  · exact h
  · trivial

/-! ### The bus and the link -/

theorem idles_requestPresented (r : BusRequest) (s : State) : ∃ t, execRequestPresented r s = .next t ∧ Idles s t := by
  unfold execRequestPresented
  split
  · exact ⟨s, rfl, .refl s⟩
  · exact ⟨_, rfl, (Idles.attempt _).after (.setPresented s (some _))⟩

theorem idles_waitLimitExpiry (s : State) : ∃ t, execWaitLimitExpiry s = .next t ∧ Idles s t := by
  unfold execWaitLimitExpiry
  split
  · exact ⟨s, rfl, .refl s⟩
  · split
    · exact ⟨s, rfl, .refl s⟩
    · exact ⟨_, rfl, (Idles.expireWait _ _).after (.elapse s _)⟩

theorem idles_downstreamResponse (g : Tag) (ok : Bool) (data : List Byte) (s : State) :
    ∃ t, execDownstreamResponse g ok data s = .next t ∧ Idles s t := by
  unfold execDownstreamResponse
  split
  · exact ⟨_, rfl, (Idles.attempt _).after (.apart rfl fun _ => rfl)⟩
  · exact ⟨s, rfl, .refl s⟩

theorem Idles.attached (s : State) (c l : Nat) : Idles s (s.attached c l) :=
  .chosen ((ExchangesKept.startTraffic _).after ((Idles.completeDone _ _).toExchangesKept.after
    ((Idles.raiseDevice _ _).toExchangesKept.after (.toActive s c l))))

theorem Idles.recovered (s : State) (c l : Nat) (fresh : Bool) : Idles s (s.recovered c l fresh) := by
  have active := (Idles.raiseDevice _ .recovered).toExchangesKept.after (.toActive s c l)
  unfold State.recovered
  dsimp only
  exact .chosen ((Idles.markNewHeads _).toExchangesKept.after ((Idles.attemptSince _ s).toExchangesKept.after
    ((ExchangesKept.startTraffic _).after ((Idles.recoveryCheck _ fresh).toExchangesKept.after active))))

theorem idles_helloReply (c : BitVec 32) (l : BitVec 16) (fresh : Bool) (s : State) :
    ∃ t, execHelloReplyReceived c l fresh s = .next t ∧ Idles s t := by
  have good := Idles.goodPacket s
  have stray := (Idles.stray _).after good
  unfold execHelloReplyReceived
  dsimp only
  split
  · split
    · exact ⟨_, rfl, (Idles.attached ..).after good⟩
    · exact ⟨_, rfl, (Idles.recovered ..).after good⟩
    · exact ⟨_, rfl, stray⟩
    · exact ⟨_, rfl, stray⟩
  · exact ⟨_, rfl, stray⟩

theorem idles_badCheckPacket (s : State) : ∃ t, execBadCheckPacket s = .next t ∧ Idles s t := by
  unfold execBadCheckPacket
  split
  · exact ⟨_, rfl, .chosen ((Idles.attemptSince _ s).toExchangesKept.after (.strike s _ _))⟩
  · exact ⟨_, rfl, .stray s⟩

theorem idles_lossOfSignal (s : State) : ∃ t, execLossOfSignal s = .next t ∧ Idles s t := by
  have cleared : Idles s { s with link := { s.link with signalPresent := false } } := .apart rfl fun _ => rfl
  unfold execLossOfSignal
  dsimp only
  split
  · exact ⟨_, rfl, .chosen ((ExchangesKept.enterRecovering _).after cleared.toExchangesKept)⟩
  · exact ⟨_, rfl, cleared⟩

/-! ### The timers and the transmitter -/

theorem idles_responseLimitExpiry (w : WinId) (s : State) : ∃ t, execResponseLimitExpiry w s = .next t ∧ Idles s t := by
  unfold execResponseLimitExpiry
  split
  · exact ⟨s, rfl, .refl s⟩
  · split
    · exact ⟨_, rfl, .chosen ((Idles.attemptSince _ _).toExchangesKept.after ((ExchangesKept.countTimeout _).after
        ((ExchangesKept.strike _ w _).after (Idles.after (.countDevice _ _ _) (.elapse s _)).toExchangesKept)))⟩
    · exact ⟨s, rfl, .refl s⟩
    · exact ⟨s, rfl, .refl s⟩
    · exact ⟨s, rfl, .refl s⟩

/-- An exchange that goes to READY keeps its NAK time (R97). -/
theorem ExchangesKept.readied (s : State) (w : WinId) :
    ExchangesKept s (s.modWin w fun y => { y with exchange := y.exchange.map fun x => { x with state := .ready } }) := by
  refine .modWin s w ?_ fun h => by simp [Function.comp_def] at h
  cases hx : (s.win w).exchange with
  | none => exact WindowIdles.toWindowKept (.of_none rfl rfl rfl fun _ => id)
  | some x =>
    exact .of_exchange rfl rfl rfl rfl hx rfl rfl fun d _ _ fits => nakTimeFits_of_used (e := { x with state := .ready })
      fits.used (by simp)

theorem idles_nakIntervalEnd (w : WinId) (s : State) : ∃ t, execNakIntervalEnd w s = .next t ∧ Idles s t := by
  unfold execNakIntervalEnd
  split
  · exact ⟨s, rfl, .refl s⟩
  · split
    · exact ⟨_, rfl, .chosen ((ExchangesKept.readied _ w).after (Idles.elapse s _).toExchangesKept)⟩
    · exact ⟨s, rfl, .refl s⟩
    · exact ⟨s, rfl, .refl s⟩
    · exact ⟨s, rfl, .refl s⟩

/-- An exchange enters AWAITING, its timer started from 0 under the limit in force and stamped (R86, log 20). -/
def awaited (x : Exchange) (e : Engine) : Exchange := { x with state := .awaiting 0 e.responseLimit e.timerStarts }

theorem startAwaiting_of_sending {s : State} {w : WinId} {x : Exchange} (hx : (s.win w).exchange = some x)
    (sending : x.state = .sending) : s.startAwaiting w =
      { s.modWin w fun y => { y with exchange := some (awaited x s.eng) } with
        eng := { s.eng with timerStarts := s.eng.timerStarts + 1 } } := by
  unfold State.startAwaiting
  rw [hx]
  exact if_pos sending

theorem startAwaiting_of_still {s : State} {w : WinId} (h : (s.win w).exchange.map (·.state) ≠ some .sending) :
    s.startAwaiting w = s := by
  unfold State.startAwaiting
  cases hx : (s.win w).exchange with
  | none => rfl
  | some x => exact if_neg fun sending => h (by rw [hx, Option.map_some, sending])

/-- Only the window of the packet changes, and only if its exchange is SENDING. -/
theorem startAwaiting_win {s : State} {w : WinId} {x : Exchange} (hx : (s.win w).exchange = some x)
    (sending : x.state = .sending) (v : WinId) : (s.startAwaiting w).win v =
      if v = w then { s.win w with exchange := some (awaited x s.eng) } else s.win v := by
  rw [startAwaiting_of_sending hx sending]
  exact s.win_modWin w v fun y => { y with exchange := some (awaited x s.eng) }

theorem startAwaiting_arb (s : State) (w : WinId) : (s.startAwaiting w).arb = s.arb := by
  unfold State.startAwaiting
  split
  · split <;> rfl
  · rfl

/-- A packet leaves the transmitter FREE, and the one exchange that was SENDING is so no more (R86, R121). -/
theorem ExchangesKept.transmitted {s t : State} {p : Packet} (packet : s.arb.transmitter = some p)
    (mode : t.arb.mode = s.arb.mode) (win : ∀ w, WindowKept (s.win w) (t.win w))
    (sent : ∀ w, p.window = some w → (t.win w).exchange.map (·.state) ≠ some .sending)
    (others : ∀ w, p.window ≠ some w → t.win w = s.win w) : ExchangesKept s t := by
  refine .of_windows win (.inl mode) fun l w h => ?_
  by_cases own : p.window = some w
  · exact absurd h (sent w own)
  · have was := l w (by rw [← others w own]; exact h)
    rw [packet] at was
    exact absurd was own

theorem idles_transmissionEnd (s : State) : ∃ t, execTransmissionEnd s = .next t ∧ Idles s t := by
  unfold execTransmissionEnd
  split
  · exact ⟨s, rfl, .refl s⟩
  · next p packet =>
    dsimp only
    split
    · next w own =>
      refine ⟨_, rfl, .chosen ?_⟩
      generalize hb : State.mk .. = b
      have windows : b.windows = s.windows := by rw [← hb]
      have mode : b.arb.mode = s.arb.mode := by rw [← hb]
      have same := State.windows_eq_iff.mp windows
      have other : ∀ v, p.window ≠ some v → v ≠ w := fun v hv e => hv (e ▸ own)
      have mode : (b.startAwaiting w).arb.mode = s.arb.mode := by rw [startAwaiting_arb, mode]
      by_cases sending : (b.win w).exchange.map (·.state) = some .sending
      · obtain ⟨x, hx, sending⟩ := Option.map_eq_some_iff.mp sending
        have win := startAwaiting_win hx sending
        refine .transmitted packet mode (fun v => ?_) (fun v hv => ?_) fun v hv => by rw [win, if_neg (other v hv), same]
        · rw [win, ← same]
          split
          · next e =>
            subst e
            exact .of_exchange rfl rfl rfl rfl hx rfl rfl fun d _ _ fits =>
              nakTimeFits_of_used (e := awaited x b.eng) fits.used (by simp [awaited])
          · exact (WindowIdles.refl _).toWindowKept
        · rw [win, if_pos (Option.some.inj (hv.symm.trans own))]
          simp [awaited]
      · rw [startAwaiting_of_still sending] at mode ⊢
        refine .transmitted packet mode (fun v => by rw [same]; exact (WindowIdles.refl _).toWindowKept) (fun v hv => ?_)
          fun v _ => same v
        rwa [← Option.some.inj (own.symm.trans hv)]
    · next alone =>
      exact ⟨_, rfl, .chosen (.transmitted packet rfl (fun _ => (WindowIdles.refl _).toWindowKept)
        (fun w h => by rw [alone] at h; cases h) fun _ _ => rfl)⟩

theorem idles_cycleStart (s : State) : ∃ t, execCycleStart s = .next t ∧ Idles s t := by
  unfold execCycleStart
  split
  · exact ⟨s, rfl, .refl s⟩
  · exact ⟨_, rfl, .chosen ((ExchangesKept.startCycle _).after (Idles.elapse s _).toExchangesKept)⟩

theorem idles_keepAliveExpiry (s : State) : ∃ t, execKeepAliveExpiry s = .next t ∧ Idles s t := by
  unfold execKeepAliveExpiry
  split
  · exact ⟨s, rfl, .refl s⟩
  · exact ⟨_, rfl, .chosen ((ExchangesKept.idleDue _).after (Idles.elapse s _).toExchangesKept)⟩

theorem idles_probeTimerExpiry (s : State) : ∃ t, execProbeTimerExpiry s = .next t ∧ Idles s t := by
  unfold execProbeTimerExpiry
  split
  · exact ⟨s, rfl, .refl s⟩
  · dsimp only
    split
    · exact ⟨_, rfl, .elapse s _⟩
    · exact ⟨_, rfl, .chosen ((ExchangesKept.helloDue _).after (Idles.elapse s _).toExchangesKept)⟩

theorem idles_attachNoReply (s : State) : ∃ t, execAttachNoReply s = .next t ∧ Idles s t := by
  unfold execAttachNoReply
  split
  · dsimp only
    refine ⟨_, rfl, ?_⟩
    split
    · exact (Idles.completeLong ..).after (.after (.toDetached _) (.elapse s _))
    · exact .after (.toDetached _) (.elapse s _)
  · exact ⟨s, rfl, .refl s⟩

theorem idles_recoveryLimitExpiry (s : State) : ∃ t, execRecoveryLimitExpiry s = .next t ∧ Idles s t := by
  unfold execRecoveryLimitExpiry
  split
  · exact ⟨_, rfl, (Idles.attemptSince _ s).after ((Idles.giveUpRecovery _).after (.elapse s _))⟩
  · exact ⟨s, rfl, .refl s⟩

/-! ### Every command and every step -/

theorem exec_idles (c : Instr) (s : State) : ∃ t, exec c s = .next t ∧ Idles s t := by
  cases c with
  | pinReset => exact idles_pinReset s
  | getStatus q => exact ⟨_, rfl, .command q _ fun u => .refl u⟩
  | define q w p => exact ⟨_, rfl, .commandUnlessBusy q _ (idles_define w p)⟩
  | undefine q w => exact ⟨_, rfl, .commandUnlessBusy q _ (idles_undefine w)⟩
  | layout q n => exact ⟨_, rfl, .commandUnlessBusy q _ (idles_layout n)⟩
  | openWindow q w => exact ⟨_, rfl, .commandUnlessBusy q _ (idles_open q w)⟩
  | hold q w => exact ⟨_, rfl, .commandUnlessBusy q _ (idles_hold w)⟩
  | release q w => exact ⟨_, rfl, .commandUnlessBusy q _ (idles_release w)⟩
  | fence q w => exact ⟨_, rfl, .commandUnlessBusy q _ (idles_fence w)⟩
  | unfence q w => exact ⟨_, rfl, .commandUnlessBusy q _ (idles_unfence w)⟩
  | close q w => exact ⟨_, rfl, .commandUnlessBusy q _ (idles_close w)⟩
  | flush q w => exact ⟨_, rfl, .commandUnlessBusy q _ (idles_flush q w)⟩
  | readWindow q w => exact ⟨_, rfl, .commandUnlessBusy q _ (idles_readWindow w)⟩
  | readFault q w => exact ⟨_, rfl, .commandUnlessBusy q _ fun u => .onWindow fun _ => Idles.refl u⟩
  | readCounters q b => exact ⟨_, rfl, .commandUnlessBusy q _ fun u => .onTarget fun _ => Idles.refl u⟩
  | clearCounters q b => exact ⟨_, rfl, .commandUnlessBusy q _ (idles_clearCounters b)⟩
  | attach q => exact ⟨_, rfl, .commandUnlessBusy q _ (idles_attach q)⟩
  | detach q => exact ⟨_, rfl, .commandUnlessBusy q _ idles_detach⟩
  | setLink q p => exact ⟨_, rfl, .commandUnlessBusy q _ (idles_setLink p)⟩
  | setMasks q wm dm => exact ⟨_, rfl, .commandUnlessBusy q _ (idles_setMasks wm dm)⟩
  | readEvents q => exact ⟨_, rfl, .commandUnlessBusy q _ fun u => Idles.refl u⟩
  | ackEvents q b k => exact ⟨_, rfl, .commandUnlessBusy q _ (idles_ackEvents b k)⟩
  | abort q => exact ⟨_, rfl, .command q _ idles_abort⟩
  | resetBlockWindows q b => exact ⟨_, rfl, .command q _ fun u => idles_reset 1 b (.resetWindows u)⟩
  | resetBlockLink q b => exact ⟨_, rfl, .command q _ fun u => idles_reset 2 b (.resetLink u)⟩
  | resetBlockAll q b => exact ⟨_, rfl, .command q _ fun u => idles_reset 3 b (.resetAll u)⟩
  | frameError q b d => exact ⟨_, rfl, .after (.setResult _ _) (.endTransaction s)⟩
  | frameDiscarded => exact ⟨_, rfl, .endTransaction s⟩
  | requestPresented r => exact idles_requestPresented r s
  | acceptanceAttempt => exact ⟨_, rfl, .attempt s⟩
  | waitLimitExpiry => exact idles_waitLimitExpiry s
  | downstreamResponse g ok data => exact idles_downstreamResponse g ok data s
  | ackReceived f b m => exact ⟨_, rfl, .receive s f b _⟩
  | nakReceived f b => exact ⟨_, rfl, .receive s f b _⟩
  | refuseReceived f b => exact ⟨_, rfl, .receive s f b _⟩
  | dataReceived f b data => exact ⟨_, rfl, .receive s f b _⟩
  | helloReplyReceived c l fresh => exact idles_helloReply c l fresh s
  | badCheckPacket => exact idles_badCheckPacket s
  | otherInboundPacket ty => exact ⟨_, rfl, .after (.stray _) (.goodPacket s)⟩
  | responseLimitExpiry w => exact idles_responseLimitExpiry w s
  | nakIntervalEnd w => exact idles_nakIntervalEnd w s
  | transmissionEnd => exact idles_transmissionEnd s
  | cycleStart => exact idles_cycleStart s
  | keepAliveExpiry => exact idles_keepAliveExpiry s
  | probeTimerExpiry => exact idles_probeTimerExpiry s
  | attachNoReply => exact idles_attachNoReply s
  | recoveryLimitExpiry => exact idles_recoveryLimitExpiry s
  | lossOfSignal => exact idles_lossOfSignal s
  | signalPresent => exact ⟨_, rfl, .apart rfl fun _ => rfl⟩
  | chipSelectFalls => exact ⟨_, rfl, .apart rfl fun _ => rfl⟩
  | resultTransaction n => exact ⟨_, rfl, .apart rfl fun _ => rfl⟩

/-- Every step keeps the laws, and a FREE transmitter without anything to send. -/
theorem step_idles {s t : State} (h : step s = .next t) : Idles s t := by
  unfold step at h
  split at h
  · obtain rfl := Host.Outcome.next.inj h
    exact .elapse s 1
  · next c rest _ =>
    obtain ⟨u, hu, kept⟩ := exec_idles c { s with pending := rest }
    obtain rfl : u = t := Host.Outcome.next.inj (hu.symm.trans h)
    exact kept.after (.apart rfl fun _ => rfl)

/-! ### The obligations -/

/-- Settles O54: budgets, mode and NAK time are three of the laws that every step keeps. -/
theorem budgetsModeAndNakTimeAgree : Obligations.BudgetsModeAndNakTimeAgree :=
  ⟨fun _ _ ⟨exchanges, budgets, mode⟩ h => ⟨(step_idles h).exchanges exchanges, (step_idles h).budgets budgets,
      (step_idles h).mode exchanges mode⟩,
    fun _ _ ⟨exchanges, nak⟩ h => ⟨(step_idles h).exchanges exchanges, (step_idles h).nak exchanges nak⟩⟩

/-- Settles O55: a SENDING exchange is in the transmitter, and every step that gives a FREE one something to send chooses. -/
theorem transmitterNeverIdlesWithACandidate : Obligations.TransmitterNeverIdlesWithACandidate :=
  fun _ _ ⟨sending, idle⟩ h => ⟨(step_idles h).sending sending, (step_idles h).idle idle⟩

end Sys2Proof.Proofs
end

section
/-! PROOF. A far module that keeps its duties, and the WRITE that is sent again: obligation O49. -/
namespace Sys2Proof.Proofs
open Sys2Proof.Machine Sys2Proof.Safety

/-- Settles O49: the acknowledged sending left the toggled bit, so the second one is a repeat and writes nothing (R90, R91). -/
theorem resentWriteWrittenOnce : Obligations.ResentWriteWrittenOnce := by
  intro m m₁ m₂ w bit far data first second
  have toggled : (((m.write far data).setBit w (!bit)).bit w) = !bit := by simp [FarModule.setBit, FarModule.bit]
  cases second with
  | writeRepeat _ _ _ _ _ _ differs => rfl
  | writeNew _ _ _ _ _ serves same fits =>
    cases first with
    | writeNew _ _ _ _ _ _ _ _ => rw [toggled] at same; cases bit <;> cases same
    | writeRepeat _ _ _ _ _ _ differs => exact absurd same differs

end Sys2Proof.Proofs
end

section
/-! PROOF. The end of a transmission and of a NAK interval: obligation O43. -/
namespace Sys2Proof.Proofs
open Sys2Proof.Machine Sys2Proof.Safety

/-- A packet has left the part, and the transmitter is FREE; a FREE link's keep-alive timer starts again (R121, R130). -/
def packetLeft (s : State) (p : Packet) : State := { s with
  arb := { s.arb with transmitter := none
                      keepAliveTimer := if s.link.state = .active ∧ s.arb.mode = .free then some 0
                                        else s.arb.keepAliveTimer }
  out := { s.out with sent := s.out.sent ++ [p] } }

theorem execTransmissionEnd_of_packet {s : State} {p : Packet} (packet : s.arb.transmitter = some p) :
    exec .transmissionEnd s = .next (p.window.elim (packetLeft s p) (packetLeft s p).startAwaiting).choose := by
  change execTransmissionEnd s = _
  unfold execTransmissionEnd
  rw [packet]
  dsimp only
  cases p.window <;> rfl

/-- What is left of an interval takes the timer to its end (R97). -/
theorem runTimer_rest {e interval : Nat} (h : e ≤ interval) : runTimer (interval - e) interval e = interval := by
  unfold runTimer
  omega

/-- The NAK interval has ended: the NAK time grew by what was left, unless its clock stood still (R110). -/
theorem Exchange.elapse_interval {x : Exchange} {e interval : Nat} (backoff : x.state = .backoff e) (h : e ≤ interval)
    (clock : Bool) : x.elapse (interval - e) interval clock = { x with
      state := .backoff interval
      nakUsed := if clock then min 65535 (x.nakUsed + (interval - e)) else x.nakUsed } := by
  unfold Machine.Exchange.elapse
  rw [backoff]
  dsimp only
  rw [runTimer_rest h]

theorem win_elapse (s : State) (n : Nat) (w : WinId) :
    (s.elapse n).win w = (s.win w).elapse n (s.link.state = .active) := s.win_mapWins w _

theorem execNakIntervalEnd_of_backoff {s : State} {w : WinId} {x : Exchange} {d : Definition} {e : Nat}
    (hx : (s.win w).exchange = some x) (hd : (s.win w).defn = some d) (backoff : x.state = .backoff e)
    (h : e ≤ d.nakInterval) : exec (.nakIntervalEnd w) s = .next ((s.elapse (d.nakInterval - e)).setWin w
      { s.win w with exchange := some { x with
          state := .ready
          nakUsed := if s.link.state = .active ∧ (s.win w).state ≠ .held then min 65535 (x.nakUsed + (d.nakInterval - e))
                     else x.nakUsed } }).choose := by
  change execNakIntervalEnd w s = _
  unfold execNakIntervalEnd
  have left : (s.win w).intervalLeft e = d.nakInterval - e := by simp [Window.intervalLeft, hd]
  simp only [hx, backoff, left, State.modWin]
  congr 3
  rw [win_elapse]
  simp only [Window.elapse, hx, hd, Option.map_some, Exchange.elapse_interval backoff h]
  simp

/-- Settles O43: the packet leaves the transmitter and its SENDING exchange waits; a BACKOFF exchange is READY again. -/
theorem transmissionAndBackoffEnd : Obligations.TransmissionAndBackoffEnd := by
  refine ⟨fun s p packet => ⟨fun w x own hx sending => ?_, fun h => ?_⟩, fun s w x d e hx hd backoff le =>
    execNakIntervalEnd_of_backoff hx hd backoff le⟩
  · rw [execTransmissionEnd_of_packet packet, own, Option.elim_some, startAwaiting_of_sending (s := packetLeft s p) hx sending]
    rfl
  · rw [execTransmissionEnd_of_packet packet]
    rcases h with alone | ⟨w, own, still⟩
    · rw [alone]; rfl
    · rw [own, Option.elim_some, startAwaiting_of_still (s := packetLeft s p) still]; rfl

end Sys2Proof.Proofs
end

section
/-! PROOF. The stray packets: obligation O35. -/
namespace Sys2Proof.Proofs
open Sys2Proof.Machine Sys2Proof.Safety

theorem windowOfField_val {f : BitVec 4} {w : WinId} (h : windowOfField f = some w) : w.val = f.toNat := by
  unfold windowOfField at h
  split at h
  · rw [← Option.some.inj h]
  · cases h

/-- Outside ACTIVE, and for a window without an AWAITING exchange that the type fits, a response is stray (R94). -/
theorem matchResponse_of_stray {s : State} {f : BitVec 4} (bit : Bool) {r : Response}
    (h : s.link.state ≠ .active ∨ ∀ w : WinId, w.val = f.toNat → ∀ x, (s.win w).exchange = some x →
      x.isAwaiting = false ∨ r.fits x.body = false) : s.matchResponse f bit r = .stray := by
  unfold State.matchResponse
  cases hw : windowOfField f with
  | none => rfl
  | some w =>
    cases hx : (s.win w).exchange with
    | none => simp only [hx]
    | some x =>
      cases awaiting : x.state with
      | ready | sending | backoff => simp only [hx, awaiting]
      | awaiting e l st =>
        have shut : (s.link.state != .active || !r.fits x.body) = true := by
          rcases h with down | misfit
          · simp [down]
          · simp [(misfit w (windowOfField_val hw) x hx).resolve_left (by simp [Exchange.isAwaiting, awaiting])]
        simp only [hx, awaiting, shut, if_true]

theorem receive_of_stray {s : State} {f : BitVec 4} {bit : Bool} {r : Response}
    (h : (heard s).matchResponse f bit r = .stray) : s.receive f bit r = (heard s).stray := by
  unfold State.receive
  rw [show s.goodPacket = heard s from rfl]
  dsimp only
  rw [h]

/-- A HELLO_REPLY is stray unless the link is PROBING or RECOVERING and its fields are in range (R138). -/
theorem execHelloReplyReceived_of_stray {s : State} {c : BitVec 32} {l : BitVec 16} (fresh : Bool)
    (h : s.link.state = .detached ∨ s.link.state = .active ∨ replyInRange c.toNat l.toNat = false) :
    exec (.helloReplyReceived c l fresh) s = .next (heard s).stray := by
  have state : s.goodPacket.link.state = s.link.state := rfl
  change execHelloReplyReceived c l fresh s = _
  unfold execHelloReplyReceived
  dsimp only
  rw [state]
  split
  · next good =>
    rcases h with detached | active | bad
    · rw [detached]; rfl
    · rw [active]; rfl
    · rw [bad] at good; cases good
  · rfl

theorem replyInRange_eq_false {c l : Nat} (h : c < 1 ∨ 4194304 < c ∨ l < 32 ∨ 256 < l) : replyInRange c l = false := by
  simp only [replyInRange, Bool.and_eq_false_iff, decide_eq_false_iff_not]
  omega

/-- Settles O35: every stray packet only ends the timeout run and is counted, whatever makes it stray. -/
theorem strayResponses : Obligations.StrayResponses := by
  refine ⟨fun s f bit r h => ?_, fun s ty => rfl, fun s c l fresh h => execHelloReplyReceived_of_stray fresh ?_⟩
  · have stray := receive_of_stray (s := s) (matchResponse_of_stray bit h)
    cases r <;> exact congrArg Host.Outcome.next stray
  · exact h.imp_right fun h => h.imp_right replyInRange_eq_false

end Sys2Proof.Proofs
end

section
/-! SUPPORT. A strike below and at the strike limit (R106, R107), the exchange that has been AWAITING longest (R108), a response
with the wrong bit (R101), and the loss of the link (R142, R144). -/
namespace Sys2Proof.Proofs
open Sys2Proof.Machine Sys2Proof.Safety

/-! ### One strike -/

/-- The exchange after a strike, below the limit (R106). -/
def struckExchange (x : Exchange) (k : StrikeKind) : Exchange :=
  { x with state := .ready, strikes := x.strikes + 1, lastStrike := some k }

/-- The part after a strike below the limit on the exchange that `s` has in the window. -/
def struckAt (s b : State) (w : WinId) (x : Exchange) (k : StrikeKind) : State :=
  b.setWin w { b.win w with counters := (s.win w).counters.grow .strikes 1, exchange := some (struckExchange x k) }

/-- It moves no window (R25). -/
theorem struckAt_still (s b : State) (w : WinId) (x : Exchange) (k : StrikeKind) (v : WinId) :
    ((struckAt s b w x k).win v).state = (b.win v).state ∧ ((struckAt s b w x k).win v).queue = (b.win v).queue := by
  rw [struckAt, State.win_setWin]
  split
  · next e => subst e; exact ⟨rfl, rfl⟩
  · exact ⟨rfl, rfl⟩

section
variable {b : State} {w : WinId} {x : Exchange} {d : Definition} (k : StrikeKind)
  (hx : (b.win w).exchange = some x) (hd : (b.win w).defn = some d)
include hx hd

/-- The strike is counted and written into the exchange, which fails if it has reached the limit (R106, R107). -/
theorem strike_eq : b.strike w k =
    let struck := (b.countWindow w .strikes 1).modWin w fun y => { y with exchange := some (struckExchange x k) }
    if x.strikes + 1 < d.strikeLimit then struck
    else struck.failExchange w (struckExchange x k) .strikes (some k) := by
  unfold State.strike
  split
  · next y e hy he =>
    obtain rfl := Option.some.inj (hx.symm.trans hy)
    obtain rfl := Option.some.inj (hd.symm.trans he)
    rfl
  · next none => exact (none x d hx hd).elim

theorem strike_of_below (below : x.strikes + 1 < d.strikeLimit) :
    b.strike w k = struckAt b b w x k := by
  rw [strike_eq k hx hd]
  exact (if_pos below).trans (State.modWin_modWin ..)

/-- The failure path removes the exchange, so what the last strike wrote of it is not seen (R107). -/
theorem strike_of_limit (limit : d.strikeLimit ≤ x.strikes + 1) :
    b.strike w k = (b.countWindow w .strikes 1).failExchange w x .strikes (some k) := by
  rw [strike_eq k hx hd]
  refine (if_neg (Nat.not_lt.mpr limit)).trans ?_
  unfold State.failExchange struckExchange
  cases x.body <;> exact haltWindow_withExchange ..

end

/-- A failed exchange leaves its window HALTED (R113). -/
theorem failExchange_state (b : State) (w : WinId) (x : Exchange) (c : FaultCause) (k : Option StrikeKind) :
    ((b.failExchange w x c k).win w).state = .halted := by
  unfold State.failExchange
  cases x.body <;> (dsimp only; rw [State.haltWindow_win, if_pos rfl]; rfl)

theorem failExchange_link (b : State) (w : WinId) (x : Exchange) (c : FaultCause) (k : Option StrikeKind) :
    (b.failExchange w x c k).link = b.link := by
  unfold State.failExchange
  cases x.body <;> simp

/-! ### The longest AWAITING -/

section
variable {s : State} {w : WinId} {st : Nat} (stamp : (s.win w).awaitStamp = some st)
  (longest : ∀ v : WinId, v ≠ w → ∀ n, (s.win v).awaitStamp = some n → st < n)
include stamp longest

theorem older_of_longest (best : Option WinId) : s.older best w = some w := by
  unfold State.older
  rw [stamp]
  cases best with
  | none => rfl
  | some v =>
    by_cases e : v = w
    · simp [e, stamp]
    · cases hv : (s.win v).awaitStamp with
      | none => simp [hv]
      | some n => simp [hv, longest v e n hv]

theorem older_of_best (v : WinId) : s.older (some w) v = some w := by
  by_cases e : v = w
  · simp [State.older, e, stamp]
  · unfold State.older
    cases hv : (s.win v).awaitStamp with
    | none => rfl
    | some n => simp [stamp, (longest v e n hv).le]

theorem longestAwaiting_eq : s.longestAwaiting = some w := by
  obtain ⟨before, behind, all⟩ := List.append_of_mem (mem_allWindows w)
  unfold State.longestAwaiting
  rw [all, List.foldl_append, List.foldl_cons, older_of_longest stamp longest]
  exact List.foldl_fixed' (older_of_best stamp longest) behind

end

theorem longestAwaiting_eq_none {s : State} (h : ∀ w : WinId, (s.win w).awaitStamp = none) : s.longestAwaiting = none :=
  List.foldl_fixed' (fun w => by simp [State.older, h w]) _

theorem awaitStamp_of_awaiting {x : Window} {e : Exchange} {n l st : Nat} (hx : x.exchange = some e)
    (awaiting : e.state = .awaiting n l st) : x.awaitStamp = some st := by
  simp only [Window.awaitStamp, hx, awaiting]

/-! ### The three kinds of strike -/

/-- A response of a settling type with the wrong bit (R101). -/
theorem matchResponse_of_mismatch {s : State} {w : WinId} {x : Exchange} {e l st : Nat} {bit : Bool} {r : Response}
    (hx : (s.win w).exchange = some x) (awaiting : x.state = .awaiting e l st) (active : s.link.state = .active)
    (fits : r.fits x.body = true) (differs : x.body.bitAgrees bit = false) :
    s.matchResponse (windowField w) bit r = .mismatch w := by
  unfold State.matchResponse
  simp [windowOfField_windowField, hx, awaiting, active, fits, differs]

theorem receive_of_mismatch {s : State} {f : BitVec 4} {bit : Bool} {r : Response} {w : WinId}
    (h : (heard s).matchResponse f bit r = .mismatch w) :
    s.receive f bit r = (((heard s).strike w .sequence).attemptSince (heard s)).choose := by
  unfold State.receive
  rw [show s.goodPacket = heard s from rfl]
  dsimp only
  rw [h]

theorem execBadCheckPacket_of_longest {s : State} {w : WinId} (h : s.longestAwaiting = some w) :
    exec .badCheckPacket s = .next ((s.strike w .check).attemptSince s).choose := by
  change execBadCheckPacket s = _
  unfold execBadCheckPacket
  rw [h]

theorem execBadCheckPacket_of_none {s : State} (h : s.longestAwaiting = none) : exec .badCheckPacket s = .next s.stray := by
  change execBadCheckPacket s = _
  unfold execBadCheckPacket
  rw [h]

/-- The part at the end of a response timer: its time has passed and the expiry is counted (log 1, R87). -/
def expiredAt (s : State) (n : Nat) : State := (s.elapse n).countDevice .linkTimeouts 1

theorem execResponseLimitExpiry_of_awaiting {s : State} {w : WinId} {x : Exchange} {e l st : Nat}
    (hx : (s.win w).exchange = some x) (awaiting : x.state = .awaiting e l st) :
    exec (.responseLimitExpiry w) s = .next ((((expiredAt s (l - e)).strike w .timeout).countTimeout).attemptSince
      (expiredAt s (l - e))).choose := by
  change execResponseLimitExpiry w s = _
  unfold execResponseLimitExpiry
  simp only [hx, awaiting]
  rfl

/-- The time that passes only runs the timer of an AWAITING exchange (R88). -/
theorem expiredAt_exchange {s : State} {w : WinId} {x : Exchange} {d : Definition} {e l st : Nat}
    (hx : (s.win w).exchange = some x) (hd : (s.win w).defn = some d) (awaiting : x.state = .awaiting e l st) (n : Nat) :
    ((expiredAt s n).win w).exchange = some { x with state := .awaiting (runTimer n l e) l st } := by
  change ((s.elapse n).win w).exchange = _
  rw [win_elapse]
  simp only [Window.elapse, hx, hd, Exchange.elapse, awaiting]

theorem expiredAt_win (s : State) (n : Nat) (w : WinId) :
    (expiredAt s n).win w = { s.win w with exchange := ((expiredAt s n).win w).exchange } := s.elapse_win n w

/-! ### The timeout run -/

/-- One more expiry in a row (R142). -/
def runGrown (b : State) : State := { b with link := { b.link with timeoutRun := b.link.timeoutRun + 1 } }

theorem countTimeout_of_run {b : State} (active : b.link.state = .active) (run : b.link.timeoutRun + 1 < 8) :
    b.countTimeout = runGrown b := by
  exact (if_pos active).trans (if_neg (Nat.not_le.mpr run))

/-- SENDING and AWAITING go to READY, and READY stays READY (R144). -/
theorem Exchange.rewind_eq (x : Exchange) : x.rewind = { x with
    state := match x.state with
      | .backoff e => .backoff e
      | .ready | .sending | .awaiting _ _ _ => .ready } := by
  rcases x with ⟨body, state, strikes, last, used⟩
  cases state <;> rfl

theorem linkLost_win (b : State) (w : WinId) :
    (linkLost b).win w = { b.win w with exchange := (b.win w).exchange.map Exchange.rewind } := by
  simp only [linkLost, State.setAttn, State.win, Fin.getElem_fin, Vector.getElem_ofFn]
  exact congrArg (fun f => { b.windows[w.val] with exchange := b.windows[w.val].exchange.map f })
    (funext fun x => (Exchange.rewind_eq x).symm)

/-- The part that has lost the link, before it rewinds its exchanges (R144). -/
def lostCounted (b : State) : State := ({ b with link := { b.link with
  state := .recovering, timeoutRun := 0, recoveryTimer := some 0 } }.raiseDevice .recovering).countDevice .recoveries 1

theorem enterRecovering_win (b : State) (w : WinId) :
    b.enterRecovering.win w = { b.win w with exchange := (b.win w).exchange.map Exchange.rewind } :=
  (lostCounted b).win_mapWins w fun _ x => { x with exchange := x.exchange.map Exchange.rewind }

theorem enterRecovering_eq (b : State) : b.enterRecovering = linkLost b := by
  have win : ∀ w, b.enterRecovering.win w = (linkLost b).win w := fun w =>
    (enterRecovering_win b w).trans (linkLost_win b w).symm
  have attn : b.enterRecovering.ev.attn = (linkLost b).ev.attn :=
    State.attnLevel_congr (fun w => (congrArg Window.pending (linkLost_win b w)).symm) rfl rfl rfl
  exact State.ext_blocks win (fun _ => rfl) (fun _ => rfl) rfl rfl rfl rfl rfl
    (congrArg (fun level => { b.ev with
      counters := b.ev.counters.grow .recoveries 1
      devicePending := b.ev.devicePending ||| DeviceKind.recovering.bit
      attn := level }) attn) rfl rfl rfl

/-- The eighth expiry in a row loses the link (R142, R144). -/
theorem countTimeout_of_eighth {b : State} (active : b.link.state = .active) (run : 8 ≤ b.link.timeoutRun + 1) :
    b.countTimeout = linkLost b := by
  have lost : (runGrown b).enterRecovering = b.enterRecovering := rfl
  rw [← enterRecovering_eq, ← lost]
  exact (if_pos active).trans (if_pos run)

end Sys2Proof.Proofs
end

section
/-! PROOF. Strikes below and at the limit, and the eighth expiry in a row: obligations O41 and O42. -/
namespace Sys2Proof.Proofs
open Sys2Proof.Machine Sys2Proof.Safety

theorem expiredAt_counters (s : State) (n : Nat) (w : WinId) :
    ((expiredAt s n).win w).counters = (s.win w).counters := by rw [expiredAt_win]

theorem expiredAt_defn (s : State) (n : Nat) (w : WinId) : ((expiredAt s n).win w).defn = (s.win w).defn := by
  rw [expiredAt_win]

theorem expiredAt_state (s : State) (n : Nat) (w : WinId) : ((expiredAt s n).win w).state = (s.win w).state := by
  rw [expiredAt_win]

/-- The window that has come to HALTED is moved (R25). -/
theorem attemptSince_of_failed {old new : State} {w : WinId} (halted : (new.win w).state = .halted)
    (live : (old.win w).state ≠ .halted) : new.attemptSince old = new.attempt :=
  State.attemptSince_of_moved (w := w) (.inl (by rw [halted]; exact live.symm))

section
variable {s : State} {w : WinId} {x : Exchange} {d : Definition} {e l st : Nat}
  (hx : (s.win w).exchange = some x) (awaiting : x.state = .awaiting e l st) (hd : (s.win w).defn = some d)

include hx hd in
theorem strikeSince_of_below (k : StrikeKind) (below : x.strikes + 1 < d.strikeLimit) :
    (s.strike w k).attemptSince s = struckAt s s w x k := by
  rw [strike_of_below k hx hd below]
  exact State.attemptSince_of_still (struckAt_still s s w x k)

include hx hd in
theorem strikeSince_of_limit (live : (s.win w).state ≠ .halted) (k : StrikeKind) (limit : d.strikeLimit ≤ x.strikes + 1) :
    (s.strike w k).attemptSince s = ((s.countWindow w .strikes 1).failExchange w x .strikes (some k)).attempt := by
  rw [strike_of_limit k hx hd limit]
  exact attemptSince_of_failed (failExchange_state ..) live

include hx awaiting in
/-- A response with the wrong bit is a SEQUENCE strike, whatever its type (R101). -/
theorem exec_of_mismatch {bit : Bool} {r : Response} (active : s.link.state = .active) (fits : r.fits x.body = true)
    (differs : x.body.bitAgrees bit = false) {t : State}
    (h : ((heard s).strike w .sequence).attemptSince (heard s) = t) :
    (match r with
      | .ack mark => exec (.ackReceived (windowField w) bit mark) s
      | .nak => exec (.nakReceived (windowField w) bit) s
      | .refuse => exec (.refuseReceived (windowField w) bit) s
      | .data bytes => exec (.dataReceived (windowField w) bit bytes) s) = .next t.choose := by
  have received := receive_of_mismatch (s := s) (matchResponse_of_mismatch (s := heard s) hx awaiting active fits differs)
  rw [h] at received
  cases r <;> exact congrArg Host.Outcome.next received

include hx awaiting in
theorem exec_of_badCheck (longest : ∀ v : WinId, v ≠ w → ∀ n, (s.win v).awaitStamp = some n → st < n) {t : State}
    (h : (s.strike w .check).attemptSince s = t) : exec .badCheckPacket s = .next t.choose := by
  rw [execBadCheckPacket_of_longest (longestAwaiting_eq (awaitStamp_of_awaiting hx awaiting) longest), h]

/-! ### The expiry of a response timer -/

include hx awaiting hd

theorem strike_expired_of_below (n : Nat) (below : x.strikes + 1 < d.strikeLimit) :
    (expiredAt s n).strike w .timeout = struckAt s (expiredAt s n) w x .timeout := by
  rw [strike_of_below .timeout (expiredAt_exchange hx hd awaiting n) ((expiredAt_defn ..).trans hd) below]
  unfold struckAt
  rw [expiredAt_counters]
  rfl

theorem strike_expired_of_limit (n : Nat) (limit : d.strikeLimit ≤ x.strikes + 1) :
    (expiredAt s n).strike w .timeout =
      ((expiredAt s n).countWindow w .strikes 1).failExchange w x .strikes (some .timeout) := by
  rw [strike_of_limit .timeout (expiredAt_exchange hx hd awaiting n) ((expiredAt_defn ..).trans hd) limit]
  rfl

end

/-- Settles O41: below the limit the exchange is READY again, no window moves, and no attempt is made. -/
theorem strikesBelowTheLimit : Obligations.StrikesBelowTheLimit := by
  refine ⟨fun s w x d e l st hx awaiting hd below => ⟨fun bit r active fits differs => ?_, fun longest => ?_,
    fun active run => ?_⟩, fun s none => execBadCheckPacket_of_none (longestAwaiting_eq_none none)⟩
  · exact exec_of_mismatch hx awaiting active fits differs (strikeSince_of_below (s := heard s) hx hd .sequence below)
  · exact exec_of_badCheck hx awaiting longest (strikeSince_of_below hx hd .check below)
  · have still := State.attemptSince_of_still (new := runGrown (struckAt s (expiredAt s (l - e)) w x .timeout))
      (struckAt_still s (expiredAt s (l - e)) w x .timeout)
    rw [execResponseLimitExpiry_of_awaiting hx awaiting, strike_expired_of_below hx awaiting hd (l - e) below,
      countTimeout_of_run (by exact active) (by exact run), still]
    rfl

/-- Settles O42: at the limit the failure path halts the window, which the attempt follows; the eighth expiry loses the link. -/
theorem strikesAtTheLimit : Obligations.StrikesAtTheLimit := by
  intro s w x d e l st hx awaiting hd live counted failed struck expired grown
  have expiredLive : (expired.win w).state ≠ .halted := by
    rw [show expired = expiredAt s (l - e) from rfl, expiredAt_state]; exact live
  have fails : ∀ b k, failed b k = (counted b).failExchange w x .strikes (some k) := fun b k => by
    cases body : x.body <;> simp only [failed, State.failExchange, body]
  have atLimit : d.strikeLimit ≤ x.strikes + 1 → expired.strike w .timeout = failed expired .timeout := fun limit => by
    have counted_eq : counted expired = expired.countWindow w .strikes 1 := by
      dsimp only [counted]
      rw [← expiredAt_counters s (l - e) w]
      rfl
    rw [fails, counted_eq]
    exact strike_expired_of_limit hx awaiting hd (l - e) limit
  have halted : ((failed expired .timeout).win w).state = .halted := by rw [fails]; exact failExchange_state ..
  have link : (failed expired .timeout).link = expired.link := by rw [fails, failExchange_link]; rfl
  have expiry : exec (.responseLimitExpiry w) s =
      .next (((expired.strike w .timeout).countTimeout).attemptSince expired).choose :=
    execResponseLimitExpiry_of_awaiting hx awaiting
  refine ⟨fun limit => ⟨fun bit r active fits differs => ?_, fun longest => ?_, fun active run => ?_, fun active run => ?_⟩,
    fun below active run => ?_⟩
  · rw [fails]
    exact exec_of_mismatch hx awaiting active fits differs (strikeSince_of_limit (s := heard s) hx hd live .sequence limit)
  · rw [fails]
    exact exec_of_badCheck hx awaiting longest (strikeSince_of_limit hx hd live .check limit)
  · rw [expiry, atLimit limit, countTimeout_of_run (by rw [link]; exact active) (by rw [link]; exact run),
      attemptSince_of_failed (new := runGrown (failed expired .timeout)) halted expiredLive]
    rfl
  · rw [expiry, atLimit limit, countTimeout_of_eighth (by rw [link]; exact active) (by rw [link]; exact run),
      attemptSince_of_failed (by rw [linkLost_win]; exact halted) expiredLive]
  · have struck_eq : expired.strike w .timeout = struck expired .timeout :=
      strike_expired_of_below hx awaiting hd (l - e) below
    have still : (linkLost (struck expired .timeout)).attemptSince expired = linkLost (struck expired .timeout) :=
      State.attemptSince_of_still fun v => by
        rw [linkLost_win]; exact struckAt_still s expired w x .timeout v
    rw [expiry, struck_eq, countTimeout_of_eighth (by exact active) (by exact run), still]

end Sys2Proof.Proofs
end

section
/-! PROOF. The packets of the far link, sent and received (section 11.4): obligation O10. -/
namespace Sys2Proof.Proofs
open Sys2Proof.Machine Sys2Proof.Safety

/-! ### Fields of a packet -/

theorem fieldAt_append (a b : List Byte) (n : Nat) : fieldAt (a ++ b) a.length n = fieldAt b 0 n := by
  unfold fieldAt
  rw [List.drop_left, List.drop_zero]

/-- A field of n bytes is less than 256 to the n, also where the bytes end before it does. -/
theorem fieldAt_lt (bs : List Byte) (k n : Nat) : fieldAt bs k n < 256 ^ n := by
  have fold : ∀ (l : List Byte) (a : Nat), l.foldl (fun acc b => acc * 256 + b.toNat) a < (a + 1) * 256 ^ l.length := by
    intro l
    induction l with
    | nil => simp
    | cons b l ih =>
      intro a
      have byte := b.isLt
      calc _ < (a * 256 + b.toNat + 1) * 256 ^ l.length := ih _
        _ ≤ ((a + 1) * 256) * 256 ^ l.length := Nat.mul_le_mul_right _ (by omega)
        _ = (a + 1) * 256 ^ (l.length + 1) := by ring
  have := fold ((bs.drop k).take n) 0
  rw [Nat.zero_add, Nat.one_mul] at this
  exact this.trans_le (Nat.pow_le_pow_right (by decide) (List.length_take_le ..))

theorem byteAt_toNat (bs : List Byte) (k : Nat) : (byteAt bs k).toNat = fieldAt bs k 1 := by
  induction bs generalizing k with
  | nil => simp [byteAt, fieldAt]
  | cons b bs ih =>
    cases k with
    | zero => simp [byteAt]
    | succ k => exact ih k

theorem field_eq (n : Nat) (bs : List Byte) (k m : Nat) : field n bs k m = BitVec.ofNat n (fieldAt bs k m) := rfl

theorem field_two_toNat (bs : List Byte) (k : Nat) : (field 16 bs k 2).toNat = fieldAt bs k 2 := by
  rw [field_eq, BitVec.toNat_ofNat]
  exact Nat.mod_eq_of_lt (fieldAt_lt bs k 2)

/-- A word of n bytes is read back whole. -/
theorem fieldAt_word {m n : Nat} (x : BitVec m) (h : 2 ^ m = 256 ^ n) : fieldAt (beBytes n x.toNat) 0 n = x.toNat := by
  rw [fieldAt_beBytes, ← h, Nat.mod_eq_of_lt x.isLt]

/-! ### The packets sent -/

theorem packetWindowByte_toNat (w : WinId) (bit : Bool) :
    (packetWindowByte w bit).toNat = w.val + if bit then 128 else 0 := by
  have := w.isLt
  unfold packetWindowByte
  rw [BitVec.toNat_ofNat]
  split <;> omega

/-- The head of a WRITE or READ: its type, its window byte, the far address and the length (section 11.4). -/
def requestHead (t : Byte) (w : WinId) (bit : Bool) (far : FarAddr) (len : Nat) : List Byte :=
  [t, packetWindowByte w bit] ++ beBytes 4 far.toNat ++ beBytes 2 len

theorem requestHead_length (t : Byte) (w : WinId) (bit : Bool) (far : FarAddr) (len : Nat) :
    (requestHead t w bit far len).length = 8 := by simp [requestHead, Laws.beBytes_length]

/-- Its fields, whatever follows it. -/
theorem requestHead_fields (t : Byte) (w : WinId) (bit : Bool) (far : FarAddr) (len : Nat) (data : List Byte) :
    let body := requestHead t w bit far len ++ data
    fieldAt body 0 1 = t.toNat ∧ fieldAt body 1 1 = w.val + (if bit then 128 else 0) ∧ fieldAt body 2 4 = far.toNat ∧
      fieldAt body 6 2 = len % 65536 := by
  intro body
  have sections : body = [[t, packetWindowByte w bit], beBytes 4 far.toNat, beBytes 2 len, data].flatten := by
    simp [body, requestHead]
  have lengths : [[t, packetWindowByte w bit], beBytes 4 far.toNat, beBytes 2 len, data].map List.length =
      [2, 4, 2, data.length] := by simp [Laws.beBytes_length]
  have far_field := field_of_section sections lengths (i := 1) (k := 2) (j := 0) (n := 4) rfl rfl (by simp [Laws.beBytes_length])
  have len_field := field_of_section sections lengths (i := 2) (k := 6) (j := 0) (n := 2) rfl rfl (by simp [Laws.beBytes_length])
  exact ⟨fieldAt_byte .., (fieldAt_byte ..).trans (packetWindowByte_toNat w bit),
    far_field.trans (fieldAt_word far (by decide)), len_field.trans (fieldAt_beBytes 2 len)⟩

theorem packet_bytes (p : Packet) : p.bytes.take p.body.length = p.body ∧ p.bytes.length = p.body.length + 2 ∧
    fieldAt p.bytes p.body.length 2 = (crc16 p.body).toNat := by
  unfold Packet.bytes
  refine ⟨List.take_left, by simp [Laws.beBytes_length], ?_⟩
  rw [fieldAt_append, fieldAt_word _ (by decide)]

/-! ### The packets received -/

/-- The length after the type that a type requires (R176); none for an unknown type. -/
def requiredLength (t : Byte) (rest : List Byte) : Option Nat :=
  if t = 0x01 ∨ t = 0x03 then some 0
  else if t = 0x02 then some 2
  else if t = 0x10 then some (7 + fieldAt rest 5 2)
  else if t = 0x11 ∨ t = 0x81 then some 7
  else if t ∈ [0x12, 0x90, 0x91, 0x92] then some 1
  else if t = 0x93 then some (3 + fieldAt rest 1 2)
  else none

theorem packetLengthOk_iff (t : Byte) (rest : List Byte) :
    packetLengthOk (t :: rest) = true ↔ ∀ n, requiredLength t rest = some n → rest.length = n := by
  by_cases marker : t = 0x01 ∨ t = 0x03
  · rcases marker with rfl | rfl <;> simp [packetLengthOk, requiredLength]
  by_cases cycle : t = 0x02
  · simp [packetLengthOk, requiredLength, cycle]
  by_cases write : t = 0x10
  · simp [packetLengthOk, requiredLength, write, field_two_toNat]; omega
  by_cases seven : t = 0x11 ∨ t = 0x81
  · rcases seven with rfl | rfl <;> simp [packetLengthOk, requiredLength]
  by_cases one : t ∈ [0x12, 0x90, 0x91, 0x92]
  · simp only [List.mem_cons, List.not_mem_nil, or_false] at one
    rcases one with rfl | rfl | rfl | rfl <;> simp [packetLengthOk, requiredLength]
  by_cases data : t = 0x93
  · simp [packetLengthOk, requiredLength, data, field_two_toNat]; omega
  have unknown : requiredLength t rest = none := by
    simp only [requiredLength, marker, cycle, write, seven, one, data, if_false]
  simp only [List.mem_cons, List.not_mem_nil, or_false, not_or] at marker seven one
  simp only [unknown, packetLengthOk, marker, cycle, write, seven, one, data]
  simp

/-- The two bytes of a check code, high byte first. -/
def checkBytes (c : BitVec 16) : List Byte := [BitVec.ofNat 8 (c.toNat / 256), BitVec.ofNat 8 c.toNat]

theorem field_checkBytes (body : List Byte) (c : BitVec 16) : field 16 (body ++ checkBytes c) body.length 2 = c := by
  have split : beBytes 2 c.toNat = checkBytes c := by simp [beBytes, checkBytes]
  refine BitVec.eq_of_toNat_eq ?_
  rw [field_two_toNat, fieldAt_append, ← split, fieldAt_word c (by decide)]

/-- A received packet is judged by its check code and its length, and is then the row of its type (R81, R176). -/
theorem rowOfPacket_received (t : Byte) (rest : List Byte) (c : BitVec 16) :
    rowOfPacket (t :: rest ++ checkBytes c) =
      if c = crc16 (t :: rest) ∧ packetLengthOk (t :: rest) = true then rowOfGoodPacket (t :: rest) else .badCheckPacket := by
  have length : (t :: rest ++ checkBytes c).length - 2 = (t :: rest).length := by simp [checkBytes]
  unfold rowOfPacket
  dsimp only
  rw [length, List.take_left, field_checkBytes]
  by_cases good : c = crc16 (t :: rest) ∧ packetLengthOk (t :: rest) = true
  · rw [if_pos good, if_neg (by simp [checkBytes, good])]
  · rw [if_neg good, if_pos]
    by_cases check : c = crc16 (t :: rest)
    · simp [Bool.eq_false_iff.mpr fun long => good ⟨check, long⟩]
    · simp [Ne.symm check]

theorem rowOfGoodPacket_eq (t : Byte) (rest : List Byte) :
    let window : BitVec 4 := BitVec.ofNat 4 (fieldAt rest 0 1)
    let bit := fun k => (fieldAt rest 0 1).testBit k
    rowOfGoodPacket (t :: rest) =
      if t = 0x81 then .helloReplyReceived (BitVec.ofNat 32 (fieldAt rest 0 4)) (BitVec.ofNat 16 (fieldAt rest 4 2))
        ((fieldAt rest 6 1).testBit 0)
      else if t = 0x90 then .ackReceived window (bit 7) (bit 6)
      else if t = 0x91 then .nakReceived window (bit 7)
      else if t = 0x92 then .refuseReceived window (bit 7)
      else if t = 0x93 then .dataReceived window (bit 7) (rest.drop 3)
      else .otherInboundPacket t := by
  simp only [← byteAt_toNat, BitVec.testBit_toNat, BitVec.ofNat_toNat]
  rfl

/-- Settles O10: a sent packet is its sections in order; a received one is judged as a whole before its fields are read. -/
theorem linkPacketFormats : Obligations.LinkPacketFormats := by
  refine ⟨fun p => ?_, ?_⟩
  · obtain ⟨taken, length, check⟩ := packet_bytes p
    refine ⟨taken, length, check, ?_⟩
    cases p with
    | hello => rfl
    | idle => rfl
    | cycle c =>
      exact ⟨rfl, fieldAt_byte .., fieldAt_word c (by decide)⟩
    | write w bit far data =>
      obtain ⟨type, window, address, len⟩ := requestHead_fields 0x10 w bit far data.length data
      refine ⟨?_, type, window, address, len, List.drop_left' (requestHead_length 0x10 w bit far data.length)⟩
      exact (List.length_append ..).trans (congrArg (· + data.length) (requestHead_length 0x10 w bit far data.length))
    | read w bit far len =>
      have fields := requestHead_fields 0x11 w bit far len []
      rw [List.append_nil] at fields
      exact ⟨requestHead_length 0x11 w bit far len, fields⟩
    | sync w => exact ⟨rfl, rfl, (fieldAt_byte ..).trans (packetWindowByte_toNat w false)⟩
  · intro t rest c body required received window bit
    have row : rowOfPacket received = _ := rowOfPacket_received t rest c
    have long : packetLengthOk body = true ↔ ∀ n, required = some n → rest.length = n := packetLengthOk_iff t rest
    rw [row]
    refine ⟨fun wrong => if_neg fun h => wrong h.1, fun right => ⟨fun n is other => ?_, fun is => ?_⟩⟩
    · exact if_neg fun h => other (long.mp h.2 n is)
    · have fits : ∀ n, required = some n → rest.length = n := fun n hn => by
        rcases is with none | same
        · rw [none] at hn; cases hn
        · exact Option.some.inj (same.symm.trans hn)
      exact (if_pos ⟨right, long.mpr fits⟩).trans (rowOfGoodPacket_eq t rest)

end Sys2Proof.Proofs
end

section
/-! PROOF. Cycle starts, changes of the link mode, the link's timers, ATTACH and DETACH: obligations O20, O22, O44 and
O45. -/
namespace Sys2Proof.Proofs
open Sys2Proof.Machine Sys2Proof.Safety

/-! ### Changes of the link mode (R131, R132) -/

/-- A cycle start does not read the marker that is pending before it. -/
theorem cycleStarted_of_marker (s : State) (m : Option Marker) :
    cycleStarted { s with arb := { s.arb with marker := m } } = cycleStarted s := rfl

theorem toCycled_of_active {s : State} (active : s.link.state = .active) :
    s.toCycled = cycleStarted { s with arb := { s.arb with mode := .cycled, keepAliveTimer := none } } := by
  have started : s.toCycled = State.startCycle { s with arb := { s.arb with
      mode := .cycled, keepAliveTimer := none, marker := dropIdle s.arb.marker } } := if_pos active
  rw [started, State.startCycle_eq]
  exact cycleStarted_of_marker { s with arb := { s.arb with mode := .cycled, keepAliveTimer := none } } _

theorem toCycled_of_idle {s : State} (idle : s.link.state ≠ .active) :
    s.toCycled = { s with arb := { s.arb with mode := .cycled } } := if_neg idle

theorem toFree_eq (s : State) : s.toFree = { s with arb := { s.arb with
    mode := .free
    cycleTimer := none
    marker := dropCycle s.arb.marker
    keepAliveTimer := if s.link.state = .active then some 0 else s.arb.keepAliveTimer } } := rfl

/-- Settles O22: both changes of the mode, written out. -/
theorem modeChanges : Obligations.ModeChanges :=
  fun s => ⟨toCycled_of_active, toCycled_of_idle, toFree_eq s⟩

/-! ### A pending marker and the transmitter (R121, R122) -/

/-- The arbiter's choice with a marker pending. -/
theorem choose_of_pending {s : State} {m : Marker} (pending : s.arb.marker = some m) : s.choose = markerSent s m := by
  rw [← choose_of_marker, ← pending]

section
variable (s : State) (m : Marker)

/-- A marker sent or left pending writes of the part only itself and the transmitter. -/
theorem markerSent_frame : markerSent s m = { s with arb := { s.arb with
    marker := (markerSent s m).arb.marker, transmitter := (markerSent s m).arb.transmitter } } := by
  unfold markerSent
  cases s.arb.transmitter <;> rfl

theorem markerSent_win (w : WinId) : (markerSent s m).win w = s.win w := by rw [markerSent_frame]; rfl

theorem markerSent_slot (i : SlotId) : (markerSent s m).slot i = s.slot i := by rw [markerSent_frame]; rfl

variable {s}

theorem markerSent_arb_of_free (free : s.arb.transmitter = none) :
    (markerSent s m).arb = { s.arb with transmitter := some m.packet, marker := none } := by
  unfold markerSent
  rw [free]

theorem markerSent_arb_of_sending (sending : s.arb.transmitter.isSome = true) :
    (markerSent s m).arb = { s.arb with marker := some m } := by
  obtain ⟨p, packet⟩ := Option.isSome_iff_exists.mp sending
  unfold markerSent
  rw [packet]

end

/-! ### A cycle start (R125, R129) -/

section
variable (s : State)

theorem cycleStarted_win (w : WinId) : (cycleStarted s).win w =
    if s.lateNow w then (s.win w).refill.late else (s.win w).refill := by
  rw [← s.cycleCounted_win, cycleStarted_eq]
  split
  · rw [State.setAttn_win, State.windows_eq_iff.mp (headsMarked_windows _)]
  · exact State.windows_eq_iff.mp (headsMarked_windows _) w

/-- Which slots lead the queues of PERIODIC windows does not change. -/
theorem cycleCounted_leads (i : SlotId) : s.cycleCounted.leads i = s.leads i := by
  funext w
  unfold State.leads
  rw [State.cycleCounted_win, Window.refill_eq]
  split <;> rfl

/-- The head of a PERIODIC window is marked. -/
theorem cycleStarted_slot_of_head {w : WinId} {i : SlotId} {x : Transfer} (periodic : (s.win w).isPeriodic = true)
    (head : s.headOf w = some (i, x)) : (cycleStarted s).slot i = some x.marked := by
  obtain ⟨first, slot⟩ := State.headOf_some head
  have leads : allWindows.any (s.leads i) = true :=
    List.any_eq_true.mpr ⟨w, mem_allWindows w, by simp [State.leads, periodic, first]⟩
  have counted : s.cycleCounted.slot i = some x := slot
  have marked : (headsMarked s.cycleCounted).slot i = some x.marked := by
    rw [headsMarked_slot, cycleCounted_leads, if_pos leads, counted, Option.map_some]
  rw [cycleStarted_eq]
  split <;> exact marked

variable (w : WinId)

/-- A late window counts LATE and has it pending; of the others nothing is counted or raised (R129). -/
theorem cycleStarted_late :
    ((cycleStarted s).win w).counters =
        (if s.isLate w = true then (s.win w).counters.grow .late 1 else (s.win w).counters) ∧
      ((cycleStarted s).win w).pending =
        (if s.isLate w = true then (s.win w).pending ||| WindowKind.late.bit else (s.win w).pending) := by
  rw [cycleStarted_win, s.isLate_eq, Window.refill_eq]
  cases s.lateNow w <;> exact ⟨rfl, rfl⟩

/-- The budget of a PERIODIC window is refilled (R125). -/
theorem cycleStarted_remaining {d : Definition} {b : Nat} (defn : (s.win w).defn = some d) (cls : d.cls = .periodic b) :
    ((cycleStarted s).win w).remaining = some b := by
  have budget : (s.win w).defn.bind (·.cls.budget) = some b := by rw [defn, Option.bind_some, cls]; rfl
  rw [cycleStarted_win, Window.refill_eq, budget]
  split <;> rfl

/-- Of a window record a cycle start writes the remaining budget, the counters and the pending set. -/
theorem cycleStarted_win_frame : (cycleStarted s).win w = { s.win w with
    remaining := ((cycleStarted s).win w).remaining
    counters := ((cycleStarted s).win w).counters
    pending := ((cycleStarted s).win w).pending } := by
  rw [cycleStarted_win, Window.refill_eq]
  split <;> rfl

end

/-! ### A cycle start, its timer having run on (O44) -/

section
variable (s : State) (n : Nat)

theorem elapse_headOf (w : WinId) : (s.elapse n).headOf w = s.headOf w := by
  unfold State.headOf
  rw [s.elapse_win n w]
  rfl

theorem elapse_isPeriodic (w : WinId) : ((s.elapse n).win w).isPeriodic = (s.win w).isPeriodic := by
  rw [s.elapse_win n w]
  rfl

/-- Time makes no window late. -/
theorem elapse_isLate (w : WinId) : (s.elapse n).isLate w = s.isLate w := by
  unfold State.isLate
  rw [elapse_headOf, elapse_isPeriodic]

variable {s}

/-- The cycle that starts when its timer reaches the cycle length, its CYCLE marker sent or pending (R124, R125). -/
theorem exec_cycleStart_of_timer {c : CycleTimer} (timer : s.arb.cycleTimer = some c) :
    exec .cycleStart s = .next (markerSent (cycleStarted (s.elapse (c.length - c.elapsed)))
      (.cycle (s.arb.cycleCount + 1))) := by
  change execCycleStart s = _
  unfold execCycleStart
  rw [timer]
  dsimp only
  rw [State.startCycle_eq, choose_of_pending (by rw [cycleStarted_frame])]
  rfl

end

/-- Settles O44: the cycle start as one state, and that state read block by block. -/
theorem cycleStarts : Obligations.CycleStarts := by
  intro s c timer b
  have arb : (cycleStarted b).arb = { b.arb with
      cycleCount := b.arb.cycleCount + 1, marker := some (.cycle (b.arb.cycleCount + 1))
      cycleTimer := some ⟨0, b.arb.cycleLength⟩ } := by rw [cycleStarted_frame]
  have starts := exec_cycleStart_of_timer timer
  have frame := markerSent_frame (cycleStarted b) (.cycle (s.arb.cycleCount + 1))
  have win := markerSent_win (cycleStarted b) (.cycle (s.arb.cycleCount + 1))
  refine ⟨starts, _, starts, ?_, ?_, fun free => ?_, fun sending => ?_, fun w d budget defn cls => ?_, fun w => ?_,
    fun w i x periodic head => ?_, fun w => ?_, ?_⟩
  · rw [frame, arb]; rfl
  · rw [frame, arb]; rfl
  · rw [markerSent_arb_of_free _ (by rw [arb]; exact free)]; exact ⟨rfl, rfl⟩
  · rw [markerSent_arb_of_sending _ (by rw [arb]; exact sending), arb]; exact ⟨rfl, rfl⟩
  · rw [win]
    refine cycleStarted_remaining b w (d := d) ?_ cls
    rw [s.elapse_win]; exact defn
  · obtain ⟨counters, pending⟩ := cycleStarted_late b w
    rw [elapse_isLate] at counters pending
    rw [win, counters, pending, s.elapse_win]
    exact ⟨rfl, rfl⟩
  · rw [markerSent_slot]
    exact cycleStarted_slot_of_head b (w := w) (by rw [elapse_isPeriodic]; exact periodic) (by rw [elapse_headOf]; exact head)
  · rw [win, cycleStarted_win_frame, s.elapse_win]
    exact ⟨rfl, rfl, rfl, rfl, rfl, rfl, rfl⟩
  · rw [frame, cycleStarted_frame]
    exact ⟨rfl, rfl, rfl, rfl, rfl⟩

/-! ### The other timers of the link (O45) -/

section
variable {s : State} {k : Nat}

theorem exec_keepAliveExpiry_of_timer (timer : s.arb.keepAliveTimer = some k) :
    let b := s.elapse (s.arb.keepAliveInterval * 1000 - k)
    exec .keepAliveExpiry s = .next (markerSent { b with arb := { b.arb with keepAliveTimer := none } } .idle) := by
  intro b
  have due : exec .keepAliveExpiry s = .next b.idleDue.choose := by
    change execKeepAliveExpiry s = _
    unfold execKeepAliveExpiry
    rw [timer]
  rw [due, choose_of_pending rfl]
  rfl

theorem exec_probeTimerExpiry_of_timer (timer : s.link.probeTimer = some k) :
    let b := s.elapse (1000 - k)
    exec .probeTimerExpiry s = .next (if b.link.recoveryDue then b else b.helloDue.choose) := by
  intro b
  change execProbeTimerExpiry s = _
  unfold execProbeTimerExpiry
  rw [timer]
  exact (apply_ite Host.Outcome.next _ _ _).symm

theorem helloDue_choose (b : State) :
    b.helloDue.choose = markerSent { b with link := { b.link with probeTimer := some 0 } } .hello :=
  choose_of_marker { b with link := { b.link with probeTimer := some 0 } } .hello

theorem exec_attachNoReply_of_probing (probing : s.link.state = .probing) (timer : s.link.recoveryTimer = some k) :
    let u := (s.elapse (s.link.recoveryLimit * 1000 - k)).toDetached
    exec .attachNoReply s = .next (if s.runsLong .attach then u.completeLong .failed .noReply else u) := by
  change execAttachNoReply s = _
  unfold execAttachNoReply
  rw [probing, timer]
  rfl

end

/-- Settles O45: what each expiry makes due, and the ATTACH that fails. -/
theorem linkTimersExpire : Obligations.LinkTimersExpire := by
  refine fun s => ⟨fun k => exec_keepAliveExpiry_of_timer, fun k timer => ⟨fun due => ?_, fun early => ?_⟩,
    fun k probing timer => ?_⟩
  · rw [exec_probeTimerExpiry_of_timer timer, if_pos due]
  · rw [exec_probeTimerExpiry_of_timer timer, if_neg (by simp [early]), helloDue_choose]
  · refine ⟨_, exec_attachNoReply_of_probing probing timer, ?_⟩
    by_cases runs : s.runsLong .attach = true
    · have running : (s.elapse (s.link.recoveryLimit * 1000 - k)).toDetached.cmd.long.state = .running :=
        runsLong_running s runs
      rw [if_pos runs, State.completeLong_running _ running]
      exact ⟨rfl, rfl, rfl, rfl, fun _ => ⟨rfl, rfl⟩, fun _ => rfl, rfl, rfl⟩
    · rw [if_neg runs]
      exact ⟨rfl, rfl, rfl, rfl, fun h => absurd h runs, fun _ => rfl, rfl, rfl⟩

/-! ### ATTACH and DETACH (O20) -/

section
variable {s : State} (ready : Ready s) (q : Byte)
include ready

theorem attach_refused (taken : s.link.state ≠ .detached) :
    exec (.attach q) s = .next (answered s ⟨q, 0x30, .refused, .refusal .linkState, []⟩) :=
  refused_of ready (j := judgeAttach q) (if_pos taken)

/-- ATTACH on a DETACHED link: PROBING, both timers started, the HELLO sent or pending, and ATTACH running (R136, R137). -/
theorem attach_pending (idle : s.link.state = .detached) :
    exec (.attach q) s = .next ((markerSent
      { s with link := { s.link with state := .probing, probeTimer := some 0, recoveryTimer := some 0 } } .hello).setCmd
        ⟨.idle, ⟨q, 0x30, .pending, .absent, []⟩, ⟨some .attach, q, none, .running, .none⟩⟩) := by
  have hello : s.takeAttach.choose = markerSent
      { s with link := { s.link with state := .probing, probeTimer := some 0, recoveryTimer := some 0 } } .hello :=
    helloDue_choose { s with link := { s.link with state := .probing, recoveryTimer := some 0 } }
  rw [← hello]
  refine pending_of ready (j := judgeAttach q) (t := s.takeAttach.choose) ?_ rfl
  have judged : judgeAttach q (s.setCmd { s.cmd with receiver := .idle }) =
      .pending (s.takeAttach.setCmd
        { s.cmd with receiver := .idle, long := ⟨some .attach, q, none, .running, .none⟩ }).choose :=
    if_neg (not_not.mpr idle)
  rw [judged, State.setCmd_choose]

theorem detach_refused_of_link (down : s.link.state = .detached ∨ s.link.state = .probing) :
    exec (.detach q) s = .next (answered s ⟨q, 0x31, .refused, .refusal .linkState, []⟩) :=
  refused_of ready (j := judgeDetach) (if_pos (by rcases down with h | h <;> simp [h]))

variable (up : s.link.state = .active ∨ s.link.state = .recovering)
include up

theorem detach_refused_of_claim (claim : s.noneClaims = false) :
    exec (.detach q) s = .next (answered s ⟨q, 0x31, .refused, .refusal .windowsClaiming, []⟩) := by
  have claim : (s.setCmd { s.cmd with receiver := .idle }).noneClaims = false := claim
  refine refused_of ready (j := judgeDetach) ?_
  unfold judgeDetach
  rw [if_neg (by rw [State.setCmd_link]; tauto), claim]
  rfl

theorem detach_done (free : s.noneClaims = true) :
    exec (.detach q) s = .next (State.raiseDevice (answered (detached s) ⟨q, 0x31, .done, .absent, []⟩) .linkDown) := by
  have free : (s.setCmd { s.cmd with receiver := .idle }).noneClaims = true := free
  refine done_of ready (j := judgeDetach) (t := (detached s).raiseDevice .linkDown) (p := []) ?_ rfl
  unfold judgeDetach
  rw [if_neg (by rw [State.setCmd_link]; tauto), free]
  rfl

end

/-- Settles O20: each command in the link states that take it and in those that refuse it. -/
theorem attachAndDetach : Obligations.AttachAndDetach := by
  intro s q ready
  refine ⟨fun taken => attach_refused ready q ?_, fun idle => ?_, detach_refused_of_link ready q, fun up =>
    ⟨fun claim => detach_refused_of_claim ready q up ?_, fun free => detach_done ready q up ?_⟩⟩
  · rcases taken with h | h <;> simp [h]
  · rw [attach_pending ready q idle]
    unfold markerSent
    dsimp only
    cases s.arb.transmitter <;> rfl
  · rw [← Bool.not_eq_true, noneClaims_iff]
    obtain ⟨w, h⟩ := claim
    exact fun none => by rw [none w] at h; cases h
  · exact noneClaims_iff.mpr free

end Sys2Proof.Proofs
end

section
/-! PROOF. The timers and the marker fit the link state and mode (R123, R124, R130, R137, R140, R147): what each operation
of the part keeps of this law. -/
namespace Sys2Proof.Safety
open Sys2Proof.Machine Sys2Proof.Proofs

/-! ### What the law reads -/

/-- The link state and mode, and which timers run. -/
def runningOf (s : State) : LinkState × LinkMode × Bool × Bool × Bool × Bool :=
  (s.link.state, s.arb.mode, s.arb.cycleTimer.isSome, s.arb.keepAliveTimer.isSome, s.link.probeTimer.isSome,
    s.link.recoveryTimer.isSome)

section
variable {s t : State}

/-- The same timers run in the same state and mode, and the marker is the one before or none. -/
theorem TimerLaw.of_running (h : TimerLaw s) (running : runningOf t = runningOf s)
    (marker : t.arb.marker = s.arb.marker ∨ t.arb.marker = none) : TimerLaw t := by
  simp only [runningOf, Prod.mk.injEq] at running
  obtain ⟨state, mode, cycle, keepAlive, probe, recovery⟩ := running
  obtain ⟨cycleRuns, keepAliveRuns, probeRuns, recoveryRuns, fits⟩ := h
  unfold TimerLaw
  rw [state, mode, cycle, keepAlive, probe, recovery]
  refine ⟨cycleRuns, keepAliveRuns, probeRuns, recoveryRuns, ?_⟩
  rcases marker with same | none
  · rw [same]; exact fits
  · rw [none]; rfl

/-- With the arbiter and the link as they were, the law is as it was. -/
theorem TimerLaw.of_same (h : TimerLaw s) (arb : t.arb = s.arb) (link : t.link = s.link) : TimerLaw t :=
  h.of_running (by unfold runningOf; rw [arb, link]) (.inl (by rw [arb]))

/-- On an ACTIVE link the timers of probing and recovery are stopped (R137, R147). -/
theorem TimerLaw.of_active (h : TimerLaw s) (active : s.link.state = .active) :
    s.link.probeTimer = none ∧ s.link.recoveryTimer = none := by
  obtain ⟨-, -, probe, recovery, -⟩ := h
  rw [active] at probe recovery
  exact ⟨Option.not_isSome_iff_eq_none.mp (by rw [probe]; decide), Option.not_isSome_iff_eq_none.mp (by rw [recovery]; decide)⟩

/-- A running keep-alive timer is that of an ACTIVE link in FREE mode (R130). -/
theorem TimerLaw.of_keepAlive (h : TimerLaw s) {k : Nat} (timer : s.arb.keepAliveTimer = some k) :
    s.link.state = .active ∧ s.arb.mode = .free := by
  obtain ⟨-, keepAlive, -⟩ := h
  exact keepAlive (by rw [timer]; rfl)

/-- A running cycle timer is that of an ACTIVE link in CYCLED mode (R124). -/
theorem TimerLaw.of_cycle (h : TimerLaw s) {c : CycleTimer} (timer : s.arb.cycleTimer = some c) :
    s.link.state = .active ∧ s.arb.mode = .cycled ∧ s.arb.keepAliveTimer = none := by
  obtain ⟨cycle, keepAlive, -⟩ := h
  rw [timer] at cycle
  obtain ⟨active, cycled⟩ : s.link.state = .active ∧ s.arb.mode = .cycled := by simpa using cycle.symm
  refine ⟨active, cycled, Option.eq_none_iff_forall_ne_some.mpr fun k runs => ?_⟩
  obtain ⟨-, free⟩ := keepAlive (by rw [runs]; rfl)
  rw [cycled] at free
  cases free

/-! ### Choices, time and attempts -/

theorem choose_marker (s : State) : s.choose.arb.marker = s.arb.marker ∨ s.choose.arb.marker = none := by
  cases tx : s.arb.transmitter with
  | some p => rw [choose_of_sending (by rw [tx]; rfl)]; exact .inl rfl
  | none =>
    rcases choose_of_free tx with ⟨m, h⟩ | ⟨w, e, he, h⟩ | ⟨h, -⟩ <;> rw [h]
    · exact .inr rfl
    · exact .inl (by simp [State.sendExchange, he])
    · exact .inl rfl

/-- A choice starts and stops no timer. -/
theorem TimerLaw.choose (h : TimerLaw s) : TimerLaw s.choose :=
  h.of_running (by unfold runningOf; rw [s.choose_arb]; simp) (choose_marker s)

/-- Timers that run on still run. -/
theorem TimerLaw.elapse (h : TimerLaw s) (n : Nat) : TimerLaw (s.elapse n) :=
  h.of_running (by simp [runningOf, State.elapse]) (.inl rfl)

theorem TimerLaw.offer (h : TimerLaw s) (w : WinId) : TimerLaw (s.offer w) :=
  h.of_same (s.offer_arb w) (s.offer_link w)

theorem TimerLaw.note (h : TimerLaw s) (k : ErrorKind) : TimerLaw (s.note k) := by cases k <;> exact h

theorem TimerLaw.attempt (h : TimerLaw s) : TimerLaw s.attempt := by
  rcases s.attempt_cases with ⟨-, e⟩ | ⟨p, -, ⟨k, e⟩ | ⟨r, e⟩ | e | ⟨w, i, -, e⟩⟩ <;> rw [e]
  · exact h
  · exact h.note k
  · exact h
  · exact h
  · rw [s.take_eq]
    have taken : TimerLaw (s.taken p.req w i) := h.of_same (by rw [s.taken_frame]) (by rw [s.taken_frame])
    exact (taken.offer w).choose

theorem TimerLaw.attemptSince (h : TimerLaw s) (old : State) : TimerLaw (s.attemptSince old) := by
  rcases s.attemptSince_cases old with e | e <;> rw [e]
  · exact h.attempt
  · exact h

theorem TimerLaw.settle (h : TimerLaw s) : TimerLaw s.settle := h.attempt.choose

theorem TimerLaw.attemptExpired (h : TimerLaw s) (p : Presented) (k : ErrorKind) : TimerLaw (s.attemptExpired p k) := by
  rcases s.attemptExpired_cases p k with ⟨-, e⟩ | ⟨-, e⟩ <;> rw [e]
  · exact h.note k
  · exact h

theorem TimerLaw.countExpiry (h : TimerLaw s) (r : BusRequest) : TimerLaw (s.countExpiry r) := by
  unfold State.countExpiry
  split
  · split
    · exact h
    · split <;> exact h
    · exact h
    · exact h
  · exact h
  · exact h
  · exact h

theorem TimerLaw.expireWait (h : TimerLaw s) (p : Presented) : TimerLaw (s.expireWait p) := by
  unfold State.expireWait
  refine TimerLaw.attemptExpired ?_ _ _
  exact h.countExpiry p.req

/-! ### Ends of transfers, halts and long commands -/

theorem TimerLaw.completeLong (h : TimerLaw s) (st : LongState) (d : LongDetail) : TimerLaw (s.completeLong st d) :=
  h.of_same (by rw [s.completeLong_frame]) (by rw [s.completeLong_frame])

theorem TimerLaw.completeDone (h : TimerLaw s) (c : LongCode) : TimerLaw (s.completeDone c) :=
  h.of_same (by rw [s.completeDone_frame]) (by rw [s.completeDone_frame])

theorem TimerLaw.haltWindow (h : TimerLaw s) (w : WinId) (c : FaultCause) (k : Option StrikeKind) (f : Option FarAddr) :
    TimerLaw (s.haltWindow w c k f) := h.of_same (s.haltWindow_arb w c k f) (s.haltWindow_link w c k f)

theorem TimerLaw.failExchange (h : TimerLaw s) (w : WinId) (x : Exchange) (c : FaultCause) (k : Option StrikeKind) :
    TimerLaw (s.failExchange w x c k) := by
  unfold State.failExchange
  split <;> exact h.haltWindow w _ _ _

theorem TimerLaw.headEnded (h : TimerLaw s) (w : WinId) (i : SlotId) (x : Transfer) (answers : List Answer) (bytes short : Nat)
    (kinds : WindowKinds) : TimerLaw (headEnded s w i x answers bytes short kinds) :=
  h.of_same (by rw [headEnded_frame]) (by rw [headEnded_frame])

theorem TimerLaw.packetSucceeds (h : TimerLaw s) (w : WinId) (len : Nat) : TimerLaw (s.packetSucceeds w len) := by
  cases head : s.headOf w with
  | none => rw [packetSucceeds_headless head]; exact h
  | some p =>
    obtain ⟨i, x⟩ := p
    by_cases all : x.bytesDone + len = x.size
    · obtain ⟨answers, ended⟩ := packetSucceeds_ended head all
      rw [ended]
      exact (h.headEnded ..).offer w
    · rw [packetSucceeds_part head all]
      refine TimerLaw.offer ?_ w
      exact h

theorem TimerLaw.placeRead (h : TimerLaw s) (w : WinId) (data : List Byte) : TimerLaw (s.placeRead w data) := by
  unfold State.placeRead
  split <;> exact h

theorem TimerLaw.endShort (h : TimerLaw s) (w : WinId) (received : Nat) : TimerLaw (s.endShort w received) := by
  cases head : s.headOf w with
  | none => rw [endShort_headless head]; exact h
  | some p =>
    obtain ⟨answers, kinds, ended⟩ := endShort_ended head received
    rw [ended]
    exact (h.headEnded ..).offer w

/-! ### Strikes and responses (R94 to R111) -/

theorem TimerLaw.strike (h : TimerLaw s) (w : WinId) (k : StrikeKind) : TimerLaw (s.strike w k) := by
  unfold State.strike
  split
  · dsimp only
    split
    · exact h
    · refine TimerLaw.failExchange ?_ w _ _ _
      exact h
  · exact h

theorem TimerLaw.syncAcknowledged (h : TimerLaw s) (w : WinId) : TimerLaw (s.syncAcknowledged w) := by
  unfold State.syncAcknowledged
  dsimp only
  split
  · exact TimerLaw.completeDone (s := s.modWin w _) h _
  · exact h

theorem TimerLaw.takeNak (h : TimerLaw s) (w : WinId) (x : Exchange) : TimerLaw (s.takeNak w x) := by
  unfold State.takeNak
  split
  · exact h
  · dsimp only
    split
    · refine TimerLaw.failExchange ?_ w _ _ _
      exact h
    · exact h

theorem TimerLaw.takeData (h : TimerLaw s) (w : WinId) (x : Exchange) (data : List Byte) :
    TimerLaw (s.takeData w x data) := by
  unfold State.takeData
  split
  · split
    · exact (h.placeRead w data).packetSucceeds w _
    · split
      · exact (h.placeRead w data).endShort w _
      · exact h.failExchange ..
  · exact h
  · exact h

theorem TimerLaw.takeResponse (h : TimerLaw s) (w : WinId) (x : Exchange) (r : Response) :
    TimerLaw (s.takeResponse w x r) := by
  cases r with
  | ack mark =>
    show TimerLaw (s.takeAck w x)
    unfold State.takeAck
    split
    · exact h.packetSucceeds w _
    · exact h.syncAcknowledged w
    · exact h
  | nak => exact h.takeNak w x
  | refuse => exact h.failExchange ..
  | data bytes => exact h.takeData w x bytes

theorem TimerLaw.receive (h : TimerLaw s) (f : BitVec 4) (bit : Bool) (r : Response) : TimerLaw (s.receive f bit r) := by
  have heard : TimerLaw s.goodPacket := h
  unfold State.receive
  dsimp only
  split
  · exact heard
  · exact ((heard.strike _ _).attemptSince _).choose
  · next w x _ =>
    have taken := (heard.takeResponse w x r).attemptSince s.goodPacket
    cases r with
    | ack mark => exact taken.choose
    | nak => exact taken
    | refuse => exact taken
    | data bytes => exact taken.choose

/-! ### The states of the link and what its traffic starts with -/

/-- On a DETACHED link no timer runs and no marker is pending (R123). -/
theorem timerLaw_toDetached (s : State) : TimerLaw s.toDetached := ⟨rfl, fun h => (by cases h), rfl, rfl, rfl⟩

/-- The loss of an ACTIVE link starts both timers of recovery, with a HELLO due, and stops the others (R144). -/
theorem timerLaw_enterRecovering (s : State) : TimerLaw s.enterRecovering := ⟨rfl, fun h => (by cases h), rfl, rfl, rfl⟩

/-- The taking of ATTACH leaves the timers as a lost link has them (R136, R137). -/
theorem TimerLaw.takeAttach (h : TimerLaw s) (idle : s.link.state = .detached) : TimerLaw s.takeAttach := by
  obtain ⟨cycle, keepAlive, -⟩ := h
  refine ⟨?_, fun runs => ?_, rfl, rfl, rfl⟩
  · rw [idle] at cycle
    exact cycle
  · obtain ⟨active, -⟩ := keepAlive runs
    rw [idle] at active
    cases active

/-- A HELLO falls due while a timer of probing or recovery runs (R137). -/
theorem TimerLaw.helloDue (h : TimerLaw s) {k : Nat} (timer : s.link.probeTimer = some k) : TimerLaw s.helloDue := by
  obtain ⟨cycle, keepAlive, probe, recovery, -⟩ := h
  rw [timer] at probe
  exact ⟨cycle, keepAlive, probe, recovery, probe.symm⟩

/-- An IDLE falls due when the keep-alive timer of an ACTIVE link in FREE mode ends (R130). -/
theorem TimerLaw.idleDue (h : TimerLaw s) {k : Nat} (timer : s.arb.keepAliveTimer = some k) : TimerLaw s.idleDue := by
  obtain ⟨active, free⟩ := h.of_keepAlive timer
  obtain ⟨cycle, -, probe, recovery, -⟩ := h
  refine ⟨cycle, fun h => (by cases h), probe, recovery, ?_⟩
  simp [State.idleDue, markerFits, active, free]

/-- A cycle that starts on an ACTIVE link in CYCLED mode runs its timer and has its marker pending (R124, R125). -/
theorem timerLaw_cycleStarted (active : s.link.state = .active) (cycled : s.arb.mode = .cycled)
    (keepAlive : s.arb.keepAliveTimer = none) (stopped : s.link.probeTimer = none ∧ s.link.recoveryTimer = none) :
    TimerLaw (cycleStarted s) := by
  unfold TimerLaw
  rw [cycleStarted_frame]
  simp [markerFits, active, cycled, keepAlive, stopped]

/-- The traffic of a link that has just become ACTIVE (R123, R124, R130). -/
theorem timerLaw_startTraffic {u : State} {c l : Nat} (arb : u.arb = (s.toActive c l).arb)
    (link : u.link = (s.toActive c l).link) : TimerLaw u.startTraffic := by
  cases mode : u.arb.mode with
  | cycled =>
    rw [u.startTraffic_cycled mode]
    exact timerLaw_cycleStarted (by rw [link]; rfl) mode (by rw [arb]; rfl) (by rw [link]; exact ⟨rfl, rfl⟩)
  | free =>
    rw [u.startTraffic_free mode]
    have stopped : u.arb.cycleTimer = none ∧ u.arb.marker = none := by rw [arb]; exact ⟨rfl, rfl⟩
    have up : u.link.state = .active ∧ u.link.probeTimer = none ∧ u.link.recoveryTimer = none := by
      rw [link]; exact ⟨rfl, rfl, rfl⟩
    simp [TimerLaw, stopped, up, mode, markerFits]

theorem recoveryCheck_arb (s : State) (fresh : Bool) : (s.recoveryCheck fresh).arb = s.arb := by
  rw [recoveryCheck_eq, rangeHalts, State.haltEach_arb, freshHalts, State.haltEach_arb]

theorem TimerLaw.markNewHeads (h : TimerLaw s) : TimerLaw s.markNewHeads := by
  rcases s.markNewHeads_cases with ⟨-, e⟩ | ⟨-, e⟩ <;> rw [e]
  · exact h.of_same (by rw [s.markHeads_frame]) (by rw [s.markHeads_frame])
  · exact h

/-- The end of a probe, whatever the timers were before it (R139). -/
theorem timerLaw_attached (s : State) (c l : Nat) : TimerLaw (s.attached c l) := by
  have begun : s.attached c l = ((cameUp s c l).completeDone .attach).startTraffic.choose := rfl
  rw [begun]
  refine (timerLaw_startTraffic (s := s) (c := c) (l := l) ?_ ?_).choose <;> rw [State.completeDone_frame] <;> rfl

/-- A recovery, whatever the timers were before it (R145). -/
theorem timerLaw_recovered (s : State) (c l : Nat) (fresh : Bool) : TimerLaw (s.recovered c l fresh) := by
  rw [recovered_def]
  refine ((timerLaw_startTraffic (s := s) (c := c) (l := l) ?_ ?_).attemptSince s).markNewHeads.choose
  · rw [recoveryCheck_arb]; rfl
  · rw [recoveryCheck_link]; rfl

theorem TimerLaw.countTimeout (h : TimerLaw s) : TimerLaw s.countTimeout := by
  unfold State.countTimeout
  split
  · dsimp only
    split
    · exact timerLaw_enterRecovering _
    · exact h
  · exact h

theorem timerLaw_giveUpRecovery (s : State) : TimerLaw s.giveUpRecovery :=
  (timerLaw_toDetached s).of_same (haltAllLive_arb _ _) (haltAllLive_link _ _)

theorem TimerLaw.endProbe (h : TimerLaw s) : TimerLaw s.endProbe := by
  unfold State.endProbe
  split
  · exact timerLaw_toDetached s
  · exact h

/-! ### Changes of the link mode (R131, R132) -/

/-- On a link that is not ACTIVE a pending marker is a HELLO, which fits either mode (R123). -/
theorem markerFits_of_not_active {l : LinkState} {m : LinkMode} {x : Option Marker} (down : l ≠ .active)
    (fits : markerFits l m x = true) (n : LinkMode) : markerFits l n x = true := by
  cases x with
  | none => rfl
  | some x =>
    cases x with
    | hello => exact fits
    | cycle c => simp [markerFits, down] at fits
    | idle => simp [markerFits, down] at fits

/-- With a pending CYCLE dropped, a marker that fits a mode fits FREE (R132). -/
theorem markerFits_dropCycle {l : LinkState} {m : LinkMode} {x : Option Marker} (fits : markerFits l m x = true) :
    markerFits l .free (dropCycle x) = true := by
  cases x with
  | none => rfl
  | some x =>
    cases x with
    | hello => exact fits
    | cycle c => rfl
    | idle =>
      have active : l = .active ∧ m = .free := by simpa [markerFits] using fits
      simp [markerFits, dropCycle, active]

theorem TimerLaw.toCycled (h : TimerLaw s) : TimerLaw s.toCycled := by
  by_cases active : s.link.state = .active
  · rw [toCycled_of_active active]
    exact timerLaw_cycleStarted active rfl rfl (h.of_active active)
  · rw [toCycled_of_idle active]
    have down : (s.link.state == .active) = false := beq_eq_false_iff_ne.mpr active
    obtain ⟨cycle, keepAlive, probe, recovery, marker⟩ := h
    refine ⟨?_, fun runs => absurd (keepAlive runs).1 active, probe, recovery, markerFits_of_not_active active marker _⟩
    rw [down] at cycle ⊢
    exact cycle

theorem TimerLaw.toFree (h : TimerLaw s) : TimerLaw s.toFree := by
  rw [toFree_eq]
  obtain ⟨-, keepAlive, probe, recovery, marker⟩ := h
  refine ⟨by simp, fun runs => ⟨?_, rfl⟩, probe, recovery, markerFits_dropCycle marker⟩
  by_contra down
  rw [if_neg down] at runs
  exact down (keepAlive runs).1

end
end Sys2Proof.Safety
end

section
/-! PROOF. Every command keeps the law of the timers and the marker (`exec_timers`), and so does every step: obligation
O60. -/
namespace Sys2Proof.Safety
open Sys2Proof.Machine Sys2Proof.Proofs

/-! ### Judged frames -/

/-- What a frame that is taken leaves has the law. -/
def TimersLeft : Judged → Prop
  | .refuse _ => True
  | .done t _ => TimerLaw t
  | .pending t => TimerLaw t

theorem TimersLeft.onWindow {b : Byte} {judge : WinId → Judged} (h : ∀ w, TimersLeft (judge w)) :
    TimersLeft (onWindow b judge) := by
  unfold Machine.onWindow
  split
  · trivial
  · exact h _

theorem TimersLeft.onTarget {b : Byte} {judge : Target → Judged} (h : ∀ t, TimersLeft (judge t)) :
    TimersLeft (onTarget b judge) := by
  unfold Machine.onTarget
  split
  · trivial
  · exact h _

section
variable {s : State} (h : TimerLaw s)
include h

theorem TimerLaw.command (q c : Byte) {judge : State → Judged} (left : ∀ u, TimerLaw u → TimersLeft (judge u)) :
    TimerLaw (s.command q c judge) := by
  have ended : TimerLaw s.endTransaction := h
  have left := left s.endTransaction ended
  show TimerLaw (s.endTransaction.conclude q c (judge s.endTransaction))
  cases judged : judge s.endTransaction with
  | refuse r => exact ended
  | done t p => rw [judged] at left; exact left
  | pending t => rw [judged] at left; exact left

theorem TimerLaw.commandUnlessBusy (q c : Byte) {judge : State → Judged} (left : ∀ u, TimerLaw u → TimersLeft (judge u)) :
    TimerLaw (s.commandUnlessBusy q c judge) := by
  unfold State.commandUnlessBusy
  split
  · exact h
  · exact h.command q c left

/-! ### The window commands -/

/-- A window record changed, and the attempt that it causes. -/
theorem TimerLaw.modWin_attempt (w : WinId) (f : Window → Window) : TimerLaw (s.modWin w f).attempt :=
  TimerLaw.attempt (s := s.modWin w f) h

theorem TimerLaw.enter_liftHold (w : WinId) (st : WindowState) (held : Bool) :
    TimerLaw ((s.enter w st).liftHold w held) := by
  have entered : TimerLaw (s.enter w st) := h
  unfold State.liftHold
  split
  · exact (entered.offer w).settle
  · exact entered.attempt

theorem TimerLaw.closeNow_attempt (w : WinId) : TimerLaw (s.closeNow w).attempt :=
  TimerLaw.attempt (s := s.closeNow w) h

theorem timers_define (b : Byte) (p : DefineParams) : TimersLeft (judgeDefine b p s) := by
  refine .onWindow fun w => ?_
  split
  · trivial
  · dsimp only
    split
    · trivial
    · split
      · trivial
      · show TimerLaw (ite _ _ _)
        split
        · exact h.modWin_attempt w _
        · exact h

theorem timers_undefine (b : Byte) : TimersLeft (judgeUndefine b s) := by
  refine .onWindow fun w => ?_
  split
  · trivial
  · exact h.modWin_attempt w _

theorem timers_layout (n : Vector Byte 12) : TimersLeft (judgeLayout n s) := by
  unfold judgeLayout
  split
  · trivial
  · split
    · trivial
    · split
      · trivial
      · exact h

/-- The mode that OPEN of a PERIODIC window changes to has its cycle start (R131). -/
theorem TimerLaw.takeOpen (w : WinId) : TimerLaw (s.takeOpen w) := by
  unfold State.takeOpen
  dsimp only
  generalize synced : (s.modWin w fun x => { x with state := .syncing, fault := none, exchange := some (.new .sync) }) = u
  have law : TimerLaw u := by rw [← synced]; exact h
  split
  · exact law.toCycled
  · exact law

theorem timers_open (q b : Byte) : TimersLeft (judgeOpen q b s) := by
  refine .onWindow fun w => ?_
  split
  · trivial
  · exact TimerLaw.settle (s := (s.takeOpen w).startLong .openWindow q (some w)) (h.takeOpen w)

theorem timers_hold (b : Byte) : TimersLeft (judgeHold b s) := by
  refine .onWindow fun w => ?_
  split
  · trivial
  · exact h.modWin_attempt w _

theorem timers_release (b : Byte) : TimersLeft (judgeRelease b s) := by
  refine .onWindow fun w => ?_
  split
  · trivial
  · exact h.enter_liftHold w _ _

theorem timers_fence (b : Byte) : TimersLeft (judgeFence b s) := by
  refine .onWindow fun w => ?_
  dsimp only
  split
  · trivial
  · exact h.enter_liftHold w _ _

theorem timers_unfence (b : Byte) : TimersLeft (judgeUnfence b s) := by
  refine .onWindow fun w => ?_
  split
  · trivial
  · exact h.modWin_attempt w _

/-- CLOSE of a window in service (R18). -/
theorem timers_closeInService (w : WinId) :
    TimersLeft (if (s.win w).queue.isEmpty then .done (s.closeNow w).attempt []
      else .done ((s.enter w .closing).liftHold w ((s.win w).state = .held)) []) := by
  split
  · exact h.closeNow_attempt w
  · exact h.enter_liftHold w _ _

theorem timers_close (b : Byte) : TimersLeft (judgeClose b s) := by
  refine .onWindow fun w => ?_
  dsimp only
  split
  · exact timers_closeInService h w
  · exact timers_closeInService h w
  · exact timers_closeInService h w
  · exact h.closeNow_attempt w
  all_goals trivial

theorem timers_flush (q b : Byte) : TimersLeft (judgeFlush q b s) := by
  refine .onWindow fun w => ?_
  dsimp only
  split
  · trivial
  · split <;> exact h

theorem timers_readWindow (b : Byte) : TimersLeft (judgeReadWindow b s) := by
  refine .onWindow fun w => ?_
  show TimerLaw (ite _ _ _)
  split <;> exact h

/-! ### The event unit -/

theorem timers_clearCounters (b : Byte) : TimersLeft (judgeClearCounters b s) := by
  refine .onTarget fun t => ?_
  cases t <;> exact h

theorem timers_setMasks (wm : Byte) (dm : BitVec 16) : TimersLeft (judgeSetMasks wm dm s) := by
  unfold judgeSetMasks
  split
  · exact h
  · trivial

theorem timers_ackEvents (b : Byte) (k : BitVec 16) : TimersLeft (judgeAckEvents b k s) := by
  refine .onTarget fun t => ?_
  cases t with
  | window w =>
    dsimp only
    split
    · exact h
    · trivial
  | device =>
    dsimp only
    split
    · exact h
    · trivial

/-! ### The link commands -/

theorem timers_attach (q : Byte) : TimersLeft (judgeAttach q s) := by
  unfold judgeAttach
  split
  · trivial
  · next idle =>
    exact TimerLaw.choose (s := s.takeAttach.startLong .attach q none) (h.takeAttach (not_not.mp idle))

omit h in
theorem timers_detach (s : State) : TimersLeft (judgeDetach s) := by
  unfold judgeDetach
  split
  · trivial
  · split
    · trivial
    · exact timerLaw_toDetached s

theorem TimerLaw.setMode (m : LinkMode) : TimerLaw (s.setMode m) := by
  unfold State.setMode
  split
  · exact h
  · cases m with
    | cycled =>
      dsimp only
      split
      · exact h.toCycled.choose
      · exact h.toCycled
    | free => exact h.toFree

theorem TimerLaw.keepAliveChanged (old : Nat) : TimerLaw (s.keepAliveChanged old) := by
  unfold State.keepAliveChanged
  split
  · exact h
  · split
    · next k timer =>
      split
      · exact (h.idleDue timer).choose
      · exact h
    · exact h

theorem TimerLaw.recoveryLimitChanged (old : Nat) : TimerLaw (s.recoveryLimitChanged old) := by
  unfold State.recoveryLimitChanged
  split
  · exact h
  · split
    · split
      · exact (timerLaw_giveUpRecovery s).attemptSince s
      · exact h
    · exact h

theorem TimerLaw.waitLimitChanged (old : Nat) : TimerLaw (s.waitLimitChanged old) := by
  unfold State.waitLimitChanged
  split
  · exact h
  · split
    · exact h
    · split
      · exact h.expireWait _
      · exact h.attempt

theorem timers_setLink (p : LinkParams) : TimersLeft (judgeSetLink p s) := by
  unfold judgeSetLink
  split
  · trivial
  · next l _ =>
    split
    · trivial
    · have written : TimerLaw (s.writeSettings l) := h
      exact (((written.setMode _).keepAliveChanged _).recoveryLimitChanged _).waitLimitChanged _

/-! ### ABORT and the resets -/

theorem TimerLaw.unmarkFlush (w : WinId) : TimerLaw (s.unmarkFlush w) :=
  foldl_invariant TimerLaw (fun u i => u.modSlot i fun t => { t with flushMark := false }) (fun _ _ k => k) _ s h

theorem TimerLaw.abortOwner : TimerLaw s.abortOwner := by
  unfold State.abortOwner
  split
  · split
    · exact h.haltWindow ..
    · exact h
  · exact h.endProbe
  · exact h.unmarkFlush _
  · exact h

theorem timers_abort : TimersLeft (judgeAbort s) := by
  unfold judgeAbort
  split
  · trivial
  · exact (h.completeLong .aborted .abort).abortOwner.attemptSince s

/-- An aborted ATTACH takes the link out of PROBING, and else the reset keeps the timers (R23, R162). -/
theorem TimerLaw.resetWindows : TimerLaw s.resetWindows := by
  have probeless : TimerLaw (probeEnded s) := by
    unfold probeEnded
    split
    · exact timerLaw_toDetached s
    · exact h
  rw [resetWindows_eq]
  refine TimerLaw.attemptSince ?_ s
  exact probeless

omit h in
/-- The link block reset leaves a DETACHED link, whatever the timers were before it (R149). -/
theorem timerLaw_resetLink (s : State) : TimerLaw s.resetLink := by
  have cleared : TimerLaw { detached s with arb := { (detached s).arb with cycleCount := 0 } } := timerLaw_toDetached s
  exact cleared.of_same (resetLink_arb s) (resetLink_link s)

omit h in
/-- A reset arbiter on a reset link has no timer running and no marker pending (R134, R150). -/
theorem timerLaw_of_reset {t : State} (arb : t.arb = .reset)
    (link : t.link.state = .detached ∧ t.link.probeTimer = none ∧ t.link.recoveryTimer = none) : TimerLaw t := by
  simp [TimerLaw, arb, link, Arbiter.reset, markerFits]

theorem timers_reset (own target : Byte) {effect : State → State} (left : TimerLaw s → TimerLaw (effect s)) :
    TimersLeft (judgeReset own target effect s) := by
  unfold judgeReset
  split
  · exact left h
  · trivial

/-! ### The bus and the link -/

theorem timers_requestPresented (r : BusRequest) : ∃ t, execRequestPresented r s = .next t ∧ TimerLaw t := by
  unfold execRequestPresented
  split
  · exact ⟨s, rfl, h⟩
  · exact ⟨_, rfl, TimerLaw.attempt (s := s.setPresented (some _)) h⟩

theorem timers_waitLimitExpiry : ∃ t, execWaitLimitExpiry s = .next t ∧ TimerLaw t := by
  unfold execWaitLimitExpiry
  split
  · exact ⟨s, rfl, h⟩
  · split
    · exact ⟨s, rfl, h⟩
    · exact ⟨_, rfl, (h.elapse _).expireWait _⟩

theorem timers_downstreamResponse (g : Tag) (ok : Bool) (data : List Byte) :
    ∃ t, execDownstreamResponse g ok data s = .next t ∧ TimerLaw t := by
  unfold execDownstreamResponse
  split
  · refine ⟨_, rfl, TimerLaw.attempt ?_⟩
    exact h
  · exact ⟨s, rfl, h⟩

theorem timers_helloReply (c : BitVec 32) (l : BitVec 16) (fresh : Bool) :
    ∃ t, execHelloReplyReceived c l fresh s = .next t ∧ TimerLaw t := by
  have stray : TimerLaw s.goodPacket.stray := h
  unfold execHelloReplyReceived
  dsimp only
  split
  · split
    · exact ⟨_, rfl, timerLaw_attached ..⟩
    · exact ⟨_, rfl, timerLaw_recovered ..⟩
    · exact ⟨_, rfl, stray⟩
    · exact ⟨_, rfl, stray⟩
  · exact ⟨_, rfl, stray⟩

theorem timers_badCheckPacket : ∃ t, execBadCheckPacket s = .next t ∧ TimerLaw t := by
  unfold execBadCheckPacket
  split
  · exact ⟨_, rfl, ((h.strike _ _).attemptSince s).choose⟩
  · exact ⟨_, rfl, h⟩

theorem timers_lossOfSignal : ∃ t, execLossOfSignal s = .next t ∧ TimerLaw t := by
  unfold execLossOfSignal
  dsimp only
  split
  · exact ⟨_, rfl, (timerLaw_enterRecovering _).choose⟩
  · exact ⟨_, rfl, h⟩

/-! ### The timers and the transmitter -/

theorem timers_responseLimitExpiry (w : WinId) : ∃ t, execResponseLimitExpiry w s = .next t ∧ TimerLaw t := by
  unfold execResponseLimitExpiry
  split
  · exact ⟨s, rfl, h⟩
  · split
    · next e l st _ =>
      have counted : TimerLaw ((s.elapse (l - e)).countDevice .linkTimeouts 1) := h.elapse (l - e)
      exact ⟨_, rfl, ((counted.strike w .timeout).countTimeout.attemptSince _).choose⟩
    · exact ⟨s, rfl, h⟩
    · exact ⟨s, rfl, h⟩
    · exact ⟨s, rfl, h⟩

theorem timers_nakIntervalEnd (w : WinId) : ∃ t, execNakIntervalEnd w s = .next t ∧ TimerLaw t := by
  unfold execNakIntervalEnd
  split
  · exact ⟨s, rfl, h⟩
  · split
    · refine ⟨_, rfl, TimerLaw.choose ?_⟩
      exact h.elapse _
    · exact ⟨s, rfl, h⟩
    · exact ⟨s, rfl, h⟩
    · exact ⟨s, rfl, h⟩

theorem TimerLaw.startAwaiting (w : WinId) : TimerLaw (s.startAwaiting w) := by
  unfold State.startAwaiting
  split
  · split <;> exact h
  · exact h

/-- The keep-alive timer that starts again after a packet is that of an ACTIVE link in FREE mode (R130). -/
theorem TimerLaw.packetLeft (p : Packet) : TimerLaw (packetLeft s p) := by
  obtain ⟨cycle, keepAlive, probe, recovery, marker⟩ := h
  refine ⟨cycle, fun runs => ?_, probe, recovery, marker⟩
  by_contra other
  have other : ¬(s.link.state = .active ∧ s.arb.mode = .free) := other
  have runs : (if s.link.state = .active ∧ s.arb.mode = .free then some 0 else s.arb.keepAliveTimer).isSome = true := runs
  rw [if_neg other] at runs
  exact other (keepAlive runs)

theorem timers_transmissionEnd : ∃ t, exec .transmissionEnd s = .next t ∧ TimerLaw t := by
  cases packet : s.arb.transmitter with
  | none => exact ⟨s, by change execTransmissionEnd s = _; unfold execTransmissionEnd; rw [packet], h⟩
  | some p =>
    refine ⟨_, execTransmissionEnd_of_packet packet, TimerLaw.choose ?_⟩
    cases p.window with
    | none => exact h.packetLeft p
    | some w => exact (h.packetLeft p).startAwaiting w

theorem timers_cycleStart : ∃ t, execCycleStart s = .next t ∧ TimerLaw t := by
  unfold execCycleStart
  split
  · exact ⟨s, rfl, h⟩
  · next c timer =>
    obtain ⟨active, cycled, keepAlive⟩ := h.of_cycle timer
    have passed := h.elapse (c.length - c.elapsed)
    refine ⟨_, rfl, TimerLaw.choose ?_⟩
    rw [State.startCycle_eq]
    exact timerLaw_cycleStarted active cycled (by simp [State.elapse, keepAlive]) (passed.of_active active)

theorem timers_keepAliveExpiry : ∃ t, execKeepAliveExpiry s = .next t ∧ TimerLaw t := by
  unfold execKeepAliveExpiry
  split
  · exact ⟨s, rfl, h⟩
  · next k timer =>
    have running : ∀ n, (s.elapse n).arb.keepAliveTimer = some (runTimer n (s.arb.keepAliveInterval * 1000) k) := fun n => by
      simp [State.elapse, timer]
    exact ⟨_, rfl, ((h.elapse _).idleDue (running _)).choose⟩

theorem timers_probeTimerExpiry : ∃ t, execProbeTimerExpiry s = .next t ∧ TimerLaw t := by
  unfold execProbeTimerExpiry
  split
  · exact ⟨s, rfl, h⟩
  · next k timer =>
    have running : ∀ n, (s.elapse n).link.probeTimer = some (runTimer n Config.probeInterval k) := fun n => by
      simp [State.elapse, timer]
    dsimp only
    split
    · exact ⟨_, rfl, h.elapse _⟩
    · exact ⟨_, rfl, ((h.elapse _).helloDue (running _)).choose⟩

theorem timers_attachNoReply : ∃ t, execAttachNoReply s = .next t ∧ TimerLaw t := by
  unfold execAttachNoReply
  split
  · dsimp only
    refine ⟨_, rfl, ?_⟩
    split
    · exact (timerLaw_toDetached _).completeLong _ _
    · exact timerLaw_toDetached _
  · exact ⟨s, rfl, h⟩

theorem timers_recoveryLimitExpiry : ∃ t, execRecoveryLimitExpiry s = .next t ∧ TimerLaw t := by
  unfold execRecoveryLimitExpiry
  split
  · exact ⟨_, rfl, (timerLaw_giveUpRecovery _).attemptSince s⟩
  · exact ⟨s, rfl, h⟩

/-! ### Every command and every step -/

theorem exec_timers (c : Instr) : ∃ t, exec c s = .next t ∧ TimerLaw t := by
  cases c with
  | pinReset => exact ⟨_, rfl, timerLaw_of_reset rfl ⟨rfl, rfl, rfl⟩⟩
  | getStatus q => exact ⟨_, rfl, h.command q _ fun _ k => k⟩
  | define q w p => exact ⟨_, rfl, h.commandUnlessBusy q _ fun _ k => timers_define k w p⟩
  | undefine q w => exact ⟨_, rfl, h.commandUnlessBusy q _ fun _ k => timers_undefine k w⟩
  | layout q n => exact ⟨_, rfl, h.commandUnlessBusy q _ fun _ k => timers_layout k n⟩
  | openWindow q w => exact ⟨_, rfl, h.commandUnlessBusy q _ fun _ k => timers_open k q w⟩
  | hold q w => exact ⟨_, rfl, h.commandUnlessBusy q _ fun _ k => timers_hold k w⟩
  | release q w => exact ⟨_, rfl, h.commandUnlessBusy q _ fun _ k => timers_release k w⟩
  | fence q w => exact ⟨_, rfl, h.commandUnlessBusy q _ fun _ k => timers_fence k w⟩
  | unfence q w => exact ⟨_, rfl, h.commandUnlessBusy q _ fun _ k => timers_unfence k w⟩
  | close q w => exact ⟨_, rfl, h.commandUnlessBusy q _ fun _ k => timers_close k w⟩
  | flush q w => exact ⟨_, rfl, h.commandUnlessBusy q _ fun _ k => timers_flush k q w⟩
  | readWindow q w => exact ⟨_, rfl, h.commandUnlessBusy q _ fun _ k => timers_readWindow k w⟩
  | readFault q w => exact ⟨_, rfl, h.commandUnlessBusy q _ fun _ k => .onWindow fun _ => k⟩
  | readCounters q b => exact ⟨_, rfl, h.commandUnlessBusy q _ fun _ k => .onTarget fun _ => k⟩
  | clearCounters q b => exact ⟨_, rfl, h.commandUnlessBusy q _ fun _ k => timers_clearCounters k b⟩
  | attach q => exact ⟨_, rfl, h.commandUnlessBusy q _ fun _ k => timers_attach k q⟩
  | detach q => exact ⟨_, rfl, h.commandUnlessBusy q _ fun u _ => timers_detach u⟩
  | setLink q p => exact ⟨_, rfl, h.commandUnlessBusy q _ fun _ k => timers_setLink k p⟩
  | setMasks q wm dm => exact ⟨_, rfl, h.commandUnlessBusy q _ fun _ k => timers_setMasks k wm dm⟩
  | readEvents q => exact ⟨_, rfl, h.commandUnlessBusy q _ fun _ k => k⟩
  | ackEvents q b kinds => exact ⟨_, rfl, h.commandUnlessBusy q _ fun _ k => timers_ackEvents k b kinds⟩
  | abort q => exact ⟨_, rfl, h.command q _ fun _ k => timers_abort k⟩
  | resetBlockWindows q b => exact ⟨_, rfl, h.command q _ fun _ k => timers_reset k 1 b TimerLaw.resetWindows⟩
  | resetBlockLink q b => exact ⟨_, rfl, h.command q _ fun u k => timers_reset k 2 b fun _ => timerLaw_resetLink u⟩
  | resetBlockAll q b =>
    exact ⟨_, rfl, h.command q _ fun _ k => timers_reset k 3 b fun _ => timerLaw_of_reset rfl ⟨rfl, rfl, rfl⟩⟩
  | frameError q b d => exact ⟨_, rfl, h⟩
  | frameDiscarded => exact ⟨_, rfl, h⟩
  | requestPresented r => exact timers_requestPresented h r
  | acceptanceAttempt => exact ⟨_, rfl, h.attempt⟩
  | waitLimitExpiry => exact timers_waitLimitExpiry h
  | downstreamResponse g ok data => exact timers_downstreamResponse h g ok data
  | ackReceived f b m => exact ⟨_, rfl, h.receive f b _⟩
  | nakReceived f b => exact ⟨_, rfl, h.receive f b _⟩
  | refuseReceived f b => exact ⟨_, rfl, h.receive f b _⟩
  | dataReceived f b data => exact ⟨_, rfl, h.receive f b _⟩
  | helloReplyReceived c l fresh => exact timers_helloReply h c l fresh
  | badCheckPacket => exact timers_badCheckPacket h
  | otherInboundPacket ty => exact ⟨_, rfl, h⟩
  | responseLimitExpiry w => exact timers_responseLimitExpiry h w
  | nakIntervalEnd w => exact timers_nakIntervalEnd h w
  | transmissionEnd => exact timers_transmissionEnd h
  | cycleStart => exact timers_cycleStart h
  | keepAliveExpiry => exact timers_keepAliveExpiry h
  | probeTimerExpiry => exact timers_probeTimerExpiry h
  | attachNoReply => exact timers_attachNoReply h
  | recoveryLimitExpiry => exact timers_recoveryLimitExpiry h
  | lossOfSignal => exact timers_lossOfSignal h
  | signalPresent => exact ⟨_, rfl, h⟩
  | chipSelectFalls => exact ⟨_, rfl, h⟩
  | resultTransaction n => exact ⟨_, rfl, h⟩

/-- Every step keeps the law. -/
theorem TimerLaw.step {t : State} (stepped : step s = .next t) : TimerLaw t := by
  unfold Machine.step at stepped
  split at stepped
  · obtain rfl := Host.Outcome.next.inj stepped
    exact h.elapse 1
  · next c rest _ =>
    have waiting : TimerLaw { s with pending := rest } := h
    obtain ⟨u, hu, law⟩ := exec_timers waiting c
    obtain rfl : u = t := Host.Outcome.next.inj (hu.symm.trans stepped)
    exact law

end

end Sys2Proof.Safety

namespace Sys2Proof.Proofs
open Sys2Proof.Safety

/-- Settles O60: time lets every timer run on, and every command keeps the law. -/
theorem timersFitTheLinkState : Obligations.TimersFitTheLinkState := fun _ _ h stepped => h.step stepped

end Sys2Proof.Proofs
end

section
/-! PROOF. The signal reports and the loss of an ACTIVE link (R143, R144): obligation O48. -/
namespace Sys2Proof.Proofs
open Sys2Proof.Machine Sys2Proof.Safety

/-- The part after LOSS_OF_SIGNAL has set the condition, before it looks at the link state (R143). -/
def signalLost (s : State) : State := { s with link := { s.link with signalPresent := false } }

theorem exec_lossOfSignal_of_idle {s : State} (idle : s.link.state ≠ .active) :
    exec .lossOfSignal s = .next (signalLost s) := if_neg idle

/-- An ACTIVE link is lost, and its pending HELLO is the arbiter's choice (R122, R144). -/
theorem exec_lossOfSignal_of_active {s : State} (active : s.link.state = .active) :
    exec .lossOfSignal s = .next (markerSent (linkLost (signalLost s)) .hello) := by
  have lost : exec .lossOfSignal s = .next (signalLost s).enterRecovering.choose := if_pos active
  rw [lost, enterRecovering_eq, choose_of_pending (m := .hello) rfl]

/-- A marker is sent on a FREE transmitter and pending behind a SENDING one (R121, R122). -/
theorem markerSent_arb (s : State) (m : Marker) :
    (markerSent s m).arb = { s.arb with
      marker := if s.arb.transmitter = none then none else some m
      transmitter := if s.arb.transmitter = none then some m.packet else s.arb.transmitter } := by
  cases tx : s.arb.transmitter with
  | none => simp [markerSent_arb_of_free m tx]
  | some p => simp [markerSent_arb_of_sending m (by rw [tx]; rfl), tx]

/-- Settles O48: outside ACTIVE only the condition changes; in ACTIVE the link is lost and the HELLO is sent or pending,
which touches only the marker and the transmitter. -/
theorem signalReports : Obligations.SignalReports := by
  intro s
  refine ⟨rfl, exec_lossOfSignal_of_idle, fun active => ⟨_, exec_lossOfSignal_of_active active, ?_⟩⟩
  have win : ∀ w, (markerSent (linkLost (signalLost s)) .hello).win w =
      { s.win w with exchange := (s.win w).exchange.map Exchange.rewind } := fun w => by
    rw [markerSent_win, linkLost_win]; rfl
  rw [funext Exchange.rewind_eq] at win
  refine ⟨?_, win, markerSent_arb (linkLost (signalLost s)) .hello, ?_, ?_, ?_, ?_, ?_, ?_, ?_, ?_⟩ <;>
    (rw [markerSent_frame]; rfl)

end Sys2Proof.Proofs
end

section
/-! PROOF. The management port (R155 to R159): which frames a running long command bars, how the bytes of a frame are judged,
and the frames read back from their bytes: obligations O5, O6 and O7. -/
namespace Sys2Proof.Proofs
open Sys2Proof.Machine Sys2Proof.Safety

/-! ### Which frames a long command bars (O5) -/

/-- GET-STATUS, ABORT and RESET-BLOCK are judged by their own rule at once, and every other frame only where no long
command runs (R158, R159). -/
theorem exec_of_frameCode (s : State) {c : Instr} {code : Byte} (carried : c.frameCode = some code) :
    (code ∈ [0x01, 0x50, 0x51] ∧ ∃ judge, exec c s = .next (s.command c.frameSeq code judge)) ∨
      (code ∉ [0x01, 0x50, 0x51] ∧ ∃ judge, exec c s = .next (s.commandUnlessBusy c.frameSeq code judge)) := by
  cases c with
  | getStatus | abort | resetBlockWindows | resetBlockLink | resetBlockAll =>
    cases carried
    exact .inl ⟨by decide, _, rfl⟩
  | define | undefine | layout | openWindow | hold | release | fence | unfence | close | flush | readWindow | readFault
  | readCounters | clearCounters | attach | detach | setLink | setMasks | readEvents | ackEvents =>
    cases carried
    exact .inr ⟨by decide, _, rfl⟩
  | _ => cases carried

theorem conclude_not_busy (s : State) (q b : Byte) (j : Judged) : (s.conclude q b j).cmd.result.outcome ≠ .busy := by
  rw [State.conclude_result]
  cases j <;> exact nofun

/-- Settles O5: a frame that asks whether a long command runs is answered BUSY, and an outcome of a command's own rule is
never BUSY. -/
theorem busyAnswersEveryOtherFrame : Obligations.BusyAnswersEveryOtherFrame := by
  intro s c code carried running
  rcases exec_of_frameCode s carried with ⟨exempt, judge, run⟩ | ⟨barred, judge, run⟩
  · exact ⟨fun barred => absurd exempt barred, fun _ => ⟨_, run, conclude_not_busy _ _ _ _⟩⟩
  · refine ⟨fun _ => ?_, fun exempt => absurd exempt barred⟩
    rw [run, s.commandUnlessBusy_busy running, State.endTransaction_eq]
    rfl

/-! ### How the bytes of a frame are judged (R155, R156) -/

/-- A number of parameters is required exactly of the codes that name a command. -/
theorem paramLength_eq_none_iff (code : Byte) : paramLength code = none ↔ commandCodes.contains code = false := by
  revert code; decide

/-- The codes that name a command have a row, whatever the sequence number and the parameters are. -/
theorem commandOf_isSome (code seq : Byte) (ps : List Byte) : (commandOf code seq ps).isSome = commandCodes.contains code := by
  simp only [commandOf, apply_ite Option.isSome, Option.isSome_some, Option.isSome_none]
  revert code; decide

/-- The bytes of a frame before its check code: code, sequence number, parameter length and parameters (section 11.2). -/
def frameHead (code seq : Byte) (ps : List Byte) : List Byte := code :: seq :: BitVec.ofNat 8 ps.length :: ps

section
variable {code seq : Byte} {ps : List Byte}

theorem rowOfTransaction_of_command (command : code ≠ resultOpeningCode) (rest : List Byte) :
    rowOfTransaction (code :: rest) = judgeFrame (code :: rest) := if_neg command

variable (command : code ≠ resultOpeningCode) (short : ps.length < 256)
include command short

/-- A frame that ends before its check code is discarded. -/
theorem rowOfTransaction_incomplete (k : Nat) :
    rowOfTransaction ((frameHead code seq ps).take k) = .frameDiscarded := by
  match k with
  | 0 => rfl
  | 1 | 2 => exact rowOfTransaction_of_command command _
  | k + 3 =>
    refine (rowOfTransaction_of_command command _).trans (if_pos ?_)
    rw [BitVec.toNat_ofNat, Nat.mod_eq_of_lt short, List.length_take]
    omega

/-- A frame with its check code is judged by that code, then by the bytes after it, and then by its command code and its
number of parameters. -/
theorem rowOfTransaction_complete (check : Byte) (extra : List Byte) :
    rowOfTransaction (frameHead code seq ps ++ [check] ++ extra) =
      if check ≠ crc8 (frameHead code seq ps) then .frameError seq code .check
      else if extra ≠ [] then .frameError seq code .length
      else if paramLength code = none then .frameError seq code .code
      else if paramLength code ≠ some ps.length then .frameError seq code .length
      else (commandOf code seq ps).getD (.frameError seq code .code) := by
  have count : (BitVec.ofNat 8 ps.length).toNat = ps.length := Nat.mod_eq_of_lt short
  have bytes : frameHead code seq ps ++ [check] ++ extra =
      code :: seq :: BitVec.ofNat 8 ps.length :: (ps ++ check :: extra) := by simp [frameHead]
  have checkAt : byteAt (ps ++ check :: extra) ps.length = check := by simp [byteAt]
  have ends : (ps ++ check :: extra).length ≠ ps.length + 1 ↔ extra ≠ [] := by
    rw [List.length_append, List.length_cons, ← List.length_pos_iff_ne_nil]; omega
  rw [bytes, rowOfTransaction_of_command command]
  unfold judgeFrame
  dsimp only
  rw [count, List.take_left, checkAt, if_neg (by simp), ← frameHead]
  simp only [ends, ne_comm (a := crc8 (frameHead code seq ps))]
  cases required : paramLength code with
  | none => simp
  | some m =>
    have known : commandCodes.contains code = true :=
      Bool.of_not_eq_false fun unknown => nomatch required.symm.trans ((paramLength_eq_none_iff code).mpr unknown)
    obtain ⟨i, row⟩ := Option.isSome_iff_exists.mp ((commandOf_isSome code seq ps).trans known)
    simp [row]

/-- With the right check code and no byte after it only the command code and the number of parameters are left to judge. -/
theorem rowOfTransaction_checked :
    rowOfTransaction (frameHead code seq ps ++ [crc8 (frameHead code seq ps)]) =
      if paramLength code = none then .frameError seq code .code
      else if paramLength code ≠ some ps.length then .frameError seq code .length
      else (commandOf code seq ps).getD (.frameError seq code .code) := by
  rw [← List.append_nil (_ ++ [_]), rowOfTransaction_complete command short, if_neg (not_not.mpr rfl),
    if_neg (not_not.mpr rfl)]

end

/-! ### Frames read back (O6) -/

section
variable {p : List Byte} {L : List (List Byte)} {lens : List Nat} (hp : p = L.flatten) (hl : L.map List.length = lens)
  (i k : Nat)
include hp hl

/-- A word that fills a section is read back whole. -/
theorem field_of_wordSection {m n : Nat} {x : BitVec m} (hb : L[i]? = some (beBytes n x.toNat)) (hk : (lens.take i).sum = k)
    (fills : 2 ^ m = 256 ^ n) : field m p k n = x := by
  have value : fieldAt p (k + 0) n = x.toNat :=
    (field_of_section hp hl hb hk (by rw [Laws.beBytes_length, Nat.zero_add])).trans (fieldAt_word x fills)
  rw [field_eq, ← Nat.add_zero k, value, BitVec.ofNat_toNat, BitVec.setWidth_eq]

theorem byteAt_of_byteSection {b : Byte} (hb : L[i]? = some [b]) (hk : (lens.take i).sum = k) : byteAt p k = b := by
  refine BitVec.eq_of_toNat_eq ?_
  rw [byteAt_toNat, ← Nat.add_zero k]
  exact (field_of_section hp hl hb hk (by simp)).trans (fieldAt_byte b [])

end

/-- DEFINE's parameters, section by section. -/
def defineSections (w : Byte) (d : DefineParams) : List (List Byte) :=
  [[w], beBytes 5 d.base.toNat, beBytes 4 d.size.toNat, beBytes 4 d.farBase.toNat, [d.cls], beBytes 2 d.packetSize.toNat,
    [d.shortPolicy], [d.fillByte], beBytes 2 d.nakInterval.toNat, beBytes 2 d.nakLimit.toNat, [d.strikeLimit],
    beBytes 2 d.budget.toNat]

/-- The window definition block after its window number is read back field by field. -/
theorem definitionOf_bytes (w : Byte) (d : DefineParams) : definitionOf (w :: d.bytes) = d := by
  have sections : w :: d.bytes = (defineSections w d).flatten := by simp [DefineParams.bytes, defineSections]
  have lengths : (defineSections w d).map List.length = [1, 5, 4, 4, 1, 2, 1, 1, 2, 2, 1, 2] := rfl
  have word := @field_of_wordSection _ _ _ sections lengths
  have byte := @byteAt_of_byteSection _ _ _ sections lengths
  unfold definitionOf
  rw [word 1 1 rfl rfl (by decide), word 2 6 rfl rfl (by decide), word 3 10 rfl rfl (by decide), byte 4 14 rfl rfl,
    word 5 15 rfl rfl (by decide), byte 6 17 rfl rfl, byte 7 18 rfl rfl, word 8 19 rfl rfl (by decide),
    word 9 21 rfl rfl (by decide), byte 10 23 rfl rfl, word 11 24 rfl rfl (by decide)]

/-- SET-LINK's parameters, section by section. -/
def linkParamSections (p : LinkParams) : List (List Byte) :=
  [[p.mode], beBytes 2 p.cycleLength.toNat, [p.keepAlive], [p.responseLimit], beBytes 2 p.recoveryLimit.toNat,
    beBytes 2 p.waitLimit.toNat]

theorem linkParamsOf_bytes (p : LinkParams) : linkParamsOf p.bytes = p := by
  have sections : p.bytes = (linkParamSections p).flatten := by simp [LinkParams.bytes, linkParamSections]
  have lengths : (linkParamSections p).map List.length = [1, 2, 1, 1, 2, 2] := rfl
  have word := @field_of_wordSection _ _ _ sections lengths
  have byte := @byteAt_of_byteSection _ _ _ sections lengths
  unfold linkParamsOf
  rw [byte 0 0 rfl rfl, word 1 1 rfl rfl (by decide), byte 2 3 rfl rfl, byte 3 4 rfl rfl, word 4 5 rfl rfl (by decide),
    word 5 7 rfl rfl (by decide)]

/-- The two bytes of a set of device kinds, after a first byte. -/
theorem field_kinds (b : Byte) (kinds : BitVec 16) : field 16 (b :: beBytes 2 kinds.toNat) 1 2 = kinds :=
  field_of_wordSection (L := [[b], beBytes 2 kinds.toNat]) rfl rfl 1 1 rfl rfl (by decide)

theorem counts_of_bytes (counts : Vector Byte 12) : (Vector.ofFn fun i : Fin 12 => byteAt counts.toList i.val) = counts := by
  ext i h
  simp [byteAt]

/-- A command that a frame carries is the command of its code, its sequence number and its parameters. -/
theorem commandOf_frame {c : Instr} {code : Byte} (targetOk : c.resetTargetOk = true) (carried : c.frameCode = some code) :
    commandOf code c.frameSeq c.frameParams = some c := by
  cases c with
  | getStatus | undefine | openWindow | hold | release | fence | unfence | close | flush | readWindow | readFault
  | readCounters | clearCounters | attach | detach | readEvents | abort => cases carried; rfl
  | define q w d => cases carried; exact congrArg (fun p => some (Instr.define q w p)) (definitionOf_bytes w d)
  | layout q counts => cases carried; exact congrArg (fun v => some (Instr.layout q v)) (counts_of_bytes counts)
  | setLink q p => cases carried; exact congrArg (fun r => some (Instr.setLink q r)) (linkParamsOf_bytes p)
  | setMasks q b kinds => cases carried; exact congrArg (fun k => some (Instr.setMasks q b k)) (field_kinds b kinds)
  | ackEvents q b kinds => cases carried; exact congrArg (fun k => some (Instr.ackEvents q b k)) (field_kinds b kinds)
  | resetBlockLink q t | resetBlockAll q t =>
    obtain rfl := of_decide_eq_true targetOk
    cases carried; rfl
  | resetBlockWindows q t =>
    have other : t ≠ 2 ∧ t ≠ 3 := by
      constructor <;> (rintro rfl; exact absurd targetOk Bool.false_ne_true)
    cases carried
    exact congrArg some ((if_neg other.1).trans (if_neg other.2))
  | _ => cases carried

/-- The shape of every command's frame (section 11.2). -/
theorem frameShape (c : Instr) : Laws.FrameShape.Statement c := by
  cases c with
  | getStatus q => exact Laws.FrameShape.getStatus q
  | define q w d => exact Laws.FrameShape.define q w d
  | undefine q b => exact Laws.FrameShape.undefine q b
  | layout q n => exact Laws.FrameShape.layout q n
  | openWindow q b => exact Laws.FrameShape.openWindow q b
  | hold q b => exact Laws.FrameShape.hold q b
  | release q b => exact Laws.FrameShape.release q b
  | fence q b => exact Laws.FrameShape.fence q b
  | unfence q b => exact Laws.FrameShape.unfence q b
  | close q b => exact Laws.FrameShape.close q b
  | flush q b => exact Laws.FrameShape.flush q b
  | readWindow q b => exact Laws.FrameShape.readWindow q b
  | readFault q b => exact Laws.FrameShape.readFault q b
  | readCounters q b => exact Laws.FrameShape.readCounters q b
  | clearCounters q b => exact Laws.FrameShape.clearCounters q b
  | attach q => exact Laws.FrameShape.attach q
  | detach q => exact Laws.FrameShape.detach q
  | setLink q p => exact Laws.FrameShape.setLink q p
  | setMasks q b k => exact Laws.FrameShape.setMasks q b k
  | readEvents q => exact Laws.FrameShape.readEvents q
  | ackEvents q b k => exact Laws.FrameShape.ackEvents q b k
  | abort q => exact Laws.FrameShape.abort q
  | resetBlockWindows q b => exact Laws.FrameShape.resetBlockWindows q b
  | resetBlockLink q b => exact Laws.FrameShape.resetBlockLink q b
  | resetBlockAll q b => exact Laws.FrameShape.resetBlockAll q b
  | _ => exact Laws.FrameShape.of_none rfl

/-- Settles O6: a frame with the right check code, no byte after it and the required number of parameters is the command of
its bytes. -/
theorem frameRoundTrip : Obligations.FrameRoundTrip := by
  intro c bytes wellFormed encoded
  obtain ⟨code, carried, rfl⟩ := Option.map_eq_some_iff.mp encoded
  obtain ⟨-, command, required, short⟩ := frameShape c code carried
  simp only [Instr.wellFormed, Bool.and_eq_true] at wellFormed
  obtain ⟨⟨⟨targetOk, -⟩, -⟩, -⟩ := wellFormed
  refine (rowOfTransaction_checked command short).trans ?_
  simp [required, commandOf_frame targetOk carried]

/-! ### The transactions of the management port (O7) -/

/-- A result transaction clocks the record out and then the idle pattern (R157). -/
theorem clockOut_eq (r : ResultRecord) (n : Nat) :
    r.clockOut n = (r.bytes ++ List.replicate n idlePattern).take n := by
  rw [ResultRecord.clockOut, List.take_append, List.take_replicate, Nat.min_eq_left (Nat.sub_le ..)]

/-- The record's bytes, the payload length as its two bytes (R175). -/
theorem resultRecord_bytes (r : ResultRecord) :
    let body := [r.seq, r.code, r.outcome.code, r.reason.code, BitVec.ofNat 8 (r.payload.length / 256),
      BitVec.ofNat 8 r.payload.length] ++ r.payload
    r.bytes = body ++ [crc8 body] := by
  simp [ResultRecord.bytes, beBytes]

/-- Settles O7: a frame is judged as far as its bytes go (`rowOfTransaction_incomplete`, `rowOfTransaction_complete`), and the
other transactions touch only the receiver, the result record and the bytes clocked out. -/
theorem transactionsOfTheManagementPort : Obligations.TransactionsOfTheManagementPort := by
  refine ⟨fun code seq check ps extra command short => ?_, fun s seq code d => ?_, fun s => ?_, fun s idle => ?_,
    fun s n => ?_, by decide, by decide, fun _ => rfl, by decide⟩
  · have complete := rowOfTransaction_complete (seq := seq) command short check
    refine ⟨fun k _ => rowOfTransaction_incomplete command short k, fun wrong => (complete extra).trans (if_pos wrong),
      fun right more => (complete extra).trans ((if_neg (not_not.mpr right)).trans (if_pos more)), ?_, ?_⟩
    · rintro rfl unknown
      exact (rowOfTransaction_checked command short).trans (if_pos ((paramLength_eq_none_iff code).mpr unknown))
    · rintro rfl m required other
      refine (rowOfTransaction_checked command short).trans ?_
      simp [required, other]
  · exact congrArg (fun t : State => Host.Outcome.next (t.setResult (.errorFor seq code d))) s.endTransaction_eq
  · exact congrArg Host.Outcome.next s.endTransaction_eq
  · show Host.Outcome.next { s with cmd := { s.cmd with receiver := s.cmd.receiver.fall } } = _
    rw [idle]; rfl
  · show Host.Outcome.next { s.endTransaction with
      out := { s.out with clocked := s.out.clocked ++ s.cmd.result.clockOut n } } = _
    rw [clockOut_eq, resultRecord_bytes, s.endTransaction_eq]
    rfl

end Sys2Proof.Proofs
end

section
/-! PROOF. The commands of the event unit: obligation O19. -/
namespace Sys2Proof.Proofs
open Sys2Proof.Machine Sys2Proof.Safety

/-! ### Targets and kinds of the parameters (R174) -/

theorem onTarget_numberOf (w : WinId) (judge : Target → Judged) : onTarget (numberOf w) judge = judge (.window w) := by
  rw [onTarget, targetOf_numberOf]

theorem onTarget_device (judge : Target → Judged) : onTarget 0xFF judge = judge .device := rfl

/-- A first parameter that names neither a window nor the device is refused BAD_PARAM (R174). -/
theorem onTarget_of_undefined {b : Byte} (above : 11 < b.toNat) (other : b ≠ 0xFF) (judge : Target → Judged) :
    onTarget b judge = .refuse .badParam := by
  have undefined : targetOf b = none := by rw [targetOf, if_neg other, windowOf_ge above]; rfl
  rw [onTarget, undefined]

theorem windowKindsOf_of_lt {n : Nat} {v : BitVec n} (h : v.toNat < 64) : windowKindsOf v.toNat = some (v.setWidth 6) := by
  rw [windowKindsOf, if_pos h, BitVec.ofNat_toNat]

theorem windowKindsOf_of_ge {n : Nat} (h : 64 ≤ n) : windowKindsOf n = none := if_neg (Nat.not_lt.mpr h)

theorem deviceKindsOf_of_lt {n : Nat} {v : BitVec n} (h : v.toNat < 512) : deviceKindsOf v.toNat = some (v.setWidth 9) := by
  rw [deviceKindsOf, if_pos h, BitVec.ofNat_toNat]

theorem deviceKindsOf_of_ge {n : Nat} (h : 512 ≤ n) : deviceKindsOf n = none := if_neg (Nat.not_lt.mpr h)

/-! ### What each rule leaves -/

theorem judgeSetMasks_undefined {wm : Byte} {dm : BitVec 16} (undefined : 64 ≤ wm.toNat ∨ 512 ≤ dm.toNat) (s : State) :
    judgeSetMasks wm dm s = .refuse .badParam := by
  unfold judgeSetMasks
  rcases undefined with h | h
  · rw [windowKindsOf_of_ge h]
  · rw [deviceKindsOf_of_ge h]
    cases windowKindsOf wm.toNat <;> rfl

theorem judgeSetMasks_done {wm : Byte} {dm : BitVec 16} (hw : wm.toNat < 64) (hd : dm.toNat < 512) (s : State) :
    judgeSetMasks wm dm s = .done (State.setAttn
      { s with ev := { s.ev with windowMask := wm.setWidth 6, deviceMask := dm.setWidth 9 } }) [] := by
  rw [judgeSetMasks, windowKindsOf_of_lt hw, deviceKindsOf_of_lt hd]

theorem judgeAckEvents_window (w : WinId) (ks : BitVec 16) (s : State) :
    judgeAckEvents (numberOf w) ks s =
      if ks.toNat < 64 then .done (s.ackWindow w (ks.setWidth 6)) [] else .refuse .badParam := by
  rw [judgeAckEvents, onTarget_numberOf]
  split_ifs with h
  · simp only [windowKindsOf_of_lt h]
  · simp only [windowKindsOf_of_ge (Nat.not_lt.mp h)]

theorem judgeAckEvents_device (ks : BitVec 16) (s : State) :
    judgeAckEvents 0xFF ks s =
      if ks.toNat < 512 then .done (s.ackDevice (ks.setWidth 9)) [] else .refuse .badParam := by
  rw [judgeAckEvents, onTarget_device]
  split_ifs with h
  · simp only [deviceKindsOf_of_lt h]
  · simp only [deviceKindsOf_of_ge (Nat.not_lt.mp h)]

/-- A frame that is DONE and whose rule ends with ATTN taking its level (R167): the record of the frame does not change that
level, so the next state is written by its own ATTN. -/
theorem done_attn_of {s t : State} (ready : Ready s) {q b : Byte} {j : State → Judged}
    (h : j (s.setCmd { s.cmd with receiver := .idle }) =
      .done (t.setAttn.setCmd { s.cmd with receiver := .idle }) []) (cmd : t.cmd = s.cmd) :
    ∃ u, (.next (s.commandUnlessBusy q b j) : Host.Outcome State Fault Refusal) = .next u ∧ u.ev.attn = u.attnLevel ∧
      u = answered { t with ev := { t.ev with attn := u.ev.attn } } ⟨q, b, .done, .absent, []⟩ :=
  ⟨answered t.setAttn ⟨q, b, .done, .absent, []⟩, done_of ready h (by rw [answered_eq, State.setAttn_cmd, cmd]), rfl, rfl⟩

/-- Settles O19: the refusals by the target and the kinds named, and what each command leaves of the event unit. -/
theorem eventUnitCommands : Obligations.EventUnitCommands := by
  intro s q b wm ks ready
  refine ⟨fun above other => ?_, done_of ready (t := s.clearCounters .device) rfl rfl,
    fun undefined => refused_of ready (judgeSetMasks_undefined undefined _), fun hw hd => ?_,
    fun ge => refused_of ready ?_, fun lt => ?_, ?_⟩
  · have undefined : ∀ judge, onTarget b judge = .refuse .badParam := onTarget_of_undefined above other
    exact ⟨refused_of ready (undefined _), refused_of ready (undefined _), refused_of ready (undefined _)⟩
  · exact done_attn_of ready
      (t := { s with ev := { s.ev with windowMask := wm.setWidth 6, deviceMask := ks.setWidth 9 } })
      (judgeSetMasks_done hw hd _) rfl
  · exact (judgeAckEvents_device ks _).trans (if_neg (Nat.not_lt.mpr ge))
  · exact done_attn_of ready
      (t := { s with ev := { s.ev with devicePending := s.ev.devicePending &&& ~~~(ks.setWidth 9) } })
      ((judgeAckEvents_device ks _).trans (if_pos lt)) rfl
  · rintro w rfl
    refine ⟨done_of ready (t := s.clearCounters (.window w)) (onTarget_numberOf w _) rfl, fun ge => refused_of ready ?_,
      fun lt => ?_⟩
    · exact (judgeAckEvents_window w ks _).trans (if_neg (Nat.not_lt.mpr ge))
    · exact done_attn_of ready
        (t := s.modWin w fun x => { x with pending := x.pending &&& ~~~(ks.setWidth 6) })
        ((judgeAckEvents_window w ks _).trans (if_pos lt)) rfl

end Sys2Proof.Proofs
end
